-- ==== Sys2Proof/Word.lean ====
section
/-! DEFINITION. Sys2Proof/Word.lean: the widths and numbers of the Segtora Z4-96 (spec/00_scope.md, Conventions) and the
names that the operands of its commands and events are built from. -/

namespace Sys2Proof

/-- One byte of a host frame or of a stored image. -/
abbrev Byte := BitVec 8
/-- A two-byte field, most significant byte first on the wire (R185). -/
abbrev Half := BitVec 16
/-- The angle of an extended position, 0..65535. -/
abbrev Angle := BitVec 16
/-- The turn of an extended position, -2048..+2047: twelve bits in two's complement. -/
abbrev Turn := BitVec 12
/-- The four axes; axis n is served by lane PLn and tracker TRKn. -/
abbrev Axis := Fin 4
/-- The 96 slots of the zone table. -/
abbrev SlotNo := Fin 96
/-- The eight zone lines ZL0..ZL7. -/
abbrev LineNo := Fin 8
/-- The 103 items of the record store: 0..95 slots, 96..99 AXIS0..AXIS3, 100 LINES, 101 PORTS, 102 FREEZE. -/
abbrev ItemNo := Fin 103
/-- The 206 rows of the record store. -/
abbrev RowNo := Fin 206
/-- The two copies of an item. -/
abbrev Copy := Fin 2

/-- A host port. -/
inductive Port where
  | a | b
deriving DecidableEq, Repr, Inhabited

/-- The port that is not this one. -/
def Port.other : Port → Port
  | .a => .b
  | .b => .a

/-- The table commands: those carried out under a grant of the table arbiter (chapters 2, 3 and 9). -/
inductive TableCommand where
  | create | amend | retire | arm | disarm | clear | transfer | releaseAll | reclaim
  | readZone | find | list
  | setAxis | setLines | setPorts | freeze | readConfig
deriving DecidableEq, Repr, Inhabited

/-- The port-local commands (R177). -/
inductive LocalCommand where
  | takeChanges | readFaults | axisStatus | lineStatus | deviceStatus
  | sweepStart | sweepStop | sweepStatus | sync | resync
deriving DecidableEq, Repr, Inhabited

/-- The commands that do not occupy the command slot (R171). -/
inductive ControlCommand where
  | nop | fetch | portReset | restart
deriving DecidableEq, Repr, Inhabited

/-- Every command the part knows (11.3). -/
inductive Command where
  | control (c : ControlCommand)
  | table (c : TableCommand)
  | portLocal (c : LocalCommand)
deriving DecidableEq, Repr, Inhabited

/-- What a row of the record store reads as (R115). An image is its 32 bytes. -/
inductive Row where
  | blank
  | clean (image : List Byte)
  | corrected (image : List Byte)
  | uncorrectable
deriving DecidableEq, Repr, Inhabited

/-- The bit errors a row has gathered since it was last read or written (R115, 8.5). -/
inductive Decay where
  /-- no new error -/
  | intact
  /-- one more bit of the row has flipped -/
  | oneBit
  /-- two or more further bits have flipped -/
  | manyBits
deriving DecidableEq, Repr, Inhabited

/-- What the row being programmed is found to hold after a full reset (R116). -/
inductive Tear where
  /-- the reset came before the program step had ended, and the row reads BLANK -/
  | blank
  /-- the reset came before the program step had ended, and the row reads UNCORRECTABLE -/
  | uncorrectable
  /-- the reset came during the verify read, and the row reads as the image written -/
  | asWritten
deriving DecidableEq, Repr, Inhabited

/-- What the verify read of a row program returns (R116). -/
inductive VerifyRead where
  /-- CLEAN, with the image that was written -/
  | asWritten
  /-- anything the row may read as -/
  | reads (r : Row)
deriving DecidableEq, Repr, Inhabited

/-- The causes of a full reset other than RESTART (R139). -/
inductive ResetCause where
  | powerOn | supplyDip | resetPin
deriving DecidableEq, Repr, Inhabited

/-- When an event falls: after the event before it, or at the same moment (the ties of R17). -/
inductive Moment where
  | later | together
deriving DecidableEq, Repr, Inhabited

/-- The moments of a transaction at a host port that have effects of their own (R168, R169, R175, R176). -/
inductive FetchMoment where
  /-- CS falls: the transaction opens, whatever frame its bytes then make -/
  | opens
  /-- the fourth byte arrives, and the four are a FETCH frame -/
  | recognised
  /-- CS rises on a FETCH, `clocked` bits after the frame's four bytes -/
  | ends (clocked : Nat)
deriving DecidableEq, Repr, Inhabited

/-- A count that stays at 65535 (R72, R151, R172): the sum, or 65535 when the sum passes it. -/
def addSaturating (x : Half) (n : Nat) : Half :=
  if x.toNat + n < 65536 then BitVec.ofNat 16 (x.toNat + n) else 65535

end Sys2Proof
end

