-- ==== Sys2Proof/Config.lean ====
section
/-! DEFINITION. Sys2Proof/Config.lean: what the Z4-96 fixes once for all, and the two values that its spec leaves open. -/

namespace Sys2Proof.Config

/-- The bytes of a stored image (R115). -/
def imageBytes : Nat := 32
/-- FIND returns the first eight handles (R52), and LIST up to eight (R55). -/
def handlesPerPage : Nat := 8
/-- TAKE_CHANGES takes up to 12 entries (R111). -/
def entriesPerTake : Nat := 12
/-- The bits of a whole sample frame (4.1). -/
def sampleFrameBits : Nat := 32
/-- The allowed step is capped at 32767 (R61). -/
def stepCap : Nat := 32767
/-- The fill byte that a port shifts out (R168). -/
def fillByte : Byte := 0xFF

/-- FREE VALUE (log entry 6). What a row reads as when it was erased and one of its bits has then flipped: the spec says
what a row of all ones reads as (BLANK) and that the check corrects a single-bit error in a row (R115), not what the
check makes of the erased pattern. -/
opaque erasedRowWithOneError : Row

/-- FREE VALUE (log entry 21). The pass number, less 1, that a first-fault record takes where 65535 passes are completed: R154
makes it passes completed plus 1, and R151 keeps it to 1..65535. -/
opaque passNumberBeyond : Fin 65535

end Sys2Proof.Config
end

