-- ==== Sys2Proof/Syntax.lean ====
section
/-! DEFINITION. Sys2Proof/Syntax.lean: the commands and events of the Z4-96, one constructor per row of
spec/opcode_table.json, in the table's order. A host command arrives at a port as a request frame, so a row that is the
judging of a frame carries the port, the frame's tag and its payload bytes. A row that is a grant of the table to a port
carries the port alone: the command, its tag and its payload wait in the port's command slot (R173). -/

namespace Sys2Proof

/-- The commands and events of spec/opcode_table.json. -/
inductive Instr where
  /-- FULL_RESET (R139); `tear` is what a row whose program the reset cuts short then reads as (R116). -/
  | fullReset (cause : ResetCause) (tear : Tear)
  /-- HOLD_END (R139). -/
  | holdEnd
  /-- LOAD_ROW_READ (R141); `decay` is what the row has suffered before this read. -/
  | loadRowRead (decay : Decay)
  /-- MOVE_TO_RUNNING (R149). -/
  | moveToRunning
  /-- REFUSED_FORMAT (R170): the bytes clocked in, at least one. -/
  | refusedFormat (p : Port) (bytes : List Byte)
  /-- UNKNOWN_COMMAND (R171): a well-formed frame with a code that 11.3 does not list. -/
  | unknownCommand (p : Port) (code tag : Byte) (payload : List Byte)
  /-- NOP (R171). -/
  | nop (p : Port) (tag : Byte)
  /-- FETCH (R175), at one of the moments of its transaction. The fall of CS, which is the same for every transaction, is a
  moment of this row, the only one whose rules tell a transaction's moments apart (log entry 23); the tag has not arrived then
  and is not looked at. -/
  | fetch (p : Port) (tag : Byte) (moment : FetchMoment)
  /-- PORT_RESET (R182); `duringGrant`: it is taken while the grant of the port's QUEUED command runs (R174, log
  entry 18). -/
  | portReset (p : Port) (tag : Byte) (duringGrant : Bool)
  /-- RESTART (R183). -/
  | restart (p : Port) (tag : Byte) (tear : Tear)
  /-- TABLE_COMMAND_ACCEPT (R174). -/
  | tableCommandAccept (p : Port) (command : TableCommand) (tag : Byte) (payload : List Byte)
  /-- CREATE (R25): the grant of port `p`'s command. -/
  | create (p : Port)
  /-- AMEND (R28). -/
  | amend (p : Port)
  /-- RETIRE (R33). -/
  | retire (p : Port)
  /-- ARM (R35). -/
  | arm (p : Port)
  /-- DISARM (R36). -/
  | disarm (p : Port)
  /-- CLEAR (R37). -/
  | clear (p : Port)
  /-- TRANSFER (R39). -/
  | transfer (p : Port)
  /-- RELEASE_ALL (R40). -/
  | releaseAll (p : Port)
  /-- RECLAIM (R41). -/
  | reclaim (p : Port)
  /-- READ_ZONE (R47). -/
  | readZone (p : Port)
  /-- FIND (R52). -/
  | find (p : Port)
  /-- LIST (R55). -/
  | list (p : Port)
  /-- SET_AXIS (R160). -/
  | setAxis (p : Port)
  /-- SET_LINES (R162). -/
  | setLines (p : Port)
  /-- SET_PORTS (R163). -/
  | setPorts (p : Port)
  /-- FREEZE (R166). -/
  | freeze (p : Port)
  /-- READ_CONFIG (R164). -/
  | readConfig (p : Port)
  /-- TAKE_CHANGES (R111). -/
  | takeChanges (p : Port) (tag : Byte) (payload : List Byte)
  /-- READ_FAULTS (R181). -/
  | readFaults (p : Port) (tag : Byte) (payload : List Byte)
  /-- AXIS_STATUS (R73). -/
  | axisStatus (p : Port) (tag : Byte) (payload : List Byte)
  /-- LINE_STATUS (R105). -/
  | lineStatus (p : Port) (tag : Byte) (payload : List Byte)
  /-- DEVICE_STATUS (R178). -/
  | deviceStatus (p : Port) (tag : Byte) (payload : List Byte)
  /-- SWEEP_START (R152). -/
  | sweepStart (p : Port) (tag : Byte) (payload : List Byte)
  /-- SWEEP_STOP (R156). -/
  | sweepStop (p : Port) (tag : Byte) (payload : List Byte)
  /-- SWEEP_STATUS (R157). -/
  | sweepStatus (p : Port) (tag : Byte) (payload : List Byte)
  /-- SYNC (R130). -/
  | sync (p : Port) (tag : Byte) (payload : List Byte)
  /-- RESYNC (R74). -/
  | resync (p : Port) (tag : Byte) (payload : List Byte) (moment : Moment)
  /-- SAMPLE_FRAME (R57, R58): `bits` data bits arrived; `word` holds the first 32 of them, the first to arrive in bit
  31; `straddles`: its frame select was already active when the device became RUNNING. -/
  | sampleFrame (lane : Axis) (bits : Nat) (word : BitVec 32) (straddles : Bool) (moment : Moment)
  /-- STALENESS_EXPIRY (R67). -/
  | stalenessExpiry (axis : Axis) (moment : Moment)
  /-- PASS (R83). -/
  | pass (axis : Axis)
  /-- DWELL_TIMER_EXPIRY (R81). -/
  | dwellTimerExpiry (slot : SlotNo) (moment : Moment)
  /-- DWELL_EXPIRY (R91). -/
  | dwellExpiry (slot : SlotNo)
  /-- AXIS_UNSURE (R93). -/
  | axisUnsure (axis : Axis)
  /-- AXIS_SURE (R95). -/
  | axisSure (axis : Axis)
  /-- STORE_GRANT (R123). -/
  | storeGrant
  /-- PROGRAM_VERIFY (R126 to R128). -/
  | programVerify (read : VerifyRead)
  /-- SWEEP_READ (R154); `decay` is what the row has suffered before this read. -/
  | sweepRead (decay : Decay)
deriving DecidableEq, Repr

end Sys2Proof
end

