-- ==== Sys2Proof/Machine/State.lean ====
section
/-! DEFINITION. Sys2Proof/Machine/State.lean: the state of the Z4-96 as plain data, the ways a step can stop, and the
part right after a full reset. -/

namespace Sys2Proof.Machine

/-! ### Why a step can stop -/

/-- A fault that stops the part. The spec gives the part none: every error it describes is an effect on its state (a
result code, a fault flag, a counter), and no meaning raises a fault. -/
inductive Fault where
deriving DecidableEq, Repr

/-- A refusal to give a meaning. -/
inductive Refusal where
  /-- A row of spec/opcode_table.json without a meaning. Raised by exec's refused arms alone, of which there are none:
  every row has its meaning. Safe. -/
  | notModelled (mnemonic : String)
deriving DecidableEq, Repr

/-! ### Positions and zones (chapter 1) -/

/-- An extended position, turn:angle (00_scope, Extended position). -/
structure ExtPos where
  turn : Turn
  angle : Angle
deriving DecidableEq, Repr, Inhabited

/-- The two kinds of zone, and of list (R4, R8). -/
inductive Kind where
  | absolute | periodic
deriving DecidableEq, Repr, Inhabited

/-- A zone's kind and bounds (R4): lower and upper, or start and end. -/
inductive Bounds where
  | absolute (lower upper : ExtPos)
  | periodic (start stop : Angle)
deriving DecidableEq, Repr

/-- The two zone actions (R5). -/
inductive Action where
  | follow | latch
deriving DecidableEq, Repr, Inhabited

/-- A zone's behaviour while its axis has no trustworthy position (R5). -/
inductive StalePolicy where
  | hold | asserts | release
deriving DecidableEq, Repr, Inhabited

/-- The owner of a zone (R6). -/
inductive Owner where
  | a | b | shared
deriving DecidableEq, Repr, Inhabited

/-- A zone's judged relation to its shaft (R77). -/
inductive Occupancy where
  | unknown | outside | qualifying | inside | tripped
deriving DecidableEq, Repr, Inhabited

/-- The record of one zone: its incarnation, its definition fields (R4, R5) and its runtime fields (R7). -/
structure Zone where
  incarnation : Byte
  axis : Axis
  bounds : Bounds
  hysteresis : BitVec 12
  dwell : Byte
  line : Option LineNo
  priority : BitVec 4
  action : Action
  policy : StalePolicy
  owner : Owner
  armed : Bool
  exclusive : Bool
  persistent : Bool
  label : List Byte
  occupancy : Occupancy
  tripMark : Bool
  transits : Byte
deriving DecidableEq, Repr

/-- One of the 96 places of the table (R1). -/
inductive Slot where
  /-- VACANT, with the remembered incarnation -/
  | vacant (remembered : Byte)
  /-- LIVE, holding a zone -/
  | live (z : Zone)
  /-- QUARANTINED -/
  | quarantined
deriving DecidableEq, Repr

/-- The name of a zone: slot and incarnation (00_scope, Handle). -/
structure Handle where
  slot : SlotNo
  incarnation : Byte
deriving DecidableEq, Repr

/-- A pair of values, one for each host port. -/
structure PerPort (α : Type) where
  a : α
  b : α
deriving DecidableEq, Repr

/-- The four classes of claimant of the table arbiter (R14). -/
inductive Claimant where
  | portA | portB | evaluator | store
deriving DecidableEq, Repr

/-- A table command whose grant is running and whose port was reset meanwhile: its work runs to its end and its response
is not placed (R16, R174). -/
structure RunningGrant where
  port : Port
  command : TableCommand
  payload : List Byte
deriving DecidableEq, Repr

/-! ### Configuration records (R158) -/

/-- The three freeze levels (R165). -/
inductive FreezeLevel where
  | opened | layout | fixed
deriving DecidableEq, Repr, Inhabited

/-- The init mode of an AXIS record. -/
inductive InitMode where
  | zero | preset
deriving DecidableEq, Repr, Inhabited

/-- An AXIS record. Max step is 1..32767 and jump limit 1..15: 0 is refused by SET_AXIS and by the load. -/
structure AxisConfig where
  enabled : Bool
  reverse : Bool
  offset : Angle
  maxStep : BitVec 15
  jumpLimit : BitVec 4
  staleness : Byte
  initMode : InitMode
  presetTurns : Turn
deriving DecidableEq, Repr

/-- The polarity of a zone line. -/
inductive Polarity where
  | activeHigh | activeLow
deriving DecidableEq, Repr, Inhabited

/-- One line of the LINES record. -/
structure LineConfig where
  enabled : Bool
  polarity : Polarity
deriving DecidableEq, Repr

/-- The subscription of a port. -/
inductive Subscription where
  | none | own | all
deriving DecidableEq, Repr, Inhabited

/-- A set of the eleven fault flags, in the bit order of 11.2. -/
abbrev FlagSet := BitVec 11

/-- One port's entry of the PORTS record. -/
structure PortConfig where
  subscription : Subscription
  mask : FlagSet
  attentionOnDone : Bool
deriving DecidableEq, Repr

/-! ### Trackers (chapter 4) -/

/-- The five tracker states (4.2). -/
inductive TrackerState where
  | disabled | acquiring | tracking | stale | lost
deriving DecidableEq, Repr, Inhabited

/-- The causes of LOST (R70). -/
inductive LostCause where
  | jumps | turnLimit | slip
deriving DecidableEq, Repr, Inhabited

/-- A lowest and a highest extended position (4.4). -/
structure Span where
  lowest : ExtPos
  highest : ExtPos
deriving DecidableEq, Repr

/-- A span and the final position that goes with it (R66, R82). -/
structure SweptSpan where
  span : Span
  final : ExtPos
deriving DecidableEq, Repr

/-- The five counters of a tracker (R72). -/
structure Counters where
  accepted : Half
  checkFail : Half
  sensorInvalid : Half
  jumps : Half
  gaps : Half
deriving DecidableEq, Repr

/-- A running staleness timer: when it was last started and its timeout in units of 100 µs (R67). -/
structure StaleTimer where
  start : Nat
  timeout : Byte
deriving DecidableEq, Repr

/-- The record of a tracker (chapter 4, opening table). `acquireTurn` is none for CONFIG. -/
structure Tracker where
  state : TrackerState
  cause : Option LostCause
  position : Option ExtPos
  sequence : Option (BitVec 4)
  lastAngle : Angle
  live : Option Span
  held : Option SweptSpan
  sure : Bool
  jumpRun : BitVec 4
  timer : Option StaleTimer
  acquireTurn : Option Turn
  rawStatus : Option (BitVec 4)
  counters : Counters
deriving DecidableEq, Repr

/-! ### Evaluator (R78) -/

/-- The kinds of axis condition. -/
inductive ConditionKind where
  | sure | unsure
deriving DecidableEq, Repr

/-- A pending axis condition with the moment it was posted. -/
structure Condition where
  kind : ConditionKind
  posted : Nat
deriving DecidableEq, Repr

/-- A dwell timer: the incarnation of its zone, its start, its length in ms, and the moment of its expiry once it has
run out (R78, R90, R91). -/
structure DwellTimer where
  incarnation : Byte
  start : Nat
  length : Byte
  expired : Option Nat
deriving DecidableEq, Repr

/-- A work item of the evaluator (R78). -/
inductive WorkItem where
  | pass (n : Axis)
  | condition (n : Axis) (kind : ConditionKind)
  | expiry (slot : SlotNo)
deriving DecidableEq, Repr

/-! ### Lines and change sets (chapter 6) -/

/-- The output of a zone line: released, or driven to a level (R99, R101). -/
inductive Pin where
  | released | low | high
deriving DecidableEq, Repr

/-- A line record (R99) and the level of its pin. -/
structure LineRecord where
  active : Bool
  driving : Option Handle
  count : Nat
  pin : Pin
deriving DecidableEq, Repr

/-- A set of notice causes, in the bit order of a TAKE_CHANGES entry (11.3): OCCUPANCY 4, TRANSIT 3, REMOVED 2,
QUARANTINED 1, TRANSFERRED 0. -/
abbrev CauseSet := BitVec 5

/-! ### Host ports (chapter 10) -/

/-- The result codes (11.4). -/
inductive Result where
  | ok | notReady | unknownCommand | badArgs | frozen | staleHandle | notOwner | badBounds | overlap | tableFull
  | slotTaken | tripped | quarantined | notQuarantined | cursorLost | axisDisabled | sweepRunning | degraded
  | noResponse
deriving DecidableEq, Repr

/-- A response held in a port's buffer (R174, R175). -/
structure Response where
  tag : Byte
  code : Byte
  result : Result
  payload : List Byte
deriving DecidableEq, Repr

/-- A port's command slot with the command or the response it holds (R173). The command that waits is always a SYNC. -/
inductive CommandSlot where
  | empty
  | queued (command : TableCommand) (tag : Byte) (payload : List Byte)
  | waiting (tag : Byte)
  | done (response : Response)
deriving DecidableEq, Repr

/-- The last-frame indicator (R172). -/
inductive LastFrame where
  | none | accepted | refusedBusy | refusedFormat
deriving DecidableEq, Repr

/-- The SYNC record of a port (chapter 7, opening table). The table gives the dropped count 0..103; by R131 it can be counted up
to 104 (log entry 27). -/
structure SyncRecord where
  waiting : Bool
  dropped : Nat
deriving DecidableEq, Repr

/-- A FETCH that a port has recognised (R175): its tag, and the response that the slot held at that moment; none where it
held none, and NO_RESPONSE is shifted out. -/
structure RecognisedFetch where
  tag : Byte
  held : Option Response
deriving DecidableEq, Repr

/-- A transaction in progress: the status byte as it was sampled when CS fell (R169), and the FETCH, once its fourth byte has
arrived (R175). -/
structure Transaction where
  status : Byte
  fetch : Option RecognisedFetch
deriving DecidableEq, Repr

/-- The state of a host port (chapter 10, opening table; the SYNC record is the store's, kept per port). A change set
holds, for each slot, the causes of its entry; no cause means no entry (R106). `transaction` is the transaction in progress
(R168, R169). `shifted` and `shiftedTail` are what the port shifted out on MISO in its last transaction: the whole bytes, and
the bits of a last, incomplete byte. -/
structure PortState where
  slot : CommandSlot
  lastFrame : LastFrame
  formatRefusals : Half
  busyRefusals : Half
  changes : Vector CauseSet 96
  faults : FlagSet
  sync : SyncRecord
  transaction : Option Transaction
  shifted : List Byte
  shiftedTail : List Bool
deriving DecidableEq, Repr

/-! ### Record store (chapters 7 and 8) -/

/-- The state of a copy in the copy map (R117). -/
inductive CopyState where
  | valid | bad | worn | blank
deriving DecidableEq, Repr

/-- An item's entry in the copy map (R117, R118). -/
structure ItemEntry where
  copies : Vector CopyState 2
  newest : Option Copy
  generation : Option Byte
deriving DecidableEq, Repr

/-- The two SYNC marks of a queue entry or of the in-flight item (R120). -/
structure Marks where
  a : Bool
  b : Bool
deriving DecidableEq, Repr

/-- An entry of the commit queue (R120). -/
structure QueueEntry where
  item : ItemNo
  marks : Marks
deriving DecidableEq, Repr

/-- A commit whose target has been chosen (7.4). -/
structure Program where
  item : ItemNo
  marks : Marks
  image : List Byte
  target : Copy
  generation : Byte
deriving DecidableEq, Repr

/-- The commit engine (7.4). -/
inductive Engine where
  | idle
  | claiming (item : ItemNo) (marks : Marks)
  | programming (p : Program)
  | retrying (p : Program)
deriving DecidableEq, Repr

/-- What the row array is doing (R135). A sweep read whose sweep was stopped meanwhile is not judged (R156). -/
inductive ArrayUse where
  | free
  | program
  | sweepRead (row : RowNo) (judged : Bool)
deriving DecidableEq, Repr

/-- The states of the integrity sweep (R151). -/
inductive SweepState where
  | idle | running | passed | failed | stopped
deriving DecidableEq, Repr

/-- The first-fault record (R151, R154). -/
structure FirstFault where
  row : RowNo
  uncorrectable : Bool
  generation : Option Byte
  pass : Nat
deriving DecidableEq, Repr

/-- The sweep record (R151); `asked`: a read has been asked of the array and has not begun (R153, R156). -/
structure Sweep where
  state : SweepState
  startRow : RowNo
  loop : Bool
  stopOnFault : Bool
  nextRow : RowNo
  rowsRead : Nat
  passes : Half
  corrected : Half
  uncorrectable : Half
  first : Option FirstFault
  asked : Bool
deriving DecidableEq, Repr

/-- The class of a copy at load (R141). -/
inductive CopyClass where
  | valid (image : List Byte)
  | blank
  | corrupt
deriving DecidableEq, Repr

/-- A copy as the load read it: its class, and whether it was read CORRECTED. -/
structure CopyRead where
  cls : CopyClass
  corrected : Bool
deriving DecidableEq, Repr

/-- The start-up load: the next row to read (206: all read), copy 0 of the item being read, and the figures of R150. -/
structure Load where
  nextRow : Nat
  first : Option CopyRead
  empty : Nat
  good : Nat
  staleCopy : Nat
  oneCopy : Nat
  lost : Nat
  corrected : Nat
deriving DecidableEq, Repr

/-- The two device states (R139). -/
inductive DeviceState where
  | starting | running
deriving DecidableEq, Repr

/-! ### The part -/

/-- The state of the Z4-96. -/
structure State where
  /-- the commands that wait, first in, first out (the model's own) -/
  pending : List Instr
  /-- the moment of the last event that is dated (the model's own; R17, R78) -/
  now : Nat
  /-- the device state (R139) -/
  device : DeviceState
  /-- the supply is at or above its operating threshold (R139) -/
  supplyValid : Bool
  /-- the RESET_N pin is high (R139) -/
  resetN : Bool
  /-- the start-up load (R141 to R150) -/
  load : Load
  /-- the 96 slots (R1) -/
  slots : Vector Slot 96
  /-- the ABSOLUTE list of each axis (R8) -/
  absolute : Vector (List SlotNo) 4
  /-- the PERIODIC list of each axis (R8) -/
  periodic : Vector (List SlotNo) 4
  /-- the "position available" copy of each axis (R19, R69) -/
  available : Vector Bool 4
  /-- the AXIS records (R158) -/
  axes : Vector AxisConfig 4
  /-- the LINES record (R158) -/
  lineConfig : Vector LineConfig 8
  /-- the PORTS record (R158) -/
  portConfig : PerPort PortConfig
  /-- the effective freeze level: the FREEZE record's live value (R158, R165) -/
  freezeLevel : FreezeLevel
  /-- the arbiter's rotation pointer (R15) -/
  pointer : Claimant
  /-- the table command whose grant runs on after a PORT_RESET (R174) -/
  running : Option RunningGrant
  /-- the pending pass of each axis, with the moment it became pending (R78) -/
  passes : Vector (Option Nat) 4
  /-- the pending conditions of each axis, in posting order (R78, R80) -/
  conditions : Vector (List Condition) 4
  /-- the dwell timer of the zone in each slot (R78, R90) -/
  dwells : Vector (Option DwellTimer) 96
  /-- the four trackers (chapter 4) -/
  trackers : Vector Tracker 4
  /-- the eight line records (R99) -/
  lines : Vector LineRecord 8
  /-- the two host ports (chapter 10) -/
  ports : PerPort PortState
  /-- the row array (R115) -/
  rows : Vector Row 206
  /-- the rows that are worn: every program into such a row fails, and a full reset keeps this as it keeps the row (R117,
  R128, R138) -/
  wornRows : Vector Bool 206
  /-- the copy map (R117, R118) -/
  copyMap : Vector ItemEntry 103
  /-- the commit queue (R120) -/
  queue : List QueueEntry
  /-- the commit engine (7.4) -/
  engine : Engine
  /-- what the row array is doing (R135) -/
  array : ArrayUse
  /-- the committed freeze level; none while it is not known (R134) -/
  committedFreeze : Option FreezeLevel
  /-- the integrity sweep (R151) -/
  sweep : Sweep
deriving DecidableEq, Repr

/-! ### Reset -/

/-- The defaults of an AXIS record (R158). -/
def AxisConfig.default : AxisConfig :=
  { enabled := false, reverse := false, offset := 0, maxStep := 4096, jumpLimit := 3, staleness := 50,
    initMode := .zero, presetTurns := 0 }

/-- The defaults of one line of the LINES record (R158). -/
def LineConfig.default : LineConfig := { enabled := true, polarity := .activeHigh }

/-- The defaults of one port's entry of the PORTS record (R158). -/
def PortConfig.default : PortConfig := { subscription := .own, mask := BitVec.allOnes 11, attentionOnDone := true }

/-- All five counters 0 (R72). -/
def Counters.zero : Counters := ⟨0, 0, 0, 0, 0⟩

/-- A tracker in STARTING (R76). The last angle after a full reset is a DESIGN CHOICE (log entry 4). -/
def Tracker.reset : Tracker :=
  { state := .disabled, cause := none, position := none, sequence := none, lastAngle := 0, live := none, held := none,
    sure := false, jumpRun := 0, timer := none, acquireTurn := none, rawStatus := none, counters := Counters.zero }

/-- A line record after a full reset (R99). -/
def LineRecord.reset : LineRecord := { active := false, driving := none, count := 0, pin := .released }

/-- No causes: no entry. -/
def noCauses : CauseSet := 0

/-- A port after a full reset (R184), with the given fault copy. -/
def PortState.reset (faults : FlagSet) : PortState :=
  { slot := .empty, lastFrame := .none, formatRefusals := 0, busyRefusals := 0, changes := Vector.replicate 96 noCauses,
    faults := faults, sync := ⟨false, 0⟩, transaction := none, shifted := [], shiftedTail := [] }

/-- An item's entry of the copy map before the load has decided the item (log entry 4). -/
def ItemEntry.reset : ItemEntry := { copies := Vector.replicate 2 .blank, newest := none, generation := none }

/-- The sweep record after a full reset (R151). -/
def Sweep.reset : Sweep :=
  { state := .idle, startRow := 0, loop := false, stopOnFault := false, nextRow := 0, rowsRead := 0, passes := 0,
    corrected := 0, uncorrectable := 0, first := none, asked := false }

/-- The load before its first row (R139). -/
def Load.reset : Load :=
  { nextRow := 0, first := none, empty := 0, good := 0, staleCopy := 0, oneCopy := 0, lost := 0, corrected := 0 }

/-- The part with every working state discarded (R19, R76, R99, R137, R151, R184), over the rows it keeps and their wear, with
the given fault copies. `pending` and `now` are the model's own and are kept. -/
def State.afterReset (pending : List Instr) (now : Nat) (rows : Vector Row 206) (wornRows : Vector Bool 206)
    (faults : FlagSet) : State :=
  { pending := pending
    now := now
    device := .starting
    supplyValid := true
    resetN := true
    load := Load.reset
    slots := Vector.replicate 96 (.vacant 0)
    absolute := Vector.replicate 4 []
    periodic := Vector.replicate 4 []
    available := Vector.replicate 4 false
    axes := Vector.replicate 4 AxisConfig.default
    lineConfig := Vector.replicate 8 LineConfig.default
    portConfig := ⟨PortConfig.default, PortConfig.default⟩
    freezeLevel := .opened
    pointer := .store
    running := none
    passes := Vector.replicate 4 none
    conditions := Vector.replicate 4 []
    dwells := Vector.replicate 96 none
    trackers := Vector.replicate 4 Tracker.reset
    lines := Vector.replicate 8 LineRecord.reset
    ports := ⟨PortState.reset faults, PortState.reset faults⟩
    rows := rows
    wornRows := wornRows
    copyMap := Vector.replicate 103 ItemEntry.reset
    queue := []
    engine := .idle
    array := .free
    committedFreeze := none
    sweep := Sweep.reset }

/-- A row array in which nothing has been programmed: every row is erased (log entry 3). -/
def erasedRows : Vector Row 206 := Vector.replicate 206 .blank

/-- A row array in which nothing has been programmed has no worn row (log entry 3). -/
def unwornRows : Vector Bool 206 := Vector.replicate 206 false

/-- RESET_SEEN, bit 0 of a fault mask (11.2). -/
def resetSeen : FlagSet := 1

/-- The part right after a full reset, as its hold ends (R139, R184): STARTING, the load at row 0, RESET_SEEN in both
fault copies, and a row array in which nothing has been programmed (log entry 3). -/
def State.reset : State := State.afterReset [] 0 erasedRows unwornRows resetSeen

end Sys2Proof.Machine
end

