-- ==== Sys2Proof/Decode.lean ====
section
/-! DEFINITION. Sys2Proof/Decode.lean: from the bytes of a transaction at a host port to the command they spell (R168,
R170, R171, R175, R185, R186), and back. spec/opcode_table.json gives its rows no bits, so `decodeTableWord` reads none:
a host command is told apart by the bytes of its request frame, which `judgeFrame` and `hostCommandOf` judge. -/

namespace Sys2Proof

/-- The command that a word of the table's bits spells. No row of spec/opcode_table.json has bits, so no word spells
one. -/
def decodeTableWord (_nbits _w : Nat) : Option Instr := none

/-! ### The checks of R186 -/

/-- One shift of the CRC register (R186). -/
def crcShift (poly r : Byte) : Byte :=
  if r.msb then (r <<< 1) ^^^ poly else r <<< 1

/-- One byte taken into the CRC register (R186). -/
def crcByte (poly r b : Byte) : Byte :=
  crcShift poly (crcShift poly (crcShift poly (crcShift poly
    (crcShift poly (crcShift poly (crcShift poly (crcShift poly (r ^^^ b))))))))

/-- The CRC-8 register after the bytes, from its initial value (R186). -/
def crc8 (poly initial : Byte) (bytes : List Byte) : Byte :=
  bytes.foldl (crcByte poly) initial

/-- The check of request and response frames: polynomial 2Fh, initial FFh (R186). -/
def frameCheck (bytes : List Byte) : Byte := crc8 0x2F 0xFF bytes

/-- The check of sample frames: polynomial 1Dh, initial 00h, over the first three bytes (R186). -/
def sampleCheck (word : BitVec 32) : Byte :=
  crc8 0x1D 0x00 [word.extractLsb' 24 8, word.extractLsb' 16 8, word.extractLsb' 8 8]

/-! ### Command codes (11.3) -/

/-- The code of a table command. -/
def TableCommand.code : TableCommand → Byte
  | .create => 0x10 | .amend => 0x11 | .retire => 0x12 | .arm => 0x13 | .disarm => 0x14 | .clear => 0x15
  | .transfer => 0x16 | .releaseAll => 0x17 | .reclaim => 0x18
  | .readZone => 0x20 | .find => 0x21 | .list => 0x22
  | .setAxis => 0x30 | .setLines => 0x31 | .setPorts => 0x32 | .freeze => 0x33 | .readConfig => 0x34

/-- The code of a port-local command. -/
def LocalCommand.code : LocalCommand → Byte
  | .takeChanges => 0x40 | .readFaults => 0x41 | .axisStatus => 0x42 | .lineStatus => 0x43 | .deviceStatus => 0x44
  | .sweepStart => 0x45 | .sweepStop => 0x46 | .sweepStatus => 0x47 | .sync => 0x48 | .resync => 0x49

/-- The code of a command that does not occupy the slot. -/
def ControlCommand.code : ControlCommand → Byte
  | .nop => 0x00 | .fetch => 0x01 | .portReset => 0x02 | .restart => 0x03

/-- The code of a command. -/
def Command.code : Command → Byte
  | .control c => c.code
  | .table c => c.code
  | .portLocal c => c.code

/-- The commands the part knows, in the order of 11.3. -/
def knownCommands : List Command :=
  [.control .nop, .control .fetch, .control .portReset, .control .restart,
   .table .create, .table .amend, .table .retire, .table .arm, .table .disarm, .table .clear, .table .transfer,
   .table .releaseAll, .table .reclaim, .table .readZone, .table .find, .table .list, .table .setAxis,
   .table .setLines, .table .setPorts, .table .freeze, .table .readConfig,
   .portLocal .takeChanges, .portLocal .readFaults, .portLocal .axisStatus, .portLocal .lineStatus,
   .portLocal .deviceStatus, .portLocal .sweepStart, .portLocal .sweepStop, .portLocal .sweepStatus,
   .portLocal .sync, .portLocal .resync]

/-- The command a code names; none for a code the part does not know (11.3, R171). -/
def commandOfCode (code : Byte) : Option Command :=
  knownCommands.find? fun c => c.code == code

/-- FETCH, PORT_RESET, RESTART and NOP carry no payload (R170). -/
def isControlCode (code : Byte) : Bool :=
  code == 0x00 || code == 0x01 || code == 0x02 || code == 0x03

/-! ### Request frames -/

/-- The bytes of a request frame (R170, 11.1). -/
def requestFrame (code tag : Byte) (payload : List Byte) : List Byte :=
  let body := code :: tag :: BitVec.ofNat 8 payload.length :: payload
  body ++ [frameCheck body]

/-- A payload that a request frame can carry: at most 32 bytes (R170). -/
def payloadFits (payload : List Byte) : Bool := decide (payload.length ≤ 32)

/-- How the complete bytes of one transaction are judged when CS rises. -/
inductive FrameJudgement where
  /-- no complete byte: a status poll (R168) -/
  | poll
  /-- REFUSED_FORMAT (R170) -/
  | malformed
  /-- a well-formed frame -/
  | wellFormed (code tag : Byte) (payload : List Byte)
deriving DecidableEq, Repr

/-- The first four bytes make a recognised FETCH (R175). -/
def recognisedFetch : List Byte → Option Byte
  | code :: tag :: len :: check :: _ =>
    if code == 0x01 && len == 0x00 && check == frameCheck [code, tag, len] then some tag else none
  | _ => none

/-- The judgement of a transaction's bytes (R168, R170, R175): a FETCH is judged on its first four bytes alone. -/
def judgeFrame (bytes : List Byte) : FrameJudgement :=
  match recognisedFetch bytes with
  | some tag => .wellFormed 0x01 tag []
  | none =>
    match bytes with
    | [] => .poll
    | code :: tag :: len :: rest =>
      if rest = [] then .malformed
      else if 32 < len.toNat then .malformed
      else if rest.length ≠ len.toNat + 1 then .malformed
      else if rest.getLast? ≠ some (frameCheck (code :: tag :: len :: rest.dropLast)) then .malformed
      else if isControlCode code && len != 0 then .malformed
      else .wellFormed code tag rest.dropLast
    | _ => .malformed

/-- What the bytes of a transaction do not say of the event that judging them is. -/
structure Circumstance where
  /-- for a PORT_RESET: it falls while the grant of the port's command runs -/
  duringGrant : Bool := false
  /-- for a RESTART: what a row whose program it cuts short then reads as -/
  tear : Tear := .uncorrectable
  /-- for a RESYNC: when it falls -/
  moment : Moment := .later
deriving DecidableEq, Repr

/-- The port-local command as a row of the table. -/
def localInstr (p : Port) (tag : Byte) (payload : List Byte) (m : Moment) : LocalCommand → Instr
  | .takeChanges => .takeChanges p tag payload
  | .readFaults => .readFaults p tag payload
  | .axisStatus => .axisStatus p tag payload
  | .lineStatus => .lineStatus p tag payload
  | .deviceStatus => .deviceStatus p tag payload
  | .sweepStart => .sweepStart p tag payload
  | .sweepStop => .sweepStop p tag payload
  | .sweepStatus => .sweepStatus p tag payload
  | .sync => .sync p tag payload
  | .resync => .resync p tag payload m

/-- The row of spec/opcode_table.json that the judging of a transaction's bytes at port `p` is (R170, R171); none for a
status poll. -/
def hostCommandOf (p : Port) (bytes : List Byte) (x : Circumstance) : Option Instr :=
  match judgeFrame bytes with
  | .poll => none
  | .malformed => some (.refusedFormat p bytes)
  | .wellFormed code tag payload =>
    match commandOfCode code with
    | none => some (.unknownCommand p code tag payload)
    | some (.control .nop) => some (.nop p tag)
    | some (.control .fetch) => some (.fetch p tag (.ends (8 * (bytes.length - 4))))
    | some (.control .portReset) => some (.portReset p tag x.duringGrant)
    | some (.control .restart) => some (.restart p tag x.tear)
    | some (.table c) => some (.tableCommandAccept p c tag payload)
    | some (.portLocal c) => some (localInstr p tag payload x.moment c)

/-- The port and the bytes of the transaction that a host command is; none for the rows that are not the judging of a
frame, and for the moments of a transaction before its end. The bytes a host clocks in after a FETCH frame form no part of it (R170) and are written 00h here. -/
def transactionOf : Instr → Option (Port × List Byte × Circumstance)
  | .refusedFormat p bytes => some (p, bytes, {})
  | .unknownCommand p code tag payload => some (p, requestFrame code tag payload, {})
  | .nop p tag => some (p, requestFrame 0x00 tag [], {})
  | .fetch p tag (.ends clocked) => some (p, requestFrame 0x01 tag [] ++ List.replicate (clocked / 8) 0, {})
  | .portReset p tag duringGrant => some (p, requestFrame 0x02 tag [], { duringGrant := duringGrant })
  | .restart p tag tear => some (p, requestFrame 0x03 tag [], { tear := tear })
  | .tableCommandAccept p c tag payload => some (p, requestFrame c.code tag payload, {})
  | .takeChanges p tag payload => some (p, requestFrame LocalCommand.takeChanges.code tag payload, {})
  | .readFaults p tag payload => some (p, requestFrame LocalCommand.readFaults.code tag payload, {})
  | .axisStatus p tag payload => some (p, requestFrame LocalCommand.axisStatus.code tag payload, {})
  | .lineStatus p tag payload => some (p, requestFrame LocalCommand.lineStatus.code tag payload, {})
  | .deviceStatus p tag payload => some (p, requestFrame LocalCommand.deviceStatus.code tag payload, {})
  | .sweepStart p tag payload => some (p, requestFrame LocalCommand.sweepStart.code tag payload, {})
  | .sweepStop p tag payload => some (p, requestFrame LocalCommand.sweepStop.code tag payload, {})
  | .sweepStatus p tag payload => some (p, requestFrame LocalCommand.sweepStatus.code tag payload, {})
  | .sync p tag payload => some (p, requestFrame LocalCommand.sync.code tag payload, {})
  | .resync p tag payload m => some (p, requestFrame LocalCommand.resync.code tag payload, { moment := m })
  | .fetch _ _ .opens | .fetch _ _ .recognised
  | .fullReset _ _ | .holdEnd | .loadRowRead _ | .moveToRunning
  | .create _ | .amend _ | .retire _ | .arm _ | .disarm _ | .clear _ | .transfer _ | .releaseAll _ | .reclaim _
  | .readZone _ | .find _ | .list _ | .setAxis _ | .setLines _ | .setPorts _ | .freeze _ | .readConfig _
  | .sampleFrame _ _ _ _ _ | .stalenessExpiry _ _ | .pass _ | .dwellTimerExpiry _ _ | .dwellExpiry _
  | .axisUnsure _ | .axisSure _ | .storeGrant | .programVerify _ | .sweepRead _ => none

end Sys2Proof
end

