-- ==== Sys2Proof/Machine/Access.lean ====
section
/-! DEFINITION. Sys2Proof/Machine/Access.lean: the named reads and updates of State that every other file of the machine
uses. -/

namespace Sys2Proof.Machine

/-! ### One of two ports -/

/-- The value of a port. -/
def PerPort.get {α : Type} (x : PerPort α) : Port → α
  | .a => x.a
  | .b => x.b

/-- The pair with a new value for one port. -/
def PerPort.set {α : Type} (x : PerPort α) (p : Port) (v : α) : PerPort α :=
  match p with
  | .a => { x with a := v }
  | .b => { x with b := v }

/-- The mark of a port. -/
def Marks.get (m : Marks) : Port → Bool
  | .a => m.a
  | .b => m.b

/-- The marks with a new value for one port. -/
def Marks.set (m : Marks) (p : Port) (v : Bool) : Marks :=
  match p with
  | .a => { m with a := v }
  | .b => { m with b := v }

/-- Both marks clear. -/
def Marks.clear : Marks := ⟨false, false⟩

/-- The marks set in either (R128). -/
def Marks.union (m n : Marks) : Marks := ⟨m.a || n.a, m.b || n.b⟩

/-- The port as an owner (R6). -/
def ownerOf : Port → Owner
  | .a => .a
  | .b => .b

/-- The port as a claimant class (R14). -/
def classOf : Port → Claimant
  | .a => .portA
  | .b => .portB

/-- The rows of an item: copy 0 of item k is row 2k and copy 1 is row 2k+1 (R115). -/
def rowOf (k : ItemNo) (c : Copy) : RowNo := ⟨2 * k.val + c.val, by omega⟩

/-- The item a row belongs to (R154). -/
def itemOfRow (r : RowNo) : ItemNo := ⟨r.val / 2, by omega⟩

/-- The copy a row holds (R154). -/
def copyOfRow (r : RowNo) : Copy := ⟨r.val % 2, by omega⟩

/-- The item of a slot (1.1). -/
def slotItem (i : SlotNo) : ItemNo := ⟨i.val, by omega⟩

/-- The item of an AXIS record. -/
def axisItem (n : Axis) : ItemNo := ⟨96 + n.val, by omega⟩

/-- Items LINES, PORTS and FREEZE. -/
def linesItem : ItemNo := 100
def portsItem : ItemNo := 101
def freezeItem : ItemNo := 102

/-- What an item keeps (00_scope, Items and rows). -/
inductive ItemKind where
  | slot (i : SlotNo)
  | axis (n : Axis)
  | lines
  | ports
  | freeze
deriving DecidableEq, Repr

/-- The kind of an item. -/
def itemKind (k : ItemNo) : ItemKind :=
  if h : k.val < 96 then .slot ⟨k.val, h⟩
  else if h : k.val - 96 < 4 then .axis ⟨k.val - 96, h⟩
  else if k.val = 100 then .lines
  else if k.val = 101 then .ports
  else .freeze

/-- Every slot in ascending order. -/
def allSlots : List SlotNo := List.finRange 96
/-- Every axis in ascending order. -/
def allAxes : List Axis := List.finRange 4
/-- Every line in order. -/
def allLines : List LineNo := List.finRange 8
/-- Every item in order. -/
def allItems : List ItemNo := List.finRange 103
/-- Both ports. -/
def bothPorts : List Port := [.a, .b]

/-! ### Reads -/

namespace State

/-- The part is held in reset: the supply is below its threshold or RESET_N is low (R139). -/
def held (s : State) : Bool := !s.supplyValid || !s.resetN

/-- The part is RUNNING and not held in reset. -/
def inService (s : State) : Bool := decide (s.device = .running) && !s.held

/-- The slot of a number. -/
def slot (s : State) (i : SlotNo) : Slot := s.slots[i]

/-- The zone of a LIVE slot. -/
def zone (s : State) (i : SlotNo) : Option Zone :=
  match s.slots[i] with
  | .live z => some z
  | .vacant _ | .quarantined => none

/-- One of the eight lists (R8). -/
def zoneList (s : State) (n : Axis) (k : Kind) : List SlotNo :=
  match k with
  | .absolute => s.absolute[n]
  | .periodic => s.periodic[n]

/-- The tracker of an axis. -/
def tracker (s : State) (n : Axis) : Tracker := s.trackers[n]

/-- The AXIS record of an axis. -/
def axisConfig (s : State) (n : Axis) : AxisConfig := s.axes[n]

/-- The pending pass of an axis. -/
def pendingPass (s : State) (n : Axis) : Option Nat := s.passes[n]

/-- The pending conditions of an axis. -/
def pendingConditions (s : State) (n : Axis) : List Condition := s.conditions[n]

/-- The dwell timer of the zone in a slot. -/
def dwell (s : State) (i : SlotNo) : Option DwellTimer := s.dwells[i]

/-- The record of a line. -/
def line (s : State) (l : LineNo) : LineRecord := s.lines[l]

/-- A host port. -/
def port (s : State) (p : Port) : PortState := s.ports.get p

/-- A row. -/
def row (s : State) (r : RowNo) : Row := s.rows[r]

/-- A row is worn. -/
def worn (s : State) (r : RowNo) : Bool := s.wornRows[r]

/-- An item's entry of the copy map. -/
def item (s : State) (k : ItemNo) : ItemEntry := s.copyMap[k]

/-! ### Updates -/

/-- The queue of waiting commands, replaced (the model's own). -/
def setPending (s : State) (v : List Instr) : State := { s with pending := v }

/-- The moment of the last dated event. -/
def setNow (s : State) (v : Nat) : State := { s with now := v }

def setDevice (s : State) (v : DeviceState) : State := { s with device := v }
def setSupply (s : State) (supply resetN : Bool) : State := { s with supplyValid := supply, resetN := resetN }
def setLoad (s : State) (v : Load) : State := { s with load := v }
def setSlot (s : State) (i : SlotNo) (v : Slot) : State := { s with slots := s.slots.set i v }
def setAbsolute (s : State) (n : Axis) (v : List SlotNo) : State := { s with absolute := s.absolute.set n v }
def setPeriodic (s : State) (n : Axis) (v : List SlotNo) : State := { s with periodic := s.periodic.set n v }
def setAvailable (s : State) (n : Axis) (v : Bool) : State := { s with available := s.available.set n v }
def setAxisConfig (s : State) (n : Axis) (v : AxisConfig) : State := { s with axes := s.axes.set n v }
def setLineConfig (s : State) (v : Vector LineConfig 8) : State := { s with lineConfig := v }
def setPortConfig (s : State) (v : PerPort PortConfig) : State := { s with portConfig := v }
def setFreeze (s : State) (v : FreezeLevel) : State := { s with freezeLevel := v }
def setPointer (s : State) (v : Claimant) : State := { s with pointer := v }
def setRunning (s : State) (v : Option RunningGrant) : State := { s with running := v }
def setPass (s : State) (n : Axis) (v : Option Nat) : State := { s with passes := s.passes.set n v }
def setConditions (s : State) (n : Axis) (v : List Condition) : State := { s with conditions := s.conditions.set n v }
def setDwell (s : State) (i : SlotNo) (v : Option DwellTimer) : State := { s with dwells := s.dwells.set i v }
def setTracker (s : State) (n : Axis) (v : Tracker) : State := { s with trackers := s.trackers.set n v }
def setLine (s : State) (l : LineNo) (v : LineRecord) : State := { s with lines := s.lines.set l v }
def setPort (s : State) (p : Port) (v : PortState) : State := { s with ports := s.ports.set p v }
def setRow (s : State) (r : RowNo) (v : Row) : State := { s with rows := s.rows.set r v }
def setWorn (s : State) (r : RowNo) (v : Bool) : State := { s with wornRows := s.wornRows.set r v }
def setItem (s : State) (k : ItemNo) (v : ItemEntry) : State := { s with copyMap := s.copyMap.set k v }
def setQueue (s : State) (v : List QueueEntry) : State := { s with queue := v }
def setEngine (s : State) (v : Engine) : State := { s with engine := v }
def setArray (s : State) (v : ArrayUse) : State := { s with array := v }
def setCommitted (s : State) (v : Option FreezeLevel) : State := { s with committedFreeze := v }
def setSweep (s : State) (v : Sweep) : State := { s with sweep := v }

/-- A list of an axis, replaced (R9). -/
def setZoneList (s : State) (n : Axis) (k : Kind) (v : List SlotNo) : State :=
  match k with
  | .absolute => s.setAbsolute n v
  | .periodic => s.setPeriodic n v

/-- The part at the moment of an event: a moment of its own, or that of the event before it (log entry 2). -/
def tick (s : State) (m : Moment) : State :=
  match m with
  | .later => s.setNow (s.now + 1)
  | .together => s

end State

end Sys2Proof.Machine
end

