-- ==== Sys2Proof/Machine/Flags.lean ====
section
/-! DEFINITION. Sys2Proof/Machine/Flags.lean: the eleven fault flags, the four conditions behind four of them, the
attention lines and the status byte (R113, R114, R169, R179 to R181, 11.1, 11.2). -/

namespace Sys2Proof.Machine

/-- The eleven fault flags, in the bit order of 11.2. -/
inductive Flag where
  | resetSeen | frameFault | sensorFault | sensorWarning | storeCorrected | storeUncorrectable | storeWriteFault
  | axisStale | axisLost | storeExhausted | quarantine
deriving DecidableEq, Repr

/-- The bit of a flag in a fault mask (11.2). -/
def Flag.mask : Flag → FlagSet
  | .resetSeen => 0x001 | .frameFault => 0x002 | .sensorFault => 0x004 | .sensorWarning => 0x008
  | .storeCorrected => 0x010 | .storeUncorrectable => 0x020 | .storeWriteFault => 0x040
  | .axisStale => 0x080 | .axisLost => 0x100 | .storeExhausted => 0x200 | .quarantine => 0x400

/-- A flag is in a set. -/
def FlagSet.has (f : FlagSet) (x : Flag) : Bool := f &&& x.mask != 0

/-- A set with a flag raised in it; raising a flag that is set leaves it set (R179). -/
def FlagSet.raised (f : FlagSet) (x : Flag) : FlagSet := f ||| x.mask

/-- A flag raised in one port's fault copy (R179). -/
def raiseAt (p : Port) (x : Flag) (s : State) : State :=
  s.setPort p { s.port p with faults := (s.port p).faults.raised x }

/-- A flag raised in both fault copies (R179, R180). -/
def raiseBoth (x : Flag) (s : State) : State := raiseAt .b x (raiseAt .a x s)

/-! ### Conditions (R180) -/

/-- A copy state is WORN. -/
def CopyState.isWorn (c : CopyState) : Bool := decide (c = .worn)

/-- Both copies of an item are WORN (R128, R129). -/
def ItemEntry.bothWorn (e : ItemEntry) : Bool := e.copies[0].isWorn && e.copies[1].isWorn

/-- The number of slots QUARANTINED in the table. -/
def quarantinedSlots (s : State) : Nat := (allSlots.filter fun i => decide (s.slot i = .quarantined)).length

/-- AXIS_STALE holds: at least one axis is STALE. -/
def axisStaleHolds (s : State) : Bool := allAxes.any fun n => decide ((s.tracker n).state = .stale)

/-- AXIS_LOST holds: at least one axis is LOST. -/
def axisLostHolds (s : State) : Bool := allAxes.any fun n => decide ((s.tracker n).state = .lost)

/-- STORE_EXHAUSTED holds: at least one item has both copies WORN. -/
def storeExhaustedHolds (s : State) : Bool := allItems.any fun k => (s.item k).bothWorn

/-- QUARANTINE holds: at least one slot is QUARANTINED; it holds from the move to RUNNING (R145). -/
def quarantineHolds (s : State) : Bool := decide (s.device = .running) && decide (0 < quarantinedSlots s)

/-- The condition flags whose condition is true. -/
def conditionFlags (s : State) : FlagSet :=
  (if axisStaleHolds s then Flag.axisStale.mask else 0) ||| (if axisLostHolds s then Flag.axisLost.mask else 0) |||
  (if storeExhaustedHolds s then Flag.storeExhausted.mask else 0) |||
  (if quarantineHolds s then Flag.quarantine.mask else 0)

/-- The condition byte of READ_FAULTS: bits 0..3 AXIS_STALE, AXIS_LOST, STORE_EXHAUSTED, QUARANTINE (11.3). -/
def conditionByte (s : State) : Byte :=
  (if axisStaleHolds s then 1 else 0) ||| (if axisLostHolds s then 2 else 0) |||
  (if storeExhaustedHolds s then 4 else 0) ||| (if quarantineHolds s then 8 else 0)

/-! ### Attention (R113, R114) -/

/-- A command slot is DONE. -/
def CommandSlot.isDone : CommandSlot → Bool
  | .done _ => true
  | _ => false

/-- A change set holds no entry. -/
def noChanges (changes : Vector CauseSet 96) : Bool := allSlots.all fun i => decide (changes[i] = noCauses)

/-- The PORTS entry by which a port's attention is judged: the defaults until the device is RUNNING (R114). -/
def portConfigInForce (s : State) (p : Port) : PortConfig :=
  match s.device with
  | .starting => PortConfig.default
  | .running => s.portConfig.get p

/-- ATN_P is active (R113); the pin is driven low while it is and released while it is not. -/
def attention (s : State) (p : Port) : Bool :=
  let c := portConfigInForce s p
  let q := s.port p
  (q.slot.isDone && c.attentionOnDone) ||
  (!noChanges q.changes && decide (c.subscription ≠ .none)) ||
  decide (q.faults &&& c.mask ≠ 0)

/-! ### The status byte (R169, 11.1) -/

/-- The slot field of the status byte. -/
def CommandSlot.code : CommandSlot → Byte
  | .empty => 0
  | .queued _ _ _ => 1
  | .waiting _ => 2
  | .done _ => 3

/-- The last-frame field of the status byte. -/
def LastFrame.code : LastFrame → Byte
  | .none => 0
  | .accepted => 1
  | .refusedBusy => 2
  | .refusedFormat => 3

/-- The status byte of a port. -/
def statusByte (s : State) (p : Port) : Byte :=
  let q := s.port p
  (if s.device = .starting then 0x80 else 0) ||| (q.slot.code <<< 5) ||| (q.lastFrame.code <<< 3) |||
  (if noChanges q.changes then 0 else 4) ||| (if q.faults = 0 then 0 else 2) ||| (if attention s p then 1 else 0)

/-- The status byte that a port shifts out first in a transaction: as it stood when CS fell (R169). A transaction that is in
progress at no step has opened at its own (log entry 23). -/
def openingStatus (s : State) (p : Port) : Byte :=
  match (s.port p).transaction with
  | some x => x.status
  | none => statusByte s p

/-- The transaction in progress at a port is a recognised FETCH (R175). -/
def fetchInProgress (s : State) (p : Port) : Bool :=
  match (s.port p).transaction with
  | some x => x.fetch.isSome
  | none => false

/-- A port can judge a frame that is no FETCH: it is not held in reset (R139), and the first four bytes of its transaction have
made no FETCH (R170, R175). -/
def judgesFrames (s : State) (p : Port) : Bool := !s.held && !fetchInProgress s p

end Sys2Proof.Machine
end

