-- ==== Sys2Proof/Machine/Geometry.lean ====
section
/-! DEFINITION. Sys2Proof/Machine/Geometry.lean: extended positions, angle sets, the intersection of zones, and the
within, held and touched tests (00_scope, R4, R8, R10, R52, R84, R85). -/

namespace Sys2Proof.Machine

/-- An extended position as a count along the shaft: the distance from one position to another is the difference of
their counts, and the order of positions is the order of their counts (00_scope, Extended position). -/
def ExtPos.counts (p : ExtPos) : Int := p.turn.toInt * 65536 + p.angle.toNat

/-- The order of extended positions: turn first, then angle. -/
def ExtPos.le (p q : ExtPos) : Bool := decide (p.counts ≤ q.counts)

/-- Strictly below, in the order of extended positions. -/
def ExtPos.lt (p q : ExtPos) : Bool := decide (p.counts < q.counts)

/-- The lower of two positions. -/
def ExtPos.lower (p q : ExtPos) : ExtPos := if p.le q then p else q

/-- The higher of two positions. -/
def ExtPos.higher (p q : ExtPos) : ExtPos := if p.le q then q else p

/-- The span of a single position. -/
def Span.single (p : ExtPos) : Span := ⟨p, p⟩

/-- The span widened so that it includes a position (R65). -/
def Span.widen (s : Span) (p : ExtPos) : Span := ⟨s.lowest.lower p, s.highest.higher p⟩

/-- The kind of a zone's bounds. -/
def Bounds.kind : Bounds → Kind
  | .absolute _ _ => .absolute
  | .periodic _ _ => .periodic

/-- The angle set of a PERIODIC zone holds an angle (R4): from start up to end, or, where start is above end, from start
up to 65535 and from 0 up to end. -/
def arcContains (start stop a : Angle) : Bool :=
  if start ≤ stop then decide (start ≤ a) && decide (a ≤ stop) else decide (start ≤ a) || decide (a ≤ stop)

/-- The width of a PERIODIC zone's angle set (R4). -/
def arcWidth (start stop : Angle) : Nat :=
  if start ≤ stop then stop.toNat - start.toNat + 1 else 65536 - start.toNat + stop.toNat + 1

/-- The condition between the fields of a geometry (R4). -/
def boundsOk (b : Bounds) (hysteresis : BitVec 12) : Bool :=
  match b with
  | .absolute lower upper => lower.le upper
  | .periodic start stop => decide (arcWidth start stop + 2 * hysteresis.toNat < 65536)

/-- Two angle sets have an angle in common (R10): the start of one lies in the other. -/
def arcsMeet (s₁ e₁ s₂ e₂ : Angle) : Bool := arcContains s₁ e₁ s₂ || arcContains s₂ e₂ s₁

/-- Two zones of one axis intersect (R10). Zones of different kinds are not compared. -/
def intersects : Bounds → Bounds → Bool
  | .absolute l₁ u₁, .absolute l₂ u₂ => l₁.le u₂ && l₂.le u₁
  | .periodic s₁ e₁, .periodic s₂ e₂ => arcsMeet s₁ e₁ s₂ e₂
  | _, _ => false

/-- A zone contains a position: the test of FIND (R52), and the within test (R84). Hysteresis plays no part. -/
def Bounds.contains : Bounds → ExtPos → Bool
  | .absolute lower upper, p => lower.le p && p.le upper
  | .periodic start stop, p => arcContains start stop p.angle

/-- The held test (R84). A position is never below -2048:0 or above +2047:65535, so ending a widened ABSOLUTE interval at
those extremes leaves no position out. -/
def Bounds.holds (b : Bounds) (hysteresis : BitVec 12) (p : ExtPos) : Bool :=
  match b with
  | .absolute lower upper =>
    decide (lower.counts - hysteresis.toNat ≤ p.counts) && decide (p.counts ≤ upper.counts + hysteresis.toNat)
  | .periodic start stop =>
    arcContains (start - hysteresis.setWidth 16) (stop + hysteresis.setWidth 16) p.angle

/-- The touched test (R85). -/
def Bounds.touched (b : Bounds) (s : Span) : Bool :=
  match b with
  | .absolute lower upper => s.lowest.le upper && lower.le s.highest
  | .periodic start stop =>
    decide (65536 ≤ s.highest.counts - s.lowest.counts) ||
      arcsMeet s.lowest.angle s.highest.angle start stop

/-- The order of two bounds of one kind, as the lists compare them before the slot number (R8): ABSOLUTE by lower, then
upper; PERIODIC by start, then end. -/
def Bounds.before : Bounds → Bounds → Bool
  | .absolute l₁ u₁, .absolute l₂ u₂ => l₁.lt l₂ || (decide (l₁ = l₂) && u₁.lt u₂)
  | .periodic s₁ e₁, .periodic s₂ e₂ => decide (s₁ < s₂) || (decide (s₁ = s₂) && decide (e₁ < e₂))
  | _, _ => false

/-- The order of two zones of one list (R8). -/
def zoneBefore (b₁ : Bounds) (i₁ : SlotNo) (b₂ : Bounds) (i₂ : SlotNo) : Bool :=
  b₁.before b₂ || (decide (b₁ = b₂) && decide (i₁ < i₂))

end Sys2Proof.Machine
end

