-- ==== Sys2Proof/Machine/Operands.lean ====
section
/-! DEFINITION. Sys2Proof/Machine/Operands.lean: the byte layouts of chapter 11: the fields of request payloads and how
check 1 judges them (R185), the definition block, the stored images (R187), and the codes of responses. -/

namespace Sys2Proof.Machine

/-! ### Fields -/

/-- A two-byte field from its bytes, most significant first (R185). -/
def half (h l : Byte) : Half := h ++ l

/-- The bytes of a two-byte field. -/
def halfBytes (w : Half) : List Byte := [w.extractLsb' 8 8, w.extractLsb' 0 8]

/-- A turn from its 16 bits in two's complement; none outside -2048..+2047 (R185). -/
def turnOf (w : Half) : Option Turn :=
  let t := w.setWidth 12
  if t.signExtend 16 = w then some t else none

/-- The 16 bits of a turn. -/
def turnBits (t : Turn) : Half := t.signExtend 16

/-- An extended position is four bytes: the turn, then the angle (R185). -/
def posBytes (p : ExtPos) : List Byte := halfBytes (turnBits p.turn) ++ halfBytes p.angle

/-- An extended position from its two fields. -/
def posOf (turn angle : Half) : Option ExtPos := (turnOf turn).map fun t => ⟨t, angle⟩

/-- A slot number 0..95. -/
def slotOf (b : Byte) : Option SlotNo := if h : b.toNat < 96 then some ⟨b.toNat, h⟩ else none

/-- An axis 0..3. -/
def axisOf (b : Byte) : Option Axis := if h : b.toNat < 4 then some ⟨b.toNat, h⟩ else none

/-- A row number 0..205. -/
def rowNoOf (b : Byte) : Option RowNo := if h : b.toNat < 206 then some ⟨b.toNat, h⟩ else none

/-- A byte that must be 00h or 01h (R185). -/
def yesNoOf (b : Byte) : Option Bool := if b = 0 then some false else if b = 1 then some true else none

/-- The byte of a yes or no. -/
def yesNo (b : Bool) : Byte := if b then 1 else 0

/-- A count in one byte. -/
def countByte (n : Nat) : Byte := BitVec.ofNat 8 n

/-- A handle: slot 0..95, incarnation 1..255 (R3). -/
def handleOf (slot incarnation : Byte) : Option Handle :=
  if incarnation = 0 then none else (slotOf slot).map fun i => ⟨i, incarnation⟩

/-- A handle is two bytes, the slot and then the incarnation (R185). -/
def handleBytes (h : Handle) : List Byte := [countByte h.slot.val, h.incarnation]

/-- The driving handle of a line; none is FFFFh (R185). -/
def drivingBytes : Option Handle → List Byte
  | some h => handleBytes h
  | none => [0xFF, 0xFF]

/-- The line field: 0..7, or 0Fh for NONE (11.2). -/
def lineOf (b : Byte) : Option (Option LineNo) :=
  if b = 0x0F then some none else if h : b.toNat < 8 then some (some ⟨b.toNat, h⟩) else none

/-- The code of a line field. -/
def lineCode : Option LineNo → Byte
  | some l => countByte l.val
  | none => 0x0F

/-- The hysteresis field: 0..4095 (R4). -/
def hysteresisOf (w : Half) : Option (BitVec 12) := if w.toNat < 4096 then some (w.setWidth 12) else none

/-- The stale policy codes (11.2). -/
def policyOf (c : BitVec 2) : Option StalePolicy :=
  if c = 0 then some .hold else if c = 1 then some .asserts else if c = 2 then some .release else none

def policyCode : StalePolicy → BitVec 2
  | .hold => 0 | .asserts => 1 | .release => 2

/-- The owner codes (11.2). -/
def ownerOfCode (c : BitVec 2) : Option Owner :=
  if c = 0 then some .a else if c = 1 then some .b else if c = 2 then some .shared else none

def ownerCode : Owner → BitVec 2
  | .a => 0 | .b => 1 | .shared => 2

/-- The byte of an owner in a response. -/
def ownerByte (o : Owner) : Byte := (ownerCode o).setWidth 8

/-- The owner choices (11.2, R6). -/
inductive OwnerChoice where
  | self | other | shared
deriving DecidableEq, Repr

/-- The owner choice codes; OTHER is for TRANSFER alone. -/
def ownerChoiceOf (b : Byte) : Option OwnerChoice :=
  if b = 0 then some .self else if b = 1 then some .other else if b = 2 then some .shared else none

/-- The owner that a choice names for the requesting port (R6, R39). -/
def OwnerChoice.owner (p : Port) : OwnerChoice → Owner
  | .self => ownerOf p
  | .other => ownerOf p.other
  | .shared => .shared

/-- The occupancy codes (11.2). -/
def occupancyCode : Occupancy → Byte
  | .unknown => 0 | .outside => 1 | .qualifying => 2 | .inside => 3 | .tripped => 4

/-- The freeze level codes (11.2). -/
def freezeOf (b : Byte) : Option FreezeLevel :=
  if b = 0 then some .opened else if b = 1 then some .layout else if b = 2 then some .fixed else none

def freezeCode : FreezeLevel → Byte
  | .opened => 0 | .layout => 1 | .fixed => 2

/-- A freeze level, or FFh for none. -/
def freezeByte : Option FreezeLevel → Byte
  | some l => freezeCode l
  | none => 0xFF

/-- The durability answers (R49, R129). -/
inductive Durability where
  | committed | pending | volatile | notDurable
deriving DecidableEq, Repr

def durabilityCode : Durability → Byte
  | .committed => 0 | .pending => 1 | .volatile => 2 | .notDurable => 3

/-- The flags byte of a response: bit 0 no-change, bit 1 resynchronised (11.2). -/
def flagsByte (noChange resynchronised : Bool) : Byte :=
  (if noChange then 1 else 0) ||| (if resynchronised then 2 else 0)

/-- The result codes (11.4). -/
def resultCode : Result → Byte
  | .ok => 0x00 | .notReady => 0x01 | .unknownCommand => 0x02 | .badArgs => 0x03 | .frozen => 0x04
  | .staleHandle => 0x05 | .notOwner => 0x06 | .badBounds => 0x07 | .overlap => 0x08 | .tableFull => 0x09
  | .slotTaken => 0x0A | .tripped => 0x0B | .quarantined => 0x0C | .notQuarantined => 0x0D | .cursorLost => 0x0E
  | .axisDisabled => 0x0F | .sweepRunning => 0x10 | .degraded => 0x11 | .noResponse => 0x12

/-- A field that a presence set may name: judged when it is named, left out when it is not (R28, R160, R162). For the
subscriptions of a SET_PORTS the rules can be read either way, and this is the model's choice (log entry 26). -/
def named {α : Type} (present : Bool) (value : Option α) : Option (Option α) :=
  if present then value.map some else some none

/-! ### The definition block (11.2) -/

/-- The 15 bytes of a definition block, two-byte fields put together; `w6` holds bytes 6..7, and so on. -/
structure Block where
  b0 : Byte
  b1 : Byte
  line : Byte
  dwell : Byte
  hysteresis : Half
  w6 : Half
  w8 : Half
  w10 : Half
  w12 : Half
  labelLength : Byte
deriving DecidableEq, Repr

/-- A definition block and the bytes that follow it. -/
def readBlock : List Byte → Option (Block × List Byte)
  | b0 :: b1 :: b2 :: b3 :: b4 :: b5 :: b6 :: b7 :: b8 :: b9 :: b10 :: b11 :: b12 :: b13 :: b14 :: rest =>
    some (⟨b0, b1, b2, b3, half b4 b5, half b6 b7, half b8 b9, half b10 b11, half b12 b13, b14⟩, rest)
  | _ => none

def Block.kind (b : Block) : Kind := if b.b0.getLsbD 7 then .periodic else .absolute
def Block.persistent (b : Block) : Bool := !b.b0.getLsbD 6
def Block.axis (b : Block) : Axis := (b.b0.extractLsb' 4 2).toFin
def Block.action (b : Block) : Action := if b.b0.getLsbD 3 then .latch else .follow
def Block.armed (b : Block) : Bool := b.b0.getLsbD 2
def Block.exclusive (b : Block) : Bool := b.b0.getLsbD 1
def Block.tripMark (b : Block) : Bool := b.b0.getLsbD 0
def Block.owner (b : Block) : Option Owner := ownerOfCode (b.b1.extractLsb' 6 2)
def Block.policy (b : Block) : Option StalePolicy := policyOf (b.b1.extractLsb' 4 2)
def Block.priority (b : Block) : BitVec 4 := b.b1.extractLsb' 0 4

/-- The bounds of the block's kind; the bytes a PERIODIC block has no use for are reserved (R185). -/
def Block.bounds (b : Block) : Option Bounds :=
  match b.kind with
  | .absolute =>
    match posOf b.w6 b.w8, posOf b.w10 b.w12 with
    | some lower, some upper => some (.absolute lower upper)
    | _, _ => none
  | .periodic => some (.periodic b.w6 b.w8)

/-- Byte 0 of a zone's definition block. -/
def blockByte0 (z : Zone) : Byte :=
  (if z.bounds.kind = .periodic then 0x80 else 0) ||| (if z.persistent then 0 else 0x40) |||
  (BitVec.ofNat 8 z.axis.val <<< 4) ||| (if z.action = .latch then 0x08 else 0) ||| (if z.armed then 0x04 else 0) |||
  (if z.exclusive then 0x02 else 0) ||| (if z.tripMark then 0x01 else 0)

/-- Byte 1 of a zone's definition block. -/
def blockByte1 (z : Zone) : Byte := ownerCode z.owner ++ policyCode z.policy ++ z.priority

/-- Bytes 6..13 of a zone's definition block; reserved bytes are sent as 0 (R185). -/
def boundsBytes : Bounds → List Byte
  | .absolute lower upper => posBytes lower ++ posBytes upper
  | .periodic start stop => halfBytes start ++ halfBytes stop ++ [0, 0, 0, 0]

/-- A zone's definition block, with owner, armed and trip mark (R48, R187). -/
def writeBlock (z : Zone) : List Byte :=
  [blockByte0 z, blockByte1 z, lineCode z.line, z.dwell] ++ halfBytes (z.hysteresis.setWidth 16) ++
  boundsBytes z.bounds ++ [countByte z.label.length]

/-- The label padded with 00h to 8 bytes. -/
def paddedLabel (label : List Byte) : List Byte := (label ++ List.replicate 8 0).take 8

/-! ### Zones -/

/-- An occupancy is active: INSIDE or TRIPPED (R77). -/
def Occupancy.active : Occupancy → Bool
  | .inside | .tripped => true
  | .unknown | .outside | .qualifying => false

/-- The zone with a new occupancy; the trip mark is set exactly at TRIPPED (R7). -/
def Zone.withOccupancy (z : Zone) (o : Occupancy) : Zone :=
  { z with occupancy := o, tripMark := decide (o = .tripped) }

/-- The arguments of a CREATE (R25). -/
structure CreateArgs where
  /-- the requested slot; none for ANY -/
  slot : Option SlotNo
  /-- the owner choice, SELF or SHARED -/
  choice : OwnerChoice
  axis : Axis
  bounds : Bounds
  hysteresis : BitVec 12
  dwell : Byte
  line : Option LineNo
  priority : BitVec 4
  action : Action
  policy : StalePolicy
  exclusive : Bool
  persistent : Bool
  label : List Byte
deriving DecidableEq, Repr

/-- The requested slot: 0..95, or FFh for ANY (11.3). -/
def requestedSlotOf (b : Byte) : Option (Option SlotNo) :=
  if b = 0xFF then some none else (slotOf b).map some

/-- The owner choice of a CREATE: SELF or SHARED (R25). -/
def createChoiceOf (b : Byte) : Option OwnerChoice :=
  match ownerChoiceOf b with
  | some .other => none
  | c => c

/-- Check 1 of a CREATE (R25, R185): its arguments, or none for BAD_ARGS. The armed, trip mark and owner bits are
reserved. -/
def parseCreate : List Byte → Option CreateArgs
  | slotByte :: choiceByte :: rest =>
    match readBlock rest with
    | none => none
    | some (b, label) =>
      match requestedSlotOf slotByte, createChoiceOf choiceByte, b.bounds, hysteresisOf b.hysteresis, lineOf b.line,
        b.policy with
      | some slot, some choice, some bounds, some hysteresis, some line, some policy =>
        if b.labelLength.toNat ≤ 8 ∧ label.length = b.labelLength.toNat then
          some { slot, choice, axis := b.axis, bounds, hysteresis, dwell := b.dwell, line, priority := b.priority,
                 action := b.action, policy, exclusive := b.exclusive, persistent := b.persistent, label }
        else none
      | _, _, _, _, _, _ => none
  | _ => none

/-- The zone a CREATE makes (R26): disarmed, UNKNOWN, trip mark clear, transit count 0. -/
def CreateArgs.zone (x : CreateArgs) (p : Port) (incarnation : Byte) : Zone :=
  { incarnation := incarnation, axis := x.axis, bounds := x.bounds, hysteresis := x.hysteresis, dwell := x.dwell,
    line := x.line, priority := x.priority, action := x.action, policy := x.policy, owner := x.choice.owner p,
    armed := false, exclusive := x.exclusive, persistent := x.persistent, label := x.label, occupancy := .unknown,
    tripMark := false, transits := 0 }

/-- The arguments of an AMEND (R28): the handle, the kind bit, and a new value for each field that the presence set
names. -/
structure AmendArgs where
  handle : Handle
  kind : Kind
  axis : Option Axis
  lower : Option ExtPos
  upper : Option ExtPos
  start : Option Angle
  stop : Option Angle
  hysteresis : Option (BitVec 12)
  dwell : Option Byte
  line : Option (Option LineNo)
  priority : Option (BitVec 4)
  action : Option Action
  policy : Option StalePolicy
  exclusive : Option Bool
  label : Option (List Byte)
deriving DecidableEq, Repr

/-- Check 1 of an AMEND (R28, R185): its arguments, or none for BAD_ARGS. The kind bit and the label length are always
read; of the other fields only those the presence set names. -/
def parseAmend : List Byte → Option AmendArgs
  | slotByte :: incByte :: p1 :: p0 :: rest =>
    let presence := half p1 p0
    match readBlock rest with
    | none => none
    | some (b, label) =>
      let absolute := decide (b.kind = .absolute)
      let first := presence.getLsbD 1
      let second := presence.getLsbD 2
      if presence.extractLsb' 0 11 = 0 ∨ presence.extractLsb' 11 4 ≠ 0 then none
      else if 8 < b.labelLength.toNat ∨ label.length ≠ b.labelLength.toNat then none
      else
        match handleOf slotByte incByte, named (absolute && first) (posOf b.w6 b.w8),
          named (absolute && second) (posOf b.w10 b.w12), named (presence.getLsbD 3) (hysteresisOf b.hysteresis),
          named (presence.getLsbD 5) (lineOf b.line), named (presence.getLsbD 8) b.policy with
        | some handle, some lower, some upper, some hysteresis, some line, some policy =>
          some { handle, kind := b.kind
                 axis := if presence.getLsbD 0 then some b.axis else none
                 lower, upper
                 start := if !absolute && first then some b.w6 else none
                 stop := if !absolute && second then some b.w8 else none
                 hysteresis
                 dwell := if presence.getLsbD 4 then some b.dwell else none
                 line
                 priority := if presence.getLsbD 6 then some b.priority else none
                 action := if presence.getLsbD 7 then some b.action else none
                 policy
                 exclusive := if presence.getLsbD 9 then some b.exclusive else none
                 label := if presence.getLsbD 10 then some label else none }
        | _, _, _, _, _, _ => none
  | _ => none

/-- The presence set names a bound. -/
def AmendArgs.namesBound (x : AmendArgs) : Bool :=
  x.lower.isSome || x.upper.isSome || x.start.isSome || x.stop.isSome

/-- The presence set names axis, a bound, hysteresis, dwell or action: refused on a TRIPPED zone (R29). -/
def AmendArgs.namesGeometryOrAction (x : AmendArgs) : Bool :=
  x.axis.isSome || x.namesBound || x.hysteresis.isSome || x.dwell.isSome || x.action.isSome

/-- The bounds a zone would have after an AMEND; none where the AMEND names bounds of the kind the zone has not (R28,
R185). -/
def AmendArgs.boundsOf (x : AmendArgs) (b : Bounds) : Option Bounds :=
  match b with
  | .absolute lower upper =>
    if x.start.isSome || x.stop.isSome then none
    else some (.absolute (x.lower.getD lower) (x.upper.getD upper))
  | .periodic start stop =>
    if x.lower.isSome || x.upper.isSome then none
    else some (.periodic (x.start.getD start) (x.stop.getD stop))

/-- The zone as it would stand after an AMEND (R28): each named field at its new value, each other at its present one. -/
def AmendArgs.apply (x : AmendArgs) (z : Zone) : Option Zone :=
  (x.boundsOf z.bounds).map fun bounds =>
    { z with
      axis := x.axis.getD z.axis
      bounds := bounds
      hysteresis := x.hysteresis.getD z.hysteresis
      dwell := x.dwell.getD z.dwell
      line := x.line.getD z.line
      priority := x.priority.getD z.priority
      action := x.action.getD z.action
      policy := x.policy.getD z.policy
      exclusive := x.exclusive.getD z.exclusive
      label := x.label.getD z.label }

/-! ### The arguments of the other commands (11.3) -/

/-- A payload that is one handle. -/
def parseHandle : List Byte → Option Handle
  | [s, i] => handleOf s i
  | _ => none

/-- TRANSFER: a handle and an owner choice. -/
def parseTransfer : List Byte → Option (Handle × OwnerChoice)
  | [s, i, c] =>
    match handleOf s i, ownerChoiceOf c with
    | some h, some o => some (h, o)
    | _, _ => none
  | _ => none

/-- RECLAIM: a slot number. -/
def parseSlot : List Byte → Option SlotNo
  | [b] => slotOf b
  | _ => none

/-- An axis alone: AXIS_STATUS. -/
def parseAxis : List Byte → Option Axis
  | [b] => axisOf b
  | _ => none

/-- A command without arguments (R105, R111, R177). -/
def parseNothing : List Byte → Option Unit
  | [] => some ()
  | _ => none

/-- FIND: an axis and an extended position (R51). -/
def parseFind : List Byte → Option (Axis × ExtPos)
  | [n, t1, t0, a1, a0] =>
    match axisOf n, posOf (half t1 t0) (half a1 a0) with
    | some n, some p => some (n, p)
    | _, _ => none
  | _ => none

/-- The cursor of a LIST (R53). -/
inductive Cursor where
  | start
  | handle (h : Handle)
deriving DecidableEq, Repr

/-- A list choice: 0 ABSOLUTE, 1 PERIODIC (11.3). -/
def kindOf (b : Byte) : Option Kind := if b = 0 then some .absolute else if b = 1 then some .periodic else none

/-- START is FFFFh (R185). -/
def cursorOf (s i : Byte) : Option Cursor :=
  if s = 0xFF ∧ i = 0xFF then some .start else (handleOf s i).map .handle

/-- LIST: an axis, a list choice and a cursor (R53). -/
def parseList : List Byte → Option (Axis × Kind × Cursor)
  | [n, k, s, i] =>
    match axisOf n, kindOf k, cursorOf s i with
    | some n, some k, some c => some (n, k, c)
    | _, _, _ => none
  | _ => none

/-- Max step: 1..32767 (R158). -/
def maxStepOf (w : Half) : Option (BitVec 15) :=
  if 1 ≤ w.toNat ∧ w.toNat ≤ 32767 then some (w.setWidth 15) else none

/-- Jump limit: 1..15 (R158). -/
def jumpLimitOf (b : Byte) : Option (BitVec 4) := if 1 ≤ b.toNat ∧ b.toNat ≤ 15 then some (b.setWidth 4) else none

/-- The new values a SET_AXIS names (R160). -/
structure AxisChange where
  enabled : Option Bool
  reverse : Option Bool
  offset : Option Angle
  maxStep : Option (BitVec 15)
  jumpLimit : Option (BitVec 4)
  staleness : Option Byte
  initMode : Option InitMode
  presetTurns : Option Turn
deriving DecidableEq, Repr

/-- The init mode bit (R187). -/
def initModeOf (b : Bool) : InitMode := if b then .preset else .zero

/-- SET_AXIS: axis, presence byte, AXIS content as stored image bytes 3..11 (11.3, R160). -/
def parseSetAxis : List Byte → Option (Axis × AxisChange)
  | [n, presence, flags, o1, o0, m1, m0, jump, stale, t1, t0] =>
    if presence = 0 then none
    else
      match axisOf n, named (presence.getLsbD 3) (maxStepOf (half m1 m0)),
        named (presence.getLsbD 4) (jumpLimitOf jump), named (presence.getLsbD 7) (turnOf (half t1 t0)) with
      | some n, some maxStep, some jumpLimit, some presetTurns =>
        some (n,
          { enabled := if presence.getLsbD 0 then some (flags.getLsbD 7) else none
            reverse := if presence.getLsbD 1 then some (flags.getLsbD 6) else none
            offset := if presence.getLsbD 2 then some (half o1 o0) else none
            maxStep, jumpLimit
            staleness := if presence.getLsbD 5 then some stale else none
            initMode := if presence.getLsbD 6 then some (initModeOf (flags.getLsbD 5)) else none
            presetTurns })
      | _, _, _, _ => none
  | _ => none

/-- The AXIS record after a SET_AXIS (R160). -/
def AxisChange.apply (x : AxisChange) (c : AxisConfig) : AxisConfig :=
  { enabled := x.enabled.getD c.enabled
    reverse := x.reverse.getD c.reverse
    offset := x.offset.getD c.offset
    maxStep := x.maxStep.getD c.maxStep
    jumpLimit := x.jumpLimit.getD c.jumpLimit
    staleness := x.staleness.getD c.staleness
    initMode := x.initMode.getD c.initMode
    presetTurns := x.presetTurns.getD c.presetTurns }

/-- The polarity bit: 1 is ACTIVE_LOW (11.3). -/
def polarityOf (b : Bool) : Polarity := if b then .activeLow else .activeHigh

/-- SET_LINES: enable presence, polarity presence, enable values, polarity values (11.3, R162). -/
def parseSetLines : List Byte → Option (Byte × Byte × Byte × Byte)
  | [ep, pp, ev, pv] => if ep = 0 ∧ pp = 0 then none else some (ep, pp, ev, pv)
  | _ => none

/-- The LINES record after a SET_LINES; bit n of each byte concerns ZLn. -/
def applyLines (x : Byte × Byte × Byte × Byte) (v : Vector LineConfig 8) : Vector LineConfig 8 :=
  Vector.ofFn fun l : LineNo =>
    { enabled := if x.1.getLsbD l then x.2.2.1.getLsbD l else v[l].enabled
      polarity := if x.2.1.getLsbD l then polarityOf (x.2.2.2.getLsbD l) else v[l].polarity }

/-- The subscription codes (R187). -/
def subscriptionOf (c : BitVec 2) : Option Subscription :=
  if c = 0 then some .none else if c = 1 then some .own else if c = 2 then some .all else none

def subscriptionCode : Subscription → BitVec 2
  | .none => 0 | .own => 1 | .all => 2

/-- An attention mask; its high five bits name nothing and are ignored (R185). -/
def maskOf (w : Half) : FlagSet := w.setWidth 11

/-- The new values a SET_PORTS names for one port (R163). -/
structure PortChange where
  subscription : Option Subscription
  mask : Option FlagSet
  attentionOnDone : Option Bool
deriving DecidableEq, Repr

/-- The new values of one port, from its three presence bits and its three bytes of content. The subscription's code is judged
only where the presence byte names it: R163 gives a new value for each field that is named, R185 speaks of any enumerated
field (log entry 26). -/
def portChangeOf (bits : BitVec 3) (mask : Half) (flags : Byte) : Option PortChange :=
  (named (bits.getLsbD 0) (subscriptionOf (flags.extractLsb' 0 2))).map fun subscription =>
    { subscription
      mask := if bits.getLsbD 1 then some (maskOf mask) else none
      attentionOnDone := if bits.getLsbD 2 then some (flags.getLsbD 2) else none }

/-- SET_PORTS: presence byte, PORTS content as stored image bytes 3..8 (11.3, R163). -/
def parseSetPorts : List Byte → Option (PerPort PortChange)
  | [presence, a1, a0, fa, b1, b0, fb] =>
    if presence.extractLsb' 0 6 = 0 then none
    else
      match portChangeOf (presence.extractLsb' 0 3) (half a1 a0) fa,
        portChangeOf (presence.extractLsb' 3 3) (half b1 b0) fb with
      | some a, some b => some ⟨a, b⟩
      | _, _ => none
  | _ => none

/-- One port's entry of the PORTS record after a SET_PORTS. -/
def PortChange.apply (x : PortChange) (c : PortConfig) : PortConfig :=
  { subscription := x.subscription.getD c.subscription
    mask := x.mask.getD c.mask
    attentionOnDone := x.attentionOnDone.getD c.attentionOnDone }

/-- FREEZE: a level (R166). -/
def parseFreeze : List Byte → Option FreezeLevel
  | [b] => freezeOf b
  | _ => none

/-- READ_CONFIG: a configuration item, 96..102 (R164). -/
def parseConfigItem : List Byte → Option ItemNo
  | [b] => if h : 96 ≤ b.toNat ∧ b.toNat ≤ 102 then some ⟨b.toNat, by omega⟩ else none
  | _ => none

/-- SWEEP_START: start row, loop, stop-on-fault (R152). -/
def parseSweepStart : List Byte → Option (RowNo × Bool × Bool)
  | [r, l, f] =>
    match rowNoOf r, yesNoOf l, yesNoOf f with
    | some r, some l, some f => some (r, l, f)
    | _, _, _ => none
  | _ => none

/-- RESYNC: axis, mode, turn; the turn is ignored under CONFIG (11.3, R74). The acquisition turn is none for CONFIG. -/
def parseResync : List Byte → Option (Axis × Option Turn)
  | [n, mode, t1, t0] =>
    match axisOf n, (if mode = 0 then some none else if mode = 1 then (turnOf (half t1 t0)).map some else none) with
    | some n, some turn => some (n, turn)
    | _, _ => none
  | _ => none

/-! ### Stored images (R187) -/

/-- What an image holds apart from its item number and generation. -/
inductive Content where
  | vacant (remembered : Byte)
  | live (z : Zone)
  | axis (c : AxisConfig)
  | lines (v : Vector LineConfig 8)
  | ports (c : PerPort PortConfig)
  | freeze (l : FreezeLevel)
deriving DecidableEq, Repr

/-- The AXIS content, image bytes 3..11. -/
def axisBytes (c : AxisConfig) : List Byte :=
  [(if c.enabled then 0x80 else 0) ||| (if c.reverse then 0x40 else 0) ||| (if c.initMode = .preset then 0x20 else 0)] ++
  halfBytes c.offset ++ halfBytes (c.maxStep.setWidth 16) ++ [c.jumpLimit.setWidth 8, c.staleness] ++
  halfBytes (turnBits c.presetTurns)

/-- A byte whose bit n is the given flag of ZLn. -/
def lineBits (f : LineNo → Bool) : Byte :=
  allLines.foldl (fun acc l => acc ||| (if f l then (1 : Byte) <<< l.val else 0)) 0

/-- The LINES content, image bytes 3..4. -/
def linesBytes (v : Vector LineConfig 8) : List Byte :=
  [lineBits fun l => v[l].enabled, lineBits fun l => decide (v[l].polarity = .activeLow)]

/-- One port's three bytes of the PORTS content. -/
def portBytes (c : PortConfig) : List Byte :=
  halfBytes (c.mask.setWidth 16) ++
  [(subscriptionCode c.subscription).setWidth 8 ||| (if c.attentionOnDone then 4 else 0)]

/-- The bytes of an image from byte 2, its form, on. -/
def contentBytes : Content → List Byte
  | .vacant r => [0x00, r]
  | .live z => [0x01, z.incarnation] ++ writeBlock z ++ paddedLabel z.label
  | .axis c => 0x02 :: axisBytes c
  | .lines v => 0x02 :: linesBytes v
  | .ports c => 0x02 :: (portBytes c.a ++ portBytes c.b)
  | .freeze l => [0x02, freezeCode l]

/-- An image of 32 bytes; unused bytes are 00h (R187). -/
def encodeImage (k : ItemNo) (generation : Byte) (c : Content) : List Byte :=
  (countByte k.val :: generation :: contentBytes c ++ List.replicate Config.imageBytes 0).take Config.imageBytes

/-- The generation an image carries: byte 1. -/
def imageGeneration (image : List Byte) : Byte := image.getD 1 0

/-- Two images are equal in content: all their bytes other than byte 1 are equal (R142, R187). -/
def sameContent (x y : List Byte) : Bool := decide (x.set 1 0 = y.set 1 0)

/-- The proper content of a LIVE image, from byte 3 on (R141): the zone as loaded, occupancy TRIPPED with the trip mark
set and UNKNOWN otherwise, transit count 0 (R19). -/
def decodeLive : List Byte → Option Zone
  | incarnation :: rest =>
    match readBlock rest with
    | none => none
    | some (b, after) =>
      match b.bounds, hysteresisOf b.hysteresis, lineOf b.line, b.policy, b.owner with
      | some bounds, some hysteresis, some line, some policy, some owner =>
        if incarnation ≠ 0 ∧ b.persistent = true ∧ b.labelLength.toNat ≤ 8 ∧ boundsOk bounds hysteresis = true ∧
            (b.tripMark = true → b.action = .latch ∧ b.armed = true) then
          some { incarnation, axis := b.axis, bounds, hysteresis, dwell := b.dwell, line, priority := b.priority,
                 action := b.action, policy, owner, armed := b.armed, exclusive := b.exclusive, persistent := true,
                 label := after.take b.labelLength.toNat, occupancy := if b.tripMark then .tripped else .unknown,
                 tripMark := b.tripMark, transits := 0 }
        else none
      | _, _, _, _, _ => none
  | _ => none

/-- The proper content of an AXIS image, from byte 3 on (R141, R158). -/
def decodeAxis : List Byte → Option AxisConfig
  | flags :: o1 :: o0 :: m1 :: m0 :: jump :: stale :: t1 :: t0 :: _ =>
    match maxStepOf (half m1 m0), jumpLimitOf jump, turnOf (half t1 t0) with
    | some maxStep, some jumpLimit, some presetTurns =>
      some { enabled := flags.getLsbD 7, reverse := flags.getLsbD 6, offset := half o1 o0, maxStep, jumpLimit,
             staleness := stale, initMode := initModeOf (flags.getLsbD 5), presetTurns }
    | _, _, _ => none
  | _ => none

/-- The LINES record of two bytes. -/
def decodeLines : List Byte → Option (Vector LineConfig 8)
  | enabled :: polarity :: _ =>
    some (Vector.ofFn fun l : LineNo => ⟨enabled.getLsbD l, polarityOf (polarity.getLsbD l)⟩)
  | _ => none

/-- One port's entry of a PORTS image. -/
def decodePort (mask : Half) (flags : Byte) : Option PortConfig :=
  (subscriptionOf (flags.extractLsb' 0 2)).map fun subscription =>
    { subscription, mask := maskOf mask, attentionOnDone := flags.getLsbD 2 }

/-- The PORTS record of six bytes. -/
def decodePorts : List Byte → Option (PerPort PortConfig)
  | a1 :: a0 :: fa :: b1 :: b0 :: fb :: _ =>
    match decodePort (half a1 a0) fa, decodePort (half b1 b0) fb with
    | some a, some b => some ⟨a, b⟩
    | _, _ => none
  | _ => none

/-- The content of an image that is well formed for item `k`; none where it is not well formed (R141, R187). -/
def decodeImage (k : ItemNo) : List Byte → Option Content
  | number :: _ :: form :: rest =>
    if number ≠ countByte k.val then none
    else
      match itemKind k with
      | .slot _ =>
        if form = 0x00 then rest.head?.map .vacant
        else if form = 0x01 then (decodeLive rest).map .live
        else none
      | .axis _ => if form = 0x02 then (decodeAxis rest).map .axis else none
      | .lines => if form = 0x02 then (decodeLines rest).map .lines else none
      | .ports => if form = 0x02 then (decodePorts rest).map .ports else none
      | .freeze =>
        if form = 0x02 then (rest.head?.bind freezeOf).map .freeze else none
  | _ => none

/-- An image is well formed for an item (R141, R187). -/
def imageWf (k : ItemNo) (image : List Byte) : Bool := (decodeImage k image).isSome

/-! ### Response frames (R175, 11.1) -/

/-- The bytes of a response frame. -/
def responseFrame (r : Response) : List Byte :=
  let body := r.tag :: r.code :: resultCode r.result :: countByte r.payload.length :: r.payload
  body ++ [frameCheck body]

end Sys2Proof.Machine
end

