-- ==== Sys2Proof/Machine/Ops.lean ====
section
/-! DEFINITION. Sys2Proof/Machine/Ops.lean: the operations that the commands and events share: the lists, exclusivity,
dwell timers and pending passes, the commit queue and engine, notices, lines, the arbiter and its grants, and the
transactions of the host ports. -/

namespace Sys2Proof.Machine

/-! ### Zones in the table -/

/-- The incarnation a slot issues next (R2): one more than it remembers, and 1 after 255. -/
def nextIncarnation (remembered : Byte) : Byte := if remembered = 255 then 1 else remembered + 1

/-- The handle of the zone in a slot. -/
def handleAt (i : SlotNo) (z : Zone) : Handle := ⟨i, z.incarnation⟩

/-- The result of resolving a handle (R3). -/
def resolve (s : State) (h : Handle) : Except Result Zone :=
  match s.slot h.slot with
  | .live z => if z.incarnation = h.incarnation then .ok z else .error .staleHandle
  | .vacant _ => .error .staleHandle
  | .quarantined => .error .quarantined

/-- The owner check (R6): the zone's owner is the requesting port or SHARED. -/
def ownerPasses (z : Zone) (p : Port) : Bool := decide (z.owner = .shared) || decide (z.owner = ownerOf p)

/-- A slot put into a list at its ordered place (R8). -/
def insertOrdered (s : State) (i : SlotNo) (b : Bounds) : List SlotNo → List SlotNo
  | [] => [i]
  | j :: rest =>
    match s.zone j with
    | some z => if zoneBefore b i z.bounds j then i :: j :: rest else j :: insertOrdered s i b rest
    | none => j :: insertOrdered s i b rest

/-- The zone enters the list of its axis and kind at its ordered place (R9). -/
def enterList (i : SlotNo) (z : Zone) (s : State) : State :=
  s.setZoneList z.axis z.bounds.kind (insertOrdered s i z.bounds (s.zoneList z.axis z.bounds.kind))

/-- The zone leaves the list of its axis and kind (R9). -/
def leaveList (i : SlotNo) (z : Zone) (s : State) : State :=
  s.setZoneList z.axis z.bounds.kind ((s.zoneList z.axis z.bounds.kind).filter fun j => decide (j ≠ i))

/-- Two zones of one list conflict (R10, R11): they intersect and either is exclusive. -/
def conflicts (b₁ : Bounds) (exclusive₁ : Bool) (z : Zone) : Bool :=
  intersects b₁ z.bounds && (exclusive₁ || z.exclusive)

/-- The first zone in list order that a zone with these bounds would conflict with (R11); `self` is the zone's own slot,
with which it is not compared. -/
def firstConflict (s : State) (n : Axis) (b : Bounds) (exclusive : Bool) (self : Option SlotNo) : Option Handle :=
  (s.zoneList n b.kind).findSome? fun j =>
    if some j = self then none
    else
      match s.zone j with
      | some z => if conflicts b exclusive z then some (handleAt j z) else none
      | none => none

/-- The lowest-numbered VACANT slot (R12). -/
def lowestVacant (s : State) : Option SlotNo :=
  allSlots.find? fun i =>
    match s.slot i with
    | .vacant _ => true
    | .live _ | .quarantined => false

/-- A pass is set pending for an axis; one that is already pending serves, and keeps its age (R79). -/
def setPassPending (n : Axis) (s : State) : State :=
  match s.pendingPass n with
  | some _ => s
  | none => s.setPass n (some s.now)

/-- A dwell timer is cancelled and an expiry not yet taken is discarded (R92). -/
def cancelDwell (i : SlotNo) (s : State) : State := s.setDwell i none

/-- The occupancy a stale policy gives a zone whose judgement is restarted on an axis without a position (R24). -/
def policyFromRestart (policy : StalePolicy) (action : Action) : Occupancy :=
  match policy, action with
  | .hold, _ => .unknown
  | .release, _ => .outside
  | .asserts, .follow => .inside
  | .asserts, .latch => .tripped

/-- The zone with its judgement restarted (R24); `available` is the "position available" copy of its axis. -/
def restarted (available : Bool) (z : Zone) : Zone :=
  z.withOccupancy (if z.armed && !available then policyFromRestart z.policy z.action else .unknown)

/-- The pass that a restart sets pending, for an armed zone on an axis with a position (R24). -/
def restartPass (z : Zone) (s : State) : State :=
  if z.armed && s.available[z.axis] then setPassPending z.axis s else s

/-! ### The commit queue and the commit engine -/

/-- An enqueue request (R121). -/
def enqueue (k : ItemNo) (s : State) : State :=
  if s.queue.any fun e => decide (e.item = k) then s else s.setQueue (s.queue ++ [⟨k, Marks.clear⟩])

/-- Enqueue requests taken in order (R18). -/
def enqueueAll (ks : List ItemNo) (s : State) : State := ks.foldl (fun t k => enqueue k t) s

/-- The idle engine takes the head of the queue and makes its STORE claim (R122). -/
def takeHead (s : State) : State :=
  match s.device, s.engine, s.queue with
  | .running, .idle, e :: rest => (s.setQueue rest).setEngine (.claiming e.item e.marks)
  | _, _, _ => s

/-- The in-flight item with its marks (R120). -/
def inFlight (s : State) : Option (ItemNo × Marks) :=
  match s.engine with
  | .idle => none
  | .claiming k m => some (k, m)
  | .programming p => some (p.item, p.marks)
  | .retrying p => some (p.item, p.marks)

/-- The store's answer about an item's durability (R129). -/
def durability (s : State) (k : ItemNo) : Durability :=
  if (s.item k).bothWorn then .notDurable
  else if (s.queue.any fun e => decide (e.item = k)) ||
      (match inFlight s with
       | some (j, _) => decide (j = k)
       | none => false) then .pending
  else .committed

/-- The durability READ_ZONE reports for a zone (R49). -/
def zoneDurability (s : State) (i : SlotNo) (z : Zone) : Durability :=
  if z.persistent then durability s (slotItem i) else .volatile

/-- Neither the queue nor the in-flight item carries the mark of a port (R132). -/
def noMark (s : State) (p : Port) : Bool :=
  (s.queue.all fun e => !e.marks.get p) &&
  (match inFlight s with
   | some (_, m) => !m.get p
   | none => true)

/-- The response that ends a SYNC (R132): OK, or DEGRADED with the dropped count. -/
def syncResponse (tag : Byte) (dropped : Nat) : Response :=
  if dropped = 0 then ⟨tag, LocalCommand.sync.code, .ok, []⟩
  else ⟨tag, LocalCommand.sync.code, .degraded, [countByte dropped]⟩

/-- A port's SYNC completes when its last mark has gone (R132). -/
def completeSync (p : Port) (s : State) : State :=
  let q := s.port p
  match q.slot with
  | .waiting tag =>
    if q.sync.waiting && noMark s p then
      s.setPort p { q with slot := .done (syncResponse tag q.sync.dropped), sync := ⟨false, 0⟩ }
    else s
  | _ => s

/-- Both ports' SYNCs are looked at when a commit has ended. -/
def completeSyncs (s : State) : State := completeSync .b (completeSync .a s)

/-- A dropped commit is counted for a port whose mark it carried while its SYNC waits (R131). The count goes up by 1 at every
drop, also from 103 to 104, which is beyond the 0..103 of the chapter's opening table (log entry 27). -/
def countDrop (p : Port) (m : Marks) (s : State) : State :=
  let q := s.port p
  if m.get p && q.sync.waiting then
    s.setPort p { q with sync := { q.sync with dropped := q.sync.dropped + 1 } }
  else s

/-- A commit is dropped (R128): its marks are counted as failed, and the engine returns to IDLE. -/
def dropCommit (m : Marks) (s : State) : State := (countDrop .b m (countDrop .a m s)).setEngine .idle

/-- What ends a commit, whatever its outcome: SYNCs complete, and the engine takes its new head (R122, R132). -/
def afterCommit (s : State) : State := takeHead (completeSyncs s)

/-- The content of an item's image as the table holds it (R22, R123); none for a QUARANTINED slot. -/
def snapshot (s : State) (k : ItemNo) : Option Content :=
  match itemKind k with
  | .slot i =>
    match s.slot i with
    | .live z => some (if z.persistent then .live z else .vacant z.incarnation)
    | .vacant r => some (.vacant r)
    | .quarantined => none
  | .axis n => some (.axis (s.axisConfig n))
  | .lines => some (.lines s.lineConfig)
  | .ports => some (.ports s.portConfig)
  | .freeze => some (.freeze s.freezeLevel)

/-! ### The row array -/

/-- What a row reads as after the bit errors it has gathered (R115). -/
def decayedRow (r : Row) : Decay → Row
  | .intact => r
  | .oneBit =>
    match r with
    | .clean image => .corrected image
    | .corrected _ => .uncorrectable
    | .uncorrectable => .uncorrectable
    | .blank => Config.erasedRowWithOneError
  | .manyBits => .uncorrectable

/-- A program begins in its row: the row's former content is lost (R116). No read of the row is served before the
program ends, and a full reset gives the row what it then reads as. -/
def beginProgram (p : Program) (s : State) : State :=
  (s.setArray .program).setRow (rowOf p.item p.target) .uncorrectable

/-- The sweep asks the array for its next row (R153): the read begins at once where the array is free (R135). -/
def beginSweepRead (s : State) : State :=
  match s.array with
  | .free => (s.setArray (.sweepRead s.sweep.nextRow true)).setSweep { s.sweep with asked := false }
  | _ => s

/-- The array, when an operation of it has ended: a program that waits begins first, and a sweep read that waits begins
where no program does (R135). -/
def serveArray (s : State) : State :=
  match s.array with
  | .free =>
    match s.engine with
    | .programming p => beginProgram p s
    | .retrying p => beginProgram p s
    | _ => if s.sweep.asked then beginSweepRead s else s
  | _ => s

/-! ### Notices and change sets (6.2) -/

/-- The causes of a notice (R106). -/
inductive Cause where
  | occupancy | transit | removed | quarantined | transferred
deriving DecidableEq, Repr

/-- The bit of a cause in a TAKE_CHANGES entry (11.3). -/
def Cause.mask : Cause → CauseSet
  | .occupancy => 16 | .transit => 8 | .removed => 4 | .quarantined => 2 | .transferred => 1

/-- A notice: its slot and cause, the ports it is sent to, and the owners that the OWN filter judges; none where the
notice passes an OWN filter whatever the owner (R107). -/
structure Notice where
  slot : SlotNo
  cause : Cause
  sentTo : List Port
  owners : Option (List Owner)
deriving DecidableEq, Repr

/-- The filter of a port (R107). -/
def passesFilter (sub : Subscription) (p : Port) (owners : Option (List Owner)) : Bool :=
  match sub with
  | .none => false
  | .all => true
  | .own =>
    match owners with
    | none => true
    | some os => os.any fun o => decide (o = .shared) || decide (o = ownerOf p)

/-- A notice handed to one port (R107, R108). -/
def noticeAt (x : Notice) (s : State) (p : Port) : State :=
  if passesFilter (s.portConfig.get p).subscription p x.owners then
    let q := s.port p
    s.setPort p { q with changes := q.changes.set x.slot (q.changes[x.slot] ||| x.cause.mask) }
  else s

/-- A notice handed on. -/
def addNotice (s : State) (x : Notice) : State := x.sentTo.foldl (noticeAt x) s

/-- Notices handed on together (R108). -/
def addNotices (xs : List Notice) (s : State) : State := xs.foldl addNotice s

/-- The OCCUPANCY notice of a zone (R23, R98): it became active or inactive, or it entered TRIPPED. -/
def occupancyNotice (i : SlotNo) (before after : Zone) (entered : Bool) : List Notice :=
  if before.occupancy.active != after.occupancy.active || entered then
    [⟨i, .occupancy, bothPorts, some [after.owner]⟩]
  else []

/-! ### Lines (6.1) -/

/-- A zone drives a line: it names the line and is INSIDE or TRIPPED (R100). -/
def drives (z : Zone) (l : LineNo) : Bool := decide (z.line = some l) && z.occupancy.active

/-- The driving set of a line, in ascending slot order (R100). -/
def drivingSet (s : State) (l : LineNo) : List (SlotNo × Zone) :=
  allSlots.filterMap fun i =>
    match s.zone i with
    | some z => if drives z l then some (i, z) else none
    | none => none

/-- The zone with the highest priority, the first of those that share it (R102). -/
def highestPriority : List (SlotNo × Zone) → Option (SlotNo × Zone)
  | [] => none
  | x :: rest =>
    match highestPriority rest with
    | some y => if x.2.priority < y.2.priority then some y else some x
    | none => some x

/-- The level of a pin (R101). -/
def pinLevel (active : Bool) (p : Polarity) : Pin :=
  match p, active with
  | .activeHigh, true => .high
  | .activeHigh, false => .low
  | .activeLow, true => .low
  | .activeLow, false => .high

/-- A line's record as a recomputation sets it (R101 to R103); lines are recomputed while the device is RUNNING. -/
def lineRecordOf (s : State) (l : LineNo) : LineRecord :=
  let set := drivingSet s l
  let active := s.lineConfig[l].enabled && !set.isEmpty
  { active := active
    driving := (highestPriority set).map fun x => handleAt x.1 x.2
    count := set.length
    pin := pinLevel active s.lineConfig[l].polarity }

/-- The recomputation of some lines (R103). -/
def recompute (ls : List LineNo) (s : State) : State := ls.foldl (fun t l => t.setLine l (lineRecordOf t l)) s

/-- The line of a zone, as a list. -/
def linesOf (z : Zone) : List LineNo := z.line.toList

/-! ### The consequences of a grant (R18) -/

/-- A piece of work on the table and what it hands on. -/
structure Work where
  state : State
  items : List ItemNo := []
  notices : List Notice := []
  lines : List LineNo := []

/-- The consequences are handed on when the work ends: commit requests, notices, line recomputation (R18); an idle engine
takes the item that an enqueue brought it (R122). -/
def handOver (w : Work) : State :=
  takeHead (recompute w.lines (addNotices w.notices (enqueueAll w.items w.state)))

/-- The slot item of a PERSISTENT zone; nothing for a VOLATILE one (R22). -/
def persistentItem (i : SlotNo) (z : Zone) : List ItemNo := if z.persistent then [slotItem i] else []

/-! ### The arbiter (1.7) -/

/-- The first of the entries with the least key: the earliest moment, and the lowest number among equals (R17). -/
def earliest {α : Type} : List (Nat × α) → Option (Nat × α)
  | [] => none
  | x :: rest =>
    match earliest rest with
    | some y => if y.1 < x.1 then some y else some x
    | none => some x

/-- The passes pending on axes that also have a pending condition. -/
def passesBeforeConditions (s : State) : List (Nat × WorkItem) :=
  allAxes.filterMap fun n =>
    if s.pendingConditions n = [] then none else (s.pendingPass n).map fun m => (m, .pass n)

/-- The first pending condition of each axis. -/
def firstConditions (s : State) : List (Nat × WorkItem) :=
  allAxes.filterMap fun n =>
    match s.pendingConditions n with
    | c :: _ => some (c.posted, .condition n c.kind)
    | [] => none

/-- The expired dwell timers. -/
def expiries (s : State) : List (Nat × WorkItem) :=
  allSlots.filterMap fun i =>
    match s.dwell i with
    | some t => t.expired.map fun m => (m, .expiry i)
    | none => none

/-- The pending passes. -/
def allPasses (s : State) : List (Nat × WorkItem) :=
  allAxes.filterMap fun n => (s.pendingPass n).map fun m => (m, .pass n)

/-- The work item an EVALUATOR grant takes (R17). -/
def nextItem (s : State) : Option WorkItem :=
  match earliest (passesBeforeConditions s) with
  | some x => some x.2
  | none =>
    match earliest (firstConditions s) with
    | some x => some x.2
    | none =>
      match earliest (expiries s) with
      | some x => some x.2
      | none => (earliest (allPasses s)).map fun x => x.2

/-- A class has a claim waiting (R14). -/
def claimWaits (s : State) : Claimant → Bool
  | .portA => match (s.port .a).slot with | .queued _ _ _ => true | _ => false
  | .portB => match (s.port .b).slot with | .queued _ _ _ => true | _ => false
  | .evaluator => (nextItem s).isSome
  | .store => match s.engine with | .claiming _ _ => true | _ => false

/-- The rotation, from the class that follows the pointer (R15). -/
def rotationFrom : Claimant → List Claimant
  | .portA => [.portB, .evaluator, .store, .portA]
  | .portB => [.evaluator, .store, .portA, .portB]
  | .evaluator => [.store, .portA, .portB, .evaluator]
  | .store => [.portA, .portB, .evaluator, .store]

/-- The class the arbiter grants the table to (R14, R15): none while the device is STARTING, while a grant runs, and
while no claim waits. -/
def nextClass (s : State) : Option Claimant :=
  if s.inService && s.running.isNone then (rotationFrom s.pointer).find? (claimWaits s) else none

/-- A command whose grant a port is given: its payload, and the tag of its response; no tag where a PORT_RESET has emptied
the slot meanwhile (R174). -/
structure Granted where
  command : TableCommand
  payload : List Byte
  tag : Option Byte
deriving DecidableEq, Repr

/-- The table command of a port that the table is granted to (R15, R174). -/
def granted (s : State) (p : Port) : Option Granted :=
  match s.running with
  | some g => if g.port = p then some ⟨g.command, g.payload, none⟩ else none
  | none =>
    if nextClass s = some (classOf p) then
      match (s.port p).slot with
      | .queued c tag payload => some ⟨c, payload, some tag⟩
      | _ => none
    else none

/-- How a table command ends: its work, its result and the payload of its response. -/
structure Ending where
  work : Work
  result : Result
  payload : List Byte

/-- A command refused at a check: nothing changes (R13). -/
def refuse (s : State) (r : Result) : Ending := ⟨{ state := s }, r, []⟩

/-- The response of a command is placed in its port's slot, which becomes DONE (R18, R174). -/
def placeResponse (p : Port) (r : Response) (s : State) : State :=
  s.setPort p { s.port p with slot := .done r }

/-- The table as a port's grant begins: the pointer names the port's class (R15). -/
def beginGrant (p : Port) (s : State) : State := ((s.setPointer (classOf p)).setRunning none).tick .later

/-- The grant of the table to port `p` for a command of kind `c` (R18, R174). An event of another kind than the grant that
is due does not come about (log entry 1). -/
def tableGrant (p : Port) (c : TableCommand) (act : Port → List Byte → State → Ending) (s : State) : State :=
  match granted s p with
  | some g =>
    if g.command = c then
      let e := act p g.payload (beginGrant p s)
      let t := handOver e.work
      match g.tag with
      | some tag => placeResponse p ⟨tag, c.code, e.result, e.payload⟩ t
      | none => t
    else s
  | none => s

/-- The grant of the table to the evaluator for one work item (R15, R17). -/
def evaluatorGrant (w : WorkItem) (act : State → Work) (s : State) : State :=
  if nextClass s = some .evaluator ∧ nextItem s = some w then
    handOver (act ((s.setPointer .evaluator).tick .later))
  else s

/-! ### Transactions of the host ports (10.1) -/

/-- A transaction of `n` whole bytes that is no FETCH ends: the port has shifted out its status byte as it stood when CS fell,
then fill bytes (R168, R169). -/
def shiftOut (p : Port) (n : Nat) (s : State) : State :=
  s.setPort p
    { s.port p with
      transaction := none
      shifted := openingStatus s p :: List.replicate (n - 1) Config.fillByte
      shiftedTail := [] }

/-- The last-frame indicator of a port (R172). -/
def setLastFrame (p : Port) (v : LastFrame) (s : State) : State := s.setPort p { s.port p with lastFrame := v }

/-- The bytes of a request frame with this payload (R170). -/
def frameLength (payload : List Byte) : Nat := 4 + payload.length

/-- A well-formed frame whose command occupies the slot is judged (R171): refused where the slot is not EMPTY, and
accepted and handed to `serve` where it is. While the part is held in reset a port answers no transaction (R139), a
transaction that has made a FETCH makes no other frame (R175), and a payload that no frame can carry makes no well-formed
frame. -/
def occupy (p : Port) (payload : List Byte) (serve : State → State) (s : State) : State :=
  if !judgesFrames s p || !payloadFits payload then s
  else
    let t := shiftOut p (frameLength payload) s
    match (t.port p).slot with
    | .empty => serve (setLastFrame p .accepted t)
    | _ =>
      setLastFrame p .refusedBusy
        (t.setPort p { t.port p with busyRefusals := addSaturating (t.port p).busyRefusals 1 })

/-- A port-local command is served and its response placed (R177). -/
def answer (p : Port) (c : LocalCommand) (tag : Byte) (r : Result) (payload : List Byte) (s : State) : State :=
  placeResponse p ⟨tag, c.code, r, payload⟩ s

end Sys2Proof.Machine
end

