-- ==== Sys2Proof/Machine/Tracking.lean ====
section
/-! DEFINITION. Sys2Proof/Machine/Tracking.lean: the axis trackers (chapter 4): axis conditions, departures, sample frames
and the staleness timer. -/

namespace Sys2Proof.Machine

/-! ### Axis conditions (R69, R80) -/

/-- The pending conditions of an axis after one is posted, and whether the one pending second was withdrawn (R80). -/
def postedTo (k : ConditionKind) (now : Nat) : List Condition → List Condition × Bool
  | [] => ([⟨k, now⟩], false)
  | [c] => if c.kind = k then ([c], false) else ([c, ⟨k, now⟩], false)
  | c :: d :: rest => if d.kind = k then (c :: d :: rest, false) else ([c], true)

/-- A condition of an axis is posted: the part, and whether the one pending second was withdrawn. -/
def post (n : Axis) (k : ConditionKind) (s : State) : State × Bool :=
  let r := postedTo k s.now (s.pendingConditions n)
  (s.setConditions n r.1, r.2)

/-- The held span after a departure from TRACKING (R66): the live span and the position, but for a departure whose
axis-unsure condition withdraws an axis-sure one: its live span is discarded and the held span of the earlier departure
stays (R80). -/
def heldAfter (t : Tracker) (withdrew : Bool) : Option SweptSpan :=
  if t.state = .tracking ∧ withdrew = false then
    match t.live, t.position with
    | some l, some p => some ⟨l, p⟩
    | _, _ => t.held
  else t.held

/-- The tracker of an axis leaves its state for STALE, LOST, ACQUIRING or DISABLED: the spans move (R66), the staleness
timer stops (R67), and an axis-unsure condition is posted if the sure indicator is set (R69). -/
def depart (n : Axis) (s : State) : State :=
  let t := s.tracker n
  let r := if t.sure then post n .unsure s else (s, false)
  r.1.setTracker n
    { t with held := heldAfter t r.2, live := if t.state = .tracking then none else t.live, sure := false,
             timer := none }

/-- An axis-sure condition is posted by the acceptance that `t` is the tracker after; where it withdraws a pending
axis-unsure one, the held span of the withdrawn departure is discarded (R69, R80). -/
def becomeSure (n : Axis) (t : Tracker) (s : State) : State :=
  let r := post n .sure s
  r.1.setTracker n { t with sure := true, held := if r.2 then none else t.held }

/-- The tracker after entry into LOST (R69, R70). -/
def enterLost (n : Axis) (c : LostCause) (s : State) : State :=
  let t := depart n s
  raiseBoth .axisLost (t.setTracker n { t.tracker n with state := .lost, cause := some c })

/-- The tracker after entry into ACQUIRING or DISABLED by a resynchronisation (R65, R74, R75): position and live span
absent, LOST cause and last raw status none, jump count and counters 0. `forget` is given for a RESYNC, which also makes
the last accepted sequence none; R75 does not list it for a SET_AXIS (log entry 8). -/
def resynchronise (n : Axis) (state : TrackerState) (turn : Option Turn) (forget : Bool) (s : State) : State :=
  let t := depart n s
  let k := t.tracker n
  t.setTracker n
    { k with state := state, cause := none, position := none, live := none, jumpRun := 0, rawStatus := none,
             counters := Counters.zero, acquireTurn := turn, sequence := if forget then none else k.sequence }

/-! ### Sample frames (4.1 to 4.5) -/

/-- The corrected angle (R59). -/
def correctedAngle (c : AxisConfig) (raw : Angle) : Angle := (if c.reverse then 0 - raw else raw) + c.offset

/-- The staleness timer as an acceptance starts it (R67): it does not run where staleness is 0. -/
def startTimer (c : AxisConfig) (now : Nat) : Option StaleTimer :=
  if c.staleness = 0 then none else some ⟨now, c.staleness⟩

/-- The turn an acquisition starts from (R60). -/
def acquisitionTurn (c : AxisConfig) (given : Option Turn) : Turn :=
  match given with
  | some t => t
  | none =>
    match c.initMode with
    | .zero => 0
    | .preset => c.presetTurns

/-- The frames missed since the last accepted one (R61). -/
def missedFrames (last : Option (BitVec 4)) (sequence : BitVec 4) : Nat :=
  match last with
  | some l => (sequence - (l + 1)).toNat
  | none => 0

/-- The allowed step (R61). -/
def allowedStep (c : AxisConfig) (missed : Nat) : Nat := min (c.maxStep.toNat * (missed + 1)) Config.stepCap

/-- Delta, wrapped into -32768..+32767 (R62). -/
def stepDelta (last angle : Angle) : Int := (angle - last).toInt

/-- The step test passes (R62). -/
def stepAllowed (c : AxisConfig) (missed : Nat) (delta : Int) : Bool := decide (delta.natAbs ≤ allowedStep c missed)

/-- The turn after an accepted step, as an integer (R63). -/
def steppedTurn (turn : Turn) (last : Angle) (delta : Int) : Int :=
  turn.toInt +
    (if (last.toNat : Int) + delta < 0 then -1 else if 65536 ≤ (last.toNat : Int) + delta then 1 else 0)

/-- The turn after an accepted step; none where it would leave -2048..+2047 (R63). -/
def nextTurn (turn : Turn) (last : Angle) (delta : Int) : Option Turn :=
  let v := steppedTurn turn last delta
  if -2048 ≤ v ∧ v ≤ 2047 then some (BitVec.ofInt 12 v) else none

/-- A counter of a tracker, increased (R72). -/
def countAccepted (t : Tracker) : Tracker :=
  { t with counters := { t.counters with accepted := addSaturating t.counters.accepted 1 } }
def countCheckFail (t : Tracker) : Tracker :=
  { t with counters := { t.counters with checkFail := addSaturating t.counters.checkFail 1 } }
def countInvalid (t : Tracker) : Tracker :=
  { t with counters := { t.counters with sensorInvalid := addSaturating t.counters.sensorInvalid 1 } }
def countJump (t : Tracker) : Tracker :=
  { t with counters := { t.counters with jumps := addSaturating t.counters.jumps 1 } }
def countGaps (t : Tracker) (missed : Nat) : Tracker :=
  { t with counters := { t.counters with gaps := addSaturating t.counters.gaps missed } }

/-- The tracker after an acceptance at a position (R60, R63, R68), with the given live span. -/
def acceptedAt (c : AxisConfig) (now : Nat) (sequence : BitVec 4) (p : ExtPos) (live : Span) (t : Tracker) : Tracker :=
  countAccepted
    { t with state := .tracking, position := some p, lastAngle := p.angle, sequence := some sequence, live := some live,
             jumpRun := 0, timer := startTimer c now }

/-- A frame that passes both tests in ACQUIRING (R60). -/
def acquire (n : Axis) (sequence : BitVec 4) (angle : Angle) (s : State) : State :=
  let c := s.axisConfig n
  let t := s.tracker n
  let p : ExtPos := ⟨acquisitionTurn c t.acquireTurn, angle⟩
  becomeSure n { acceptedAt c s.now sequence p (Span.single p) t with acquireTurn := none } s

/-- An axis-sure condition is pending for an axis. -/
def surePending (s : State) (n : Axis) : Bool := (s.pendingConditions n).any fun c => decide (c.kind = .sure)

/-- The pass request of an acceptance in TRACKING (R64). -/
def requestPass (n : Axis) (s : State) : State := if surePending s n then s else setPassPending n s

/-- A frame that passes both tests in TRACKING (R61 to R64). -/
def follow (n : Axis) (sequence : BitVec 4) (angle : Angle) (s : State) : State :=
  let c := s.axisConfig n
  let missed := missedFrames (s.tracker n).sequence sequence
  let t := countGaps (s.tracker n) missed
  let delta := stepDelta t.lastAngle angle
  if stepAllowed c missed delta then
    match t.position with
    | some q =>
      match nextTurn q.turn t.lastAngle delta with
      | some turn =>
        let p : ExtPos := ⟨turn, angle⟩
        let live := match t.live with
          | some l => l.widen p
          | none => Span.single p
        requestPass n (s.setTracker n (acceptedAt c s.now sequence p live t))
      | none => enterLost n .turnLimit (s.setTracker n t)
    | none => s.setTracker n t
  else
    let u := { countJump t with jumpRun := t.jumpRun + 1 }
    if c.jumpLimit.toNat ≤ t.jumpRun.toNat + 1 then enterLost n .jumps (s.setTracker n u) else s.setTracker n u

/-- A frame that passes both tests in STALE (R68). -/
def recover (n : Axis) (sequence : BitVec 4) (angle : Angle) (s : State) : State :=
  let c := s.axisConfig n
  let missed := missedFrames (s.tracker n).sequence sequence
  let t := countGaps (s.tracker n) missed
  let delta := stepDelta t.lastAngle angle
  if stepAllowed c missed delta then
    match t.position with
    | some q =>
      match nextTurn q.turn t.lastAngle delta with
      | some turn =>
        let p : ExtPos := ⟨turn, angle⟩
        becomeSure n (acceptedAt c s.now sequence p (Span.single p) t) s
      | none => enterLost n .turnLimit (s.setTracker n t)
    | none => s.setTracker n t
  else enterLost n .slip (s.setTracker n (countJump t))

/-- A frame that passes both tests of R58 goes on to the judgement of the tracker's state. -/
def judgePassed (n : Axis) (sequence : BitVec 4) (angle : Angle) (s : State) : State :=
  match (s.tracker n).state with
  | .disabled => s
  | .acquiring => acquire n sequence angle s
  | .tracking => follow n sequence angle s
  | .stale => recover n sequence angle s
  | .lost => s

/-- The four status bits of a sample frame (11.5): VALID, FIELD_LOW, FIELD_HIGH, SENSOR_ALARM from bit 3 down. -/
def frameStatus (word : BitVec 32) : BitVec 4 := word.extractLsb' 24 4

/-- The status test (R58). -/
def statusPasses (status : BitVec 4) : Bool := status.getLsbD 3 && !status.getLsbD 0

/-- FIELD_LOW or FIELD_HIGH is set (R58). -/
def statusWarns (status : BitVec 4) : Bool := status.getLsbD 2 || status.getLsbD 1

/-- A frame is whole and its check agrees (R57, R58). -/
def checkPasses (bits : Nat) (word : BitVec 32) : Bool :=
  decide (Config.sampleFrameBits ≤ bits) && decide (word.extractLsb' 0 8 = sampleCheck word)

/-- A frame that a tracker judges (R58). -/
def judgeSample (n : Axis) (bits : Nat) (word : BitVec 32) (s : State) : State :=
  if checkPasses bits word then
    let status := frameStatus word
    let t := { s.tracker n with rawStatus := some status }
    if statusPasses status then
      let u := s.setTracker n t
      let v := if statusWarns status then raiseBoth .sensorWarning u else u
      judgePassed n (word.extractLsb' 28 4) (correctedAngle (s.axisConfig n) (word.extractLsb' 8 16)) v
    else raiseBoth .sensorFault (s.setTracker n (countInvalid t))
  else raiseBoth .sensorFault (s.setTracker n (countCheckFail (s.tracker n)))

/-- SAMPLE_FRAME (R57, R58): a frame is ignored whole while the part is not RUNNING, where its frame select was already
active at the move to RUNNING, and while its tracker is DISABLED. -/
def execSampleFrame (lane : Axis) (bits : Nat) (word : BitVec 32) (straddles : Bool) (m : Moment) (s : State) :
    Host.Outcome State Fault Refusal :=
  if s.inService && !straddles && decide ((s.tracker lane).state ≠ .disabled) then
    .next (judgeSample lane bits word (s.tick m))
  else .next s

/-- STALENESS_EXPIRY (R67): a running staleness timer runs out, in TRACKING. -/
def execStalenessExpiry (n : Axis) (m : Moment) (s : State) : Host.Outcome State Fault Refusal :=
  if s.inService && decide ((s.tracker n).state = .tracking) && (s.tracker n).timer.isSome then
    let t := depart n (s.tick m)
    .next (raiseBoth .axisStale (t.setTracker n { t.tracker n with state := .stale }))
  else .next s

end Sys2Proof.Machine
end

