-- ==== Sys2Proof/Machine/ConfigCommands.lean ====
section
/-! DEFINITION. Sys2Proof/Machine/ConfigCommands.lean: SET_AXIS, SET_LINES, SET_PORTS, FREEZE and READ_CONFIG (chapter 9),
each carried out in its grant. -/

namespace Sys2Proof.Machine

/-- Check 2 of SET_AXIS and SET_LINES (R165). -/
def wiringFrozen (s : State) : Bool := decide (s.freezeLevel ≠ .opened)

/-- A configuration command that is taken (R159): its item is enqueued where a field changed. -/
def configEnding (t : State) (item : ItemNo) (changed : Bool) (lines : List LineNo) (payload : List Byte) : Ending :=
  { work := { state := t, items := if changed then [item] else [], lines := lines }, result := .ok, payload := payload }

/-! ### SET_AXIS (9.2) -/

/-- A change to enabled, reverse, angle offset, init mode or preset turns forces resynchronisation (R75, R161). -/
def forcesResync (c d : AxisConfig) : Bool :=
  decide (d.enabled ≠ c.enabled) || decide (d.reverse ≠ c.reverse) || decide (d.offset ≠ c.offset) ||
    decide (d.initMode ≠ c.initMode) || decide (d.presetTurns ≠ c.presetTurns)

/-- The staleness timer after a SET_AXIS that does not force resynchronisation (R67): a running timer restarts with a
new timeout and 0 stops it, and a change from 0 starts it in TRACKING. -/
def retimed (c d : AxisConfig) (now : Nat) (t : Tracker) : Tracker :=
  if d.staleness = c.staleness then t
  else if t.timer.isSome ∨ (c.staleness = 0 ∧ t.state = .tracking) then { t with timer := startTimer d now }
  else t

/-- The tracker's part of a SET_AXIS (R75, R161); `c` is the record before and `d` the record after. -/
def axisEffect (n : Axis) (c d : AxisConfig) (s : State) : State :=
  if forcesResync c d then resynchronise n (if d.enabled then .acquiring else .disabled) none false s
  else s.setTracker n (retimed c d s.now (s.tracker n))

/-- SET_AXIS in its grant (R160). -/
def actSetAxis (_p : Port) (payload : List Byte) (s : State) : Ending :=
  match parseSetAxis payload with
  | none => refuse s .badArgs
  | some (n, x) =>
    if wiringFrozen s then refuse s .frozen
    else
      let c := s.axisConfig n
      let d := x.apply c
      configEnding (axisEffect n c d (s.setAxisConfig n d)) (axisItem n) (decide (d ≠ c)) []
        [flagsByte (decide (d = c)) (forcesResync c d)]

/-- SET_AXIS (R160). -/
def execSetAxis (p : Port) (s : State) : Host.Outcome State Fault Refusal := .next (tableGrant p .setAxis actSetAxis s)

/-! ### SET_LINES and SET_PORTS (9.3) -/

/-- SET_LINES in its grant (R162): all eight lines are recomputed when it is taken (R104). -/
def actSetLines (_p : Port) (payload : List Byte) (s : State) : Ending :=
  match parseSetLines payload with
  | none => refuse s .badArgs
  | some x =>
    if wiringFrozen s then refuse s .frozen
    else
      let v := applyLines x s.lineConfig
      configEnding (s.setLineConfig v) linesItem (decide (v ≠ s.lineConfig)) allLines
        [flagsByte (decide (v = s.lineConfig)) false]

/-- SET_LINES (R162). -/
def execSetLines (p : Port) (s : State) : Host.Outcome State Fault Refusal := .next (tableGrant p .setLines actSetLines s)

/-- SET_PORTS in its grant (R163): no freeze level refuses it. -/
def actSetPorts (_p : Port) (payload : List Byte) (s : State) : Ending :=
  match parseSetPorts payload with
  | none => refuse s .badArgs
  | some x =>
    let v : PerPort PortConfig := ⟨x.a.apply s.portConfig.a, x.b.apply s.portConfig.b⟩
    configEnding (s.setPortConfig v) portsItem (decide (v ≠ s.portConfig)) [] [flagsByte (decide (v = s.portConfig)) false]

/-- SET_PORTS (R163). -/
def execSetPorts (p : Port) (s : State) : Host.Outcome State Fault Refusal := .next (tableGrant p .setPorts actSetPorts s)

/-! ### FREEZE (9.5) -/

/-- The ascending order of the freeze levels (R165). -/
def FreezeLevel.rank : FreezeLevel → Nat
  | .opened => 0
  | .layout => 1
  | .fixed => 2

/-- FREEZE in its grant (R166). -/
def actFreeze (_p : Port) (payload : List Byte) (s : State) : Ending :=
  match parseFreeze payload with
  | none => refuse s .badArgs
  | some l =>
    if l.rank < s.freezeLevel.rank then refuse s .badArgs
    else
      configEnding (s.setFreeze l) freezeItem (decide (l ≠ s.freezeLevel)) []
        [flagsByte (decide (l = s.freezeLevel)) false, freezeCode l]

/-- FREEZE (R166). -/
def execFreeze (p : Port) (s : State) : Host.Outcome State Fault Refusal := .next (tableGrant p .freeze actFreeze s)

/-! ### READ_CONFIG (9.4) -/

/-- Bytes 3..11 of an item's live image (R187). -/
def configContent (s : State) (k : ItemNo) : List Byte :=
  match snapshot s k with
  | some c => ((encodeImage k 0 c).drop 3).take 9
  | none => []

/-- What READ_CONFIG returns (R164, 11.3). -/
def configRecord (s : State) (k : ItemNo) : List Byte :=
  countByte k.val :: configContent s k ++
    [if k = freezeItem then freezeByte s.committedFreeze else 0, durabilityCode (durability s k)]

/-- READ_CONFIG in its grant (R164). -/
def actReadConfig (_p : Port) (payload : List Byte) (s : State) : Ending :=
  match parseConfigItem payload with
  | none => refuse s .badArgs
  | some k => { refuse s .ok with payload := configRecord s k }

/-- READ_CONFIG (R164). -/
def execReadConfig (p : Port) (s : State) : Host.Outcome State Fault Refusal :=
  .next (tableGrant p .readConfig actReadConfig s)

end Sys2Proof.Machine
end

