-- ==== Sys2Proof/Machine/Evaluation.lean ====
section
/-! DEFINITION. Sys2Proof/Machine/Evaluation.lean: the evaluator (chapter 5): passes, dwell timers and axis conditions. -/

namespace Sys2Proof.Machine

/-! ### A pass (5.3) -/

/-- The span and final position that a pass of an axis receives (R82). -/
def passSpan (t : Tracker) : Option SweptSpan :=
  match t.held, t.position, t.live with
  | some h, _, _ => some h
  | none, some p, some l => some ⟨l, p⟩
  | none, some p, none => some ⟨Span.single p, p⟩
  | none, none, _ => none

/-- The tracker after a pass has received its span (R65, R82). -/
def afterPassSpan (t : Tracker) : Tracker :=
  match t.held, t.position, t.live with
  | none, some p, some _ => { t with live := some (Span.single p) }
  | _, _, _ => t

/-- What a pass does with the dwell timer of a visited zone. -/
inductive TimerAction where
  | keep | start | cancel
deriving DecidableEq, Repr

/-- The judgement of a visited zone (R86 to R88). -/
structure Verdict where
  occupancy : Occupancy
  timer : TimerAction
  transit : Bool
deriving DecidableEq, Repr

/-- The zone enters: its final position is within, from UNKNOWN or OUTSIDE (R86). -/
def enterVerdict (z : Zone) : Verdict :=
  if z.dwell = 0 then
    match z.action with
    | .follow => ⟨.inside, .keep, false⟩
    | .latch => ⟨.tripped, .keep, false⟩
  else ⟨.qualifying, .start, false⟩

/-- An OUTSIDE zone whose final position is not within is judged on the span (R87). -/
def crossVerdict (z : Zone) (touched : Bool) : Verdict :=
  if touched && decide (z.dwell = 0) then
    match z.action with
    | .follow => ⟨.outside, .keep, true⟩
    | .latch => ⟨.tripped, .keep, false⟩
  else ⟨.outside, .keep, false⟩

/-- The judgement of a visited zone from its present occupancy and the three tests (R86 to R88). A TRIPPED zone is not
visited and keeps its occupancy (R83). -/
def judgeZone (z : Zone) (x : SweptSpan) : Verdict :=
  let within := z.bounds.contains x.final
  match z.occupancy with
  | .unknown => if within then enterVerdict z else ⟨.outside, .keep, false⟩
  | .outside => if within then enterVerdict z else crossVerdict z (z.bounds.touched x.span)
  | .qualifying => if within then ⟨.qualifying, .keep, false⟩ else ⟨.outside, .cancel, false⟩
  | .inside => if z.bounds.holds z.hysteresis x.final then ⟨.inside, .keep, false⟩ else ⟨.outside, .keep, false⟩
  | .tripped => ⟨.tripped, .keep, false⟩

/-- The transit count after a transit: it stays at 255 (R87). -/
def addTransit (n : Byte) : Byte := if n = 255 then 255 else n + 1

/-- A verdict carried out on the zone of a slot. -/
def Verdict.zone (v : Verdict) (z : Zone) : Zone :=
  let y := z.withOccupancy v.occupancy
  if v.transit then { y with transits := addTransit z.transits } else y

/-- A zone that the evaluator acts on: LIVE, armed and not TRIPPED (R83, R93, R95). -/
def evaluated (z : Zone) : Bool := z.armed && decide (z.occupancy ≠ .tripped)

/-- The dwell timer a zone is given when it becomes QUALIFYING (R90). -/
def newDwell (z : Zone) (now : Nat) : DwellTimer := ⟨z.incarnation, now, z.dwell, none⟩

/-- The dwell timer as a verdict leaves it. -/
def TimerAction.act (a : TimerAction) (i : SlotNo) (z : Zone) (s : State) : State :=
  match a with
  | .keep => s
  | .start => s.setDwell i (some (newDwell z s.now))
  | .cancel => cancelDwell i s

/-- A zone of the table given a new record by the evaluator, with what that hands on (R18, R96, R98): the OCCUPANCY
notice, and, where its occupancy changed, the recomputation of its line (R103). -/
def changeZone (i : SlotNo) (before after : Zone) (w : Work) : Work :=
  let entered := decide (after.occupancy = .tripped) && decide (before.occupancy ≠ .tripped)
  { w with
    state := w.state.setSlot i (.live after)
    items := if entered then w.items ++ persistentItem i after else w.items
    notices := w.notices ++ occupancyNotice i before after entered
    lines := if before.occupancy = after.occupancy then w.lines else w.lines ++ linesOf after }

/-- The TRANSIT notice (R87). -/
def transitNotice (i : SlotNo) (z : Zone) : Notice := ⟨i, .transit, bothPorts, some [z.owner]⟩

/-- One zone of a pass is visited (R83). -/
def visit (x : SweptSpan) (w : Work) (i : SlotNo) : Work :=
  match w.state.zone i with
  | some z =>
    if evaluated z then
      let v := judgeZone z x
      let u := changeZone i z (v.zone z) w
      { u with
        state := v.timer.act i z u.state
        notices := if v.transit then u.notices ++ [transitNotice i z] else u.notices }
    else w
  | none => w

/-- Items in ascending slot order (R18). -/
def inSlotOrder (ks : List ItemNo) : List ItemNo := allItems.filter fun k => decide (k ∈ ks)

/-- The work of a pass (R79, R82, R83, R89): it is discarded while the axis's "position available" copy is clear, and
changes no zone where it receives no span. -/
def passWork (n : Axis) (s : State) : Work :=
  let t := s.setPass n none
  if t.available[n] then
    match passSpan (t.tracker n) with
    | some x =>
      let u := t.setTracker n (afterPassSpan (t.tracker n))
      let w := (t.zoneList n .absolute ++ t.zoneList n .periodic).foldl (visit x) { state := u }
      { w with items := inSlotOrder w.items }
    | none => { state := t }
  else { state := t }

/-- PASS (R83). -/
def execPass (n : Axis) (s : State) : Host.Outcome State Fault Refusal :=
  .next (evaluatorGrant (.pass n) (passWork n) s)

/-! ### Dwell timers (5.4) -/

/-- DWELL_TIMER_EXPIRY (R81): a running timer runs out. -/
def execDwellTimerExpiry (i : SlotNo) (m : Moment) (s : State) : Host.Outcome State Fault Refusal :=
  match s.dwell i with
  | some t =>
    if s.inService && t.expired.isNone then
      let u := s.tick m
      .next (u.setDwell i (some { t with expired := some u.now }))
    else .next s
  | none => .next s

/-- The occupancy a zone has when its dwell is complete (R91). -/
def completedOccupancy (a : Action) : Occupancy :=
  match a with
  | .follow => .inside
  | .latch => .tripped

/-- The work of an expiry (R91): it is discarded where the slot no longer holds the timer's incarnation, or its zone is
no longer QUALIFYING. -/
def expiryWork (i : SlotNo) (s : State) : Work :=
  let t := cancelDwell i s
  match s.zone i, s.dwell i with
  | some z, some d =>
    if z.incarnation = d.incarnation ∧ z.occupancy = .qualifying then
      changeZone i z (z.withOccupancy (completedOccupancy z.action)) { state := t }
    else { state := t }
  | _, _ => { state := t }

/-- DWELL_EXPIRY (R91). -/
def execDwellExpiry (i : SlotNo) (s : State) : Host.Outcome State Fault Refusal :=
  .next (evaluatorGrant (.expiry i) (expiryWork i) s)

/-! ### Axis conditions (5.5) -/

/-- The occupancy a stale policy gives at an axis-unsure condition (R94). -/
def policyOccupancy (z : Zone) : Occupancy :=
  match z.policy with
  | .hold => if z.occupancy = .qualifying then .outside else z.occupancy
  | .asserts => completedOccupancy z.action
  | .release => .outside

/-- One zone of an axis takes the occupancy that `f` gives it and loses its dwell timer (R93, R95). -/
def settle (n : Axis) (f : Zone → Occupancy) (w : Work) (i : SlotNo) : Work :=
  match w.state.zone i with
  | some z =>
    if evaluated z && decide (z.axis = n) then
      let u := changeZone i z (z.withOccupancy (f z)) w
      { u with state := cancelDwell i u.state }
    else w
  | none => w

/-- Every zone of an axis that the evaluator acts on, in ascending slot order (R93, R95). -/
def settleAxis (n : Axis) (f : Zone → Occupancy) (s : State) : Work :=
  allSlots.foldl (settle n f) { state := s }

/-- The first pending condition of an axis is taken. -/
def takeCondition (n : Axis) (s : State) : State := s.setConditions n (s.pendingConditions n).tail

/-- The work of an axis-unsure condition (R93). -/
def unsureWork (n : Axis) (s : State) : Work :=
  let t := (takeCondition n s).setAvailable n false
  settleAxis n policyOccupancy (t.setTracker n { t.tracker n with held := none })

/-- AXIS_UNSURE (R93). -/
def execAxisUnsure (n : Axis) (s : State) : Host.Outcome State Fault Refusal :=
  .next (evaluatorGrant (.condition n .unsure) (unsureWork n) s)

/-- The work of an axis-sure condition (R95). -/
def sureWork (n : Axis) (s : State) : Work :=
  settleAxis n (fun _ => .unknown) (setPassPending n ((takeCondition n s).setAvailable n true))

/-- AXIS_SURE (R95). -/
def execAxisSure (n : Axis) (s : State) : Host.Outcome State Fault Refusal :=
  .next (evaluatorGrant (.condition n .sure) (sureWork n) s)

end Sys2Proof.Machine
end

