-- ==== Sys2Proof/Machine/LocalCommands.lean ====
section
/-! DEFINITION. Sys2Proof/Machine/LocalCommands.lean: the port-local commands (R177), each taken at the moment its frame is
judged. -/

namespace Sys2Proof.Machine

/-- A port-local command without arguments (R105, R111, R157): BAD_ARGS where its payload holds bytes. -/
def withoutArguments (p : Port) (c : LocalCommand) (tag : Byte) (payload : List Byte) (serve : State → State)
    (s : State) : State :=
  match payload with
  | [] => serve s
  | _ => answer p c tag .badArgs [] s

/-- A port-local command that is answered NOT_READY while the device is STARTING (R140, R171). -/
def whenRunning (p : Port) (c : LocalCommand) (tag : Byte) (serve : State → State) (s : State) : State :=
  match s.device with
  | .starting => answer p c tag .notReady [] s
  | .running => serve s

/-! ### TAKE_CHANGES (6.3) -/

/-- The slots with an entry in a change set, in ascending order. -/
def changedSlots (changes : Vector CauseSet 96) : List SlotNo := allSlots.filter fun i => decide (changes[i] ≠ noCauses)

/-- The state code of a slot in a TAKE_CHANGES entry (11.3). -/
def slotStateCode : Slot → Byte
  | .vacant _ => 0
  | .quarantined => 1
  | .live z => occupancyCode z.occupancy + 2

/-- The incarnation an entry reports (R112). -/
def reportedIncarnation : Slot → Byte
  | .vacant r => r
  | .quarantined => 0
  | .live z => z.incarnation

/-- The three bytes of an entry (R112, 11.3). -/
def entryBytes (s : State) (changes : Vector CauseSet 96) (i : SlotNo) : List Byte :=
  [countByte i.val, reportedIncarnation (s.slot i), (slotStateCode (s.slot i) <<< 5) ||| (changes[i]).setWidth 8]

/-- The change set without some entries. -/
def removeEntries (is : List SlotNo) (changes : Vector CauseSet 96) : Vector CauseSet 96 :=
  is.foldl (fun (v : Vector CauseSet 96) (i : SlotNo) => v.set i noCauses) changes

/-- TAKE_CHANGES as it is taken (R111): up to 12 entries with the lowest slot numbers are removed and returned. -/
def serveTakeChanges (p : Port) (tag : Byte) (s : State) : State :=
  let changes := (s.port p).changes
  let all := changedSlots changes
  let taken := all.take Config.entriesPerTake
  let t := s.setPort p { s.port p with changes := removeEntries taken changes }
  answer p .takeChanges tag .ok (countByte (all.length - taken.length) :: taken.flatMap (entryBytes s changes)) t

/-- TAKE_CHANGES (R111). -/
def execTakeChanges (p : Port) (tag : Byte) (payload : List Byte) (s : State) : Host.Outcome State Fault Refusal :=
  .next (occupy p payload (withoutArguments p .takeChanges tag payload (serveTakeChanges p tag)) s)

/-! ### READ_FAULTS (10.6) -/

/-- READ_FAULTS as it is taken (R181): the flags as they stand and the truth of the conditions, and then the copy is
cleared of every event flag and of every condition flag whose condition is false. -/
def serveReadFaults (p : Port) (tag : Byte) (s : State) : State :=
  let f := (s.port p).faults
  let t := s.setPort p { s.port p with faults := f &&& conditionFlags s }
  answer p .readFaults tag .ok (halfBytes (f.setWidth 16) ++ [conditionByte s]) t

/-- READ_FAULTS (R181). -/
def execReadFaults (p : Port) (tag : Byte) (payload : List Byte) (s : State) : Host.Outcome State Fault Refusal :=
  .next (occupy p payload (withoutArguments p .readFaults tag payload (serveReadFaults p tag)) s)

/-! ### AXIS_STATUS (4.6) -/

/-- The tracker state codes (11.3). -/
def trackerStateCode : TrackerState → Byte
  | .disabled => 0 | .acquiring => 1 | .tracking => 2 | .stale => 3 | .lost => 4

/-- The LOST cause codes (11.3). -/
def lostCauseCode : Option LostCause → Byte
  | none => 0
  | some .jumps => 1
  | some .turnLimit => 2
  | some .slip => 3

/-- A four-bit field in a byte, or FFh for none. -/
def nibbleByte : Option (BitVec 4) → Byte
  | some b => b.setWidth 8
  | none => 0xFF

/-- The 20 bytes of an AXIS_STATUS response (R73, 11.3). -/
def axisRecord (t : Tracker) : List Byte :=
  [trackerStateCode t.state, lostCauseCode t.cause, yesNo t.position.isSome] ++
  (match t.position with
   | some p => posBytes p
   | none => [0, 0, 0, 0]) ++
  [nibbleByte t.sequence, t.jumpRun.setWidth 8, nibbleByte t.rawStatus] ++
  halfBytes t.counters.accepted ++ halfBytes t.counters.checkFail ++ halfBytes t.counters.sensorInvalid ++
  halfBytes t.counters.jumps ++ halfBytes t.counters.gaps

/-- AXIS_STATUS as it is taken (R73). -/
def serveAxisStatus (p : Port) (tag : Byte) (payload : List Byte) (s : State) : State :=
  match parseAxis payload with
  | some n => answer p .axisStatus tag .ok (axisRecord (s.tracker n)) s
  | none => answer p .axisStatus tag .badArgs [] s

/-- AXIS_STATUS (R73). -/
def execAxisStatus (p : Port) (tag : Byte) (payload : List Byte) (s : State) : Host.Outcome State Fault Refusal :=
  .next (occupy p payload (serveAxisStatus p tag payload) s)

/-! ### LINE_STATUS (6.1) -/

/-- The four bytes of a line in a LINE_STATUS response (R105, 11.3). -/
def lineRecordBytes (r : LineRecord) : List Byte := yesNo r.active :: drivingBytes r.driving ++ [countByte r.count]

/-- LINE_STATUS as it is taken (R105). -/
def serveLineStatus (p : Port) (tag : Byte) (s : State) : State :=
  answer p .lineStatus tag .ok (allLines.flatMap fun l => lineRecordBytes (s.line l)) s

/-- LINE_STATUS (R105). -/
def execLineStatus (p : Port) (tag : Byte) (payload : List Byte) (s : State) : Host.Outcome State Fault Refusal :=
  .next (occupy p payload (withoutArguments p .lineStatus tag payload (serveLineStatus p tag)) s)

/-! ### DEVICE_STATUS (10.5) -/

/-- The number of copies in state WORN (R134). -/
def wornCopies (s : State) : Nat :=
  (allItems.map fun k =>
    (if (s.item k).copies[0].isWorn then 1 else 0) + (if (s.item k).copies[1].isWorn then 1 else 0)).sum

/-- The number of items with both copies WORN (R134). -/
def notDurableItems (s : State) : Nat := (allItems.filter fun k => (s.item k).bothWorn).length

/-- The engine is PROGRAMMING or RETRYING (R134). -/
def programInFlight (s : State) : Bool :=
  match s.engine with
  | .programming _ | .retrying _ => true
  | .idle | .claiming _ _ => false

/-- The frame counters of both ports, port A first (R178). -/
def frameCounterBytes (s : State) : List Byte :=
  halfBytes (s.port .a).formatRefusals ++ halfBytes (s.port .a).busyRefusals ++
  halfBytes (s.port .b).formatRefusals ++ halfBytes (s.port .b).busyRefusals

/-- The 22 bytes of a DEVICE_STATUS response (R140, R178). While the device is STARTING the copies read CORRECTED are reported as
0 like the other figures of the load, which R140 does not say of this one (log entry 25). -/
def deviceRecord (s : State) : List Byte :=
  (match s.device with
   | .starting => [0, 0, 0, 0, 0, 0, 0, 0, 0, 0, 0, 0, freezeByte none, freezeByte none]
   | .running =>
     [1, countByte s.load.empty, countByte s.load.good, countByte s.load.staleCopy, countByte s.load.oneCopy,
      countByte s.load.lost, countByte s.load.corrected, countByte s.queue.length, yesNo (programInFlight s),
      countByte (wornCopies s), countByte (notDurableItems s), countByte (quarantinedSlots s),
      freezeByte (some s.freezeLevel), freezeByte s.committedFreeze]) ++
  frameCounterBytes s

/-- DEVICE_STATUS as it is taken (R178). -/
def serveDeviceStatus (p : Port) (tag : Byte) (s : State) : State := answer p .deviceStatus tag .ok (deviceRecord s) s

/-- DEVICE_STATUS (R178). -/
def execDeviceStatus (p : Port) (tag : Byte) (payload : List Byte) (s : State) : Host.Outcome State Fault Refusal :=
  .next (occupy p payload (withoutArguments p .deviceStatus tag payload (serveDeviceStatus p tag)) s)

/-! ### The integrity sweep's commands (8.5) -/

/-- The sweep's record as a SWEEP_START sets it (R152). -/
def startedSweep (r : RowNo) (loop stopOnFault : Bool) : Sweep :=
  { state := .running, startRow := r, loop := loop, stopOnFault := stopOnFault, nextRow := r, rowsRead := 0, passes := 0,
    corrected := 0, uncorrectable := 0, first := none, asked := true }

/-- SWEEP_START as it is taken while RUNNING (R152): the sweep asks the array for its first read. -/
def serveSweepStart (p : Port) (tag : Byte) (payload : List Byte) (s : State) : State :=
  match parseSweepStart payload with
  | none => answer p .sweepStart tag .badArgs [] s
  | some (r, loop, stopOnFault) =>
    if s.sweep.state = .running then answer p .sweepStart tag .sweepRunning [] s
    else answer p .sweepStart tag .ok [] (serveArray (s.setSweep (startedSweep r loop stopOnFault)))

/-- SWEEP_START (R152). -/
def execSweepStart (p : Port) (tag : Byte) (payload : List Byte) (s : State) : Host.Outcome State Fault Refusal :=
  .next (occupy p payload (whenRunning p .sweepStart tag (serveSweepStart p tag payload)) s)

/-- A read in progress of the sweep runs to its end unjudged (R156). -/
def orphanRead : ArrayUse → ArrayUse
  | .sweepRead r _ => .sweepRead r false
  | u => u

/-- SWEEP_STOP as it is taken (R156). -/
def serveSweepStop (p : Port) (tag : Byte) (s : State) : State :=
  if s.sweep.state = .running then
    answer p .sweepStop tag .ok [flagsByte false false]
      ((s.setSweep { s.sweep with state := .stopped, asked := false }).setArray (orphanRead s.array))
  else answer p .sweepStop tag .ok [flagsByte true false] s

/-- SWEEP_STOP (R156). -/
def execSweepStop (p : Port) (tag : Byte) (payload : List Byte) (s : State) : Host.Outcome State Fault Refusal :=
  .next (occupy p payload (withoutArguments p .sweepStop tag payload (serveSweepStop p tag)) s)

/-- The sweep state codes (11.3). -/
def sweepStateCode : SweepState → Byte
  | .idle => 0 | .running => 1 | .passed => 2 | .failed => 3 | .stopped => 4

/-- The first-fault bytes of a SWEEP_STATUS response (11.3); bytes that name nothing are sent as 0 (log entry 9). -/
def firstFaultBytes : Option FirstFault → List Byte
  | none => [0, 0, 0, 0, 0, 0]
  | some f =>
    [1 ||| (if f.uncorrectable then 2 else 0) ||| (if f.generation.isSome then 4 else 0) |||
       (if copyOfRow f.row = 1 then 8 else 0),
     countByte f.row.val, countByte (itemOfRow f.row).val, f.generation.getD 0] ++ halfBytes (BitVec.ofNat 16 f.pass)

/-- The 17 bytes of a SWEEP_STATUS response (R157, 11.3). -/
def sweepRecord (w : Sweep) : List Byte :=
  [sweepStateCode w.state, countByte w.startRow.val, (if w.loop then 1 else 0) ||| (if w.stopOnFault then 2 else 0),
   countByte w.nextRow.val, countByte w.rowsRead] ++
  halfBytes w.passes ++ halfBytes w.corrected ++ halfBytes w.uncorrectable ++ firstFaultBytes w.first

/-- SWEEP_STATUS as it is taken (R157). -/
def serveSweepStatus (p : Port) (tag : Byte) (s : State) : State :=
  answer p .sweepStatus tag .ok (sweepRecord s.sweep) s

/-- SWEEP_STATUS (R157). -/
def execSweepStatus (p : Port) (tag : Byte) (payload : List Byte) (s : State) : Host.Outcome State Fault Refusal :=
  .next (occupy p payload (withoutArguments p .sweepStatus tag payload (serveSweepStatus p tag)) s)

/-! ### SYNC (7.5) -/

/-- Mark P is given to the in-flight item (R130). -/
def markInFlight (p : Port) (v : Bool) : Engine → Engine
  | .idle => .idle
  | .claiming k m => .claiming k (m.set p v)
  | .programming x => .programming { x with marks := x.marks.set p v }
  | .retrying x => .retrying { x with marks := x.marks.set p v }

/-- Mark P is given to every entry of the queue and to the in-flight item (R130, R133). -/
def markAll (p : Port) (v : Bool) (s : State) : State :=
  (s.setQueue (s.queue.map fun e => { e with marks := e.marks.set p v })).setEngine (markInFlight p v s.engine)

/-- SYNC as it is taken while RUNNING (R130). -/
def serveSync (p : Port) (tag : Byte) (s : State) : State :=
  if s.queue = [] ∧ s.engine = .idle then answer p .sync tag .ok [] s
  else
    let t := markAll p true s
    t.setPort p { t.port p with slot := .waiting tag, sync := ⟨true, 0⟩ }

/-- SYNC (R130). -/
def execSync (p : Port) (tag : Byte) (payload : List Byte) (s : State) : Host.Outcome State Fault Refusal :=
  .next (occupy p payload
    (whenRunning p .sync tag (withoutArguments p .sync tag payload (serveSync p tag))) s)

/-! ### RESYNC (4.7) -/

/-- RESYNC as it is taken while RUNNING (R74). -/
def serveResync (p : Port) (tag : Byte) (payload : List Byte) (m : Moment) (s : State) : State :=
  match parseResync payload with
  | none => answer p .resync tag .badArgs [] s
  | some (n, turn) =>
    if (s.tracker n).state = .disabled then answer p .resync tag .axisDisabled [] s
    else answer p .resync tag .ok [] (resynchronise n .acquiring turn true (s.tick m))

/-- RESYNC (R74). -/
def execResync (p : Port) (tag : Byte) (payload : List Byte) (m : Moment) (s : State) :
    Host.Outcome State Fault Refusal :=
  .next (occupy p payload (whenRunning p .resync tag (serveResync p tag payload m)) s)

end Sys2Proof.Machine
end

