-- ==== Sys2Proof/Machine/PortFrames.lean ====
section
/-! DEFINITION. Sys2Proof/Machine/PortFrames.lean: the frames that a host port judges without a block behind it (10.1 to
10.4, 10.7): refused and unknown frames, NOP, FETCH, PORT_RESET, and the acceptance of table commands. -/

namespace Sys2Proof.Machine

/-- REFUSED_FORMAT (R170): the frame is discarded, counted and reported at this port alone. Bytes that are no malformed
frame are no event of this row. -/
def execRefusedFormat (p : Port) (bytes : List Byte) (s : State) : Host.Outcome State Fault Refusal :=
  if judgesFrames s p = true ∧ judgeFrame bytes = .malformed then
    let t := setLastFrame p .refusedFormat (shiftOut p bytes.length s)
    .next (raiseAt p .frameFault
      (t.setPort p { t.port p with formatRefusals := addSaturating (t.port p).formatRefusals 1 }))
  else .next s

/-- UNKNOWN_COMMAND (R171): a well-formed frame whose code 11.3 does not list. -/
def execUnknownCommand (p : Port) (code tag : Byte) (payload : List Byte) (s : State) :
    Host.Outcome State Fault Refusal :=
  match commandOfCode code with
  | some _ => .next s
  | none => .next (occupy p payload (placeResponse p ⟨tag, code, .unknownCommand, []⟩) s)

/-- NOP (R171). -/
def execNop (p : Port) (_tag : Byte) (s : State) : Host.Outcome State Fault Refusal :=
  if judgesFrames s p then .next (setLastFrame p .accepted (shiftOut p 4 s)) else .next s

/-- A FETCH as a port recognises it, against the slot as it stands then (R175). -/
def recognise (slot : CommandSlot) (tag : Byte) : RecognisedFetch :=
  match slot with
  | .done r => ⟨tag, some r⟩
  | .empty | .queued _ _ _ | .waiting _ => ⟨tag, none⟩

/-- The response that a FETCH shifts out: the held response, or NO_RESPONSE under the FETCH's own tag (R175). -/
def fetchResponse (f : RecognisedFetch) : Response := f.held.getD ⟨f.tag, ControlCommand.fetch.code, .noResponse, []⟩

/-- The FETCH of the transaction that ends at a port with tag `tag`: the one that was recognised at its fourth byte, or, where
nothing came between that byte and the rise of CS, the one that is recognised now (log entry 23). -/
def fetchAtEnd (q : PortState) (tag : Byte) : RecognisedFetch :=
  match q.transaction with
  | some x => x.fetch.getD (recognise q.slot tag)
  | none => recognise q.slot tag

/-- The bits of a byte, most significant first. -/
def bitsOf (b : Byte) : List Bool :=
  [b.getLsbD 7, b.getLsbD 6, b.getLsbD 5, b.getLsbD 4, b.getLsbD 3, b.getLsbD 2, b.getLsbD 1, b.getLsbD 0]

/-- What a FETCH transaction shifts out in `clocked` bits after its fourth byte: the response frame and then fill bytes
(R175). -/
def fetchBytes (frame : List Byte) (clocked : Nat) : List Byte :=
  (frame ++ List.replicate (clocked / 8) Config.fillByte).take (clocked / 8)

/-- The bits of a last byte that was not shifted out whole. -/
def fetchTail (frame : List Byte) (clocked : Nat) : List Bool :=
  (bitsOf (frame.getD (clocked / 8) Config.fillByte)).take (clocked % 8)

/-- CS falls (R168, R169): the status byte is sampled. A transaction that is still open was a status poll; one that has made a
FETCH is still to end. -/
def openTransaction (p : Port) (s : State) : State :=
  if fetchInProgress s p then s
  else s.setPort p { s.port p with transaction := some ⟨statusByte s p, none⟩ }

/-- The fourth byte of a FETCH frame arrives (R175): what follows is decided by the slot as it stands at that moment. -/
def recogniseFetch (p : Port) (tag : Byte) (s : State) : State :=
  let q := s.port p
  match q.transaction with
  | some ⟨status, none⟩ => s.setPort p { q with transaction := some ⟨status, some (recognise q.slot tag)⟩ }
  | _ => s

/-- CS rises on a FETCH (R175, R176): the slot becomes EMPTY where every bit of the held response was shifted out. A FETCH of
another tag than the one that was recognised does not come about. -/
def endFetch (p : Port) (tag : Byte) (clocked : Nat) (s : State) : State :=
  let q := s.port p
  let f := fetchAtEnd q tag
  let frame := responseFrame (fetchResponse f)
  let delivered := f.held.isSome && q.slot.isDone && decide (8 * frame.length ≤ clocked)
  if f.tag = tag then
    s.setPort p
      { q with
        slot := if delivered then .empty else q.slot
        lastFrame := .accepted
        transaction := none
        shifted := openingStatus s p :: List.replicate 3 Config.fillByte ++ fetchBytes frame clocked
        shiftedTail := fetchTail frame clocked }
  else s

/-- FETCH (R175, R176), at the moments of its transaction. -/
def execFetch (p : Port) (tag : Byte) (m : FetchMoment) (s : State) : Host.Outcome State Fault Refusal :=
  if s.held then .next s
  else
    match m with
    | .opens => .next (openTransaction p s)
    | .recognised => .next (recogniseFetch p tag s)
    | .ends clocked => .next (endFetch p tag clocked s)

/-- The command a port has QUEUED goes on without it: the grant of the port's claim has begun, and its work runs to its
end (R16, R174). A claim that stands before it in the rotation by now arrived during the grant and waits (R14): the event says
that the grant runs, and the arbiter's choice was made when it began (log entry 18). -/
def orphanGrant (p : Port) (s : State) : State :=
  if s.inService && s.running.isNone then
    match (s.port p).slot with
    | .queued c _ payload => (s.setRunning (some ⟨p, c, payload⟩)).setPointer (classOf p)
    | _ => s
  else s

/-- PORT_RESET (R182): a claim not yet granted is withdrawn with the slot, a running grant goes on without a response,
the port's SYNC marks go, and the port's own state is emptied. -/
def execPortReset (p : Port) (_tag : Byte) (duringGrant : Bool) (s : State) : Host.Outcome State Fault Refusal :=
  if judgesFrames s p then
    let t := markAll p false (if duringGrant then orphanGrant p s else s)
    .next (t.setPort p
      { slot := .empty, lastFrame := .none, formatRefusals := 0, busyRefusals := 0,
        changes := Vector.replicate 96 noCauses, faults := 0, sync := ⟨false, 0⟩, transaction := none,
        shifted := openingStatus s p :: List.replicate 3 Config.fillByte, shiftedTail := [] })
  else .next s

/-- A table command is accepted (R171, R174): QUEUED while the device is RUNNING, which makes its claim; answered NOT_READY
while it is STARTING. -/
def acceptTable (p : Port) (c : TableCommand) (tag : Byte) (payload : List Byte) (s : State) : State :=
  match s.device with
  | .starting => placeResponse p ⟨tag, c.code, .notReady, []⟩ s
  | .running => s.setPort p { s.port p with slot := .queued c tag payload }

/-- TABLE_COMMAND_ACCEPT (R174). -/
def execTableCommandAccept (p : Port) (c : TableCommand) (tag : Byte) (payload : List Byte) (s : State) :
    Host.Outcome State Fault Refusal :=
  .next (occupy p payload (acceptTable p c tag payload) s)

end Sys2Proof.Machine
end

