-- ==== Sys2Proof/Machine/Store.lean ====
section
/-! DEFINITION. Sys2Proof/Machine/Store.lean: the record store (chapter 7) and the integrity sweep (8.5): STORE_GRANT,
PROGRAM_VERIFY and SWEEP_READ. -/

namespace Sys2Proof.Machine

/-! ### The copy map (7.2) -/

/-- The other copy of an item. -/
def otherCopy (c : Copy) : Copy := if c = 0 then 1 else 0

/-- A copy of an item is marked. -/
def ItemEntry.mark (e : ItemEntry) (c : Copy) (v : CopyState) : ItemEntry := { e with copies := e.copies.set c v }

/-- The copy the engine writes (R125); none where both copies are WORN. -/
def chooseTarget (e : ItemEntry) : Option Copy :=
  let needsWriting (c : Copy) : Bool := decide (e.copies[c] = .bad) || decide (e.copies[c] = .blank)
  if e.bothWorn then none
  else if e.copies[0].isWorn then some 1
  else if e.copies[1].isWorn then some 0
  else if needsWriting 0 then some 0
  else if needsWriting 1 then some 1
  else some (match e.newest with
    | some c => otherCopy c
    | none => 0)

/-- The generation a commit gives its image (R119). -/
def nextGeneration (g : Option Byte) : Byte :=
  match g with
  | some g => g + 1
  | none => 1

/-- The newest copy after a program attempt into copy `c` has failed (R118). -/
def newestAfterFailure (e : ItemEntry) (c : Copy) : Option Copy :=
  if e.newest = some c then (if e.copies[otherCopy c] = .valid then some (otherCopy c) else none) else e.newest

/-- An item's entry after a program into copy `c` has verified with generation `g` (R118, R126). -/
def ItemEntry.committed (e : ItemEntry) (c : Copy) (g : Byte) : ItemEntry :=
  { copies := e.copies.set c .valid, newest := some c, generation := some g }

/-- An item's entry after a program attempt into copy `c` has failed, which leaves the copy `v` (R118, R127, R128). -/
def ItemEntry.failed (e : ItemEntry) (c : Copy) (v : CopyState) : ItemEntry :=
  { copies := e.copies.set c v, newest := newestAfterFailure e c, generation := e.generation }

/-! ### The STORE grant -/

/-- The engine programs its target row as soon as the array is free (R125, R135). -/
def startProgram (p : Program) (s : State) : State := serveArray (s.setEngine (.programming p))

/-- The commit of the in-flight item, with the table granted to the store (R123, R125). -/
def storeWork (k : ItemNo) (m : Marks) (s : State) : State :=
  match snapshot s k with
  | none => afterCommit (s.setEngine .idle)
  | some c =>
    match chooseTarget (s.item k) with
    | none => afterCommit (dropCommit m s)
    | some target =>
      let g := nextGeneration (s.item k).generation
      startProgram ⟨k, m, encodeImage k g c, target, g⟩ s

/-- STORE_GRANT (R123). -/
def execStoreGrant (s : State) : Host.Outcome State Fault Refusal :=
  if nextClass s = some .store then
    match s.engine with
    | .claiming k m => .next (storeWork k m ((s.setPointer .store).tick .later))
    | _ => .next s
  else .next s

/-! ### The verify of a program -/

/-- What the verify read of a program returns (R116). -/
def verifyRow (p : Program) (r : VerifyRead) : Row :=
  match r with
  | .asWritten => .clean p.image
  | .reads r => r

/-- The verify passes: the read is CLEAN and the image read equals the image written (R116). A program into a worn row fails,
whatever the operand says that its verify read returned (R117, R138, log entry 22). -/
def verifyPasses (s : State) (p : Program) (r : VerifyRead) : Bool :=
  decide (verifyRow p r = .clean p.image) && !s.worn (rowOf p.item p.target)

/-- A committed FREEZE item changes the committed freeze level to the level in its snapshot (R126). -/
def commitFreeze (p : Program) (s : State) : State :=
  match decodeImage p.item p.image with
  | some (.freeze l) => s.setCommitted (some l)
  | _ => s

/-- The array is released by the engine (R135): a sweep read that waits begins. -/
def releaseArray (s : State) : State := serveArray (s.setArray .free)

/-- The commit succeeds (R126). -/
def commitSucceeds (p : Program) (s : State) : State :=
  let t := (s.setRow (rowOf p.item p.target) (.clean p.image)).setItem p.item
    ((s.item p.item).committed p.target p.generation)
  afterCommit (releaseArray ((commitFreeze p t).setEngine .idle))

/-- The first attempt fails (R127): the copy is BAD, and the same copy is programmed again at once. -/
def retryProgram (p : Program) (s : State) : State :=
  let t := s.setItem p.item ((s.item p.item).failed p.target .bad)
  (raiseBoth .storeWriteFault t).setEngine (.retrying p)

/-- The item of a failed commit goes back to the queue with its marks (R128). -/
def requeue (k : ItemNo) (m : Marks) (s : State) : State :=
  if s.queue.any fun e => decide (e.item = k) then
    s.setQueue (s.queue.map fun e => if e.item = k then { e with marks := e.marks.union m } else e)
  else s.setQueue (s.queue ++ [⟨k, m⟩])

/-- The commit has failed twice (R128): the copy is WORN and its row reads UNCORRECTABLE and is worn; the item goes back to the
queue, or its commit is dropped where the other copy is WORN too. STORE_EXHAUSTED is raised where its condition becomes true. -/
def commitFails (p : Program) (s : State) : State :=
  let exhausted := storeExhaustedHolds s
  let row := rowOf p.item p.target
  let t := ((s.setRow row .uncorrectable).setWorn row true).setItem p.item ((s.item p.item).failed p.target .worn)
  let u := raiseBoth .storeWriteFault t
  let v :=
    if (u.item p.item).bothWorn then
      dropCommit p.marks (if exhausted then u else raiseBoth .storeExhausted u)
    else (requeue p.item p.marks u).setEngine .idle
  afterCommit (releaseArray v)

/-- PROGRAM_VERIFY (R126 to R128): the verify read of the program in the array completes. -/
def execProgramVerify (r : VerifyRead) (s : State) : Host.Outcome State Fault Refusal :=
  if s.array = .program then
    match s.engine with
    | .programming p => .next (if verifyPasses s p r then commitSucceeds p s else retryProgram p s)
    | .retrying p => .next (if verifyPasses s p r then commitSucceeds p s else commitFails p s)
    | _ => .next s
  else .next s

/-! ### The integrity sweep (8.5) -/

/-- The judgement of a row that the sweep reads (R154). -/
inductive SweepFinding where
  | accepted
  | correctable (generation : Option Byte)
  | uncorrectable (generation : Option Byte)
deriving DecidableEq, Repr

/-- A row is judged by its read outcome and by its copy's state in the copy map (R154). -/
def sweepFinding (k : ItemNo) (c : CopyState) (r : Row) : SweepFinding :=
  match r with
  | .blank => if c = .valid then .uncorrectable none else .accepted
  | .clean image => if imageWf k image then .accepted else .uncorrectable (some (imageGeneration image))
  | .corrected image => .correctable (some (imageGeneration image))
  | .uncorrectable => .uncorrectable none

/-- The number of the pass in progress: passes completed plus 1 (R154); a free value where that passes the field's range
(R151, log entry 21). -/
def passNumber (passes : Half) : Nat := if passes = 65535 then Config.passNumberBeyond.val + 1 else passes.toNat + 1

/-- The first fault since the SWEEP_START fills the first-fault record (R154). -/
def recordFault (r : RowNo) (uncorrectable : Bool) (g : Option Byte) (w : Sweep) : Sweep :=
  match w.first with
  | some _ => w
  | none => { w with first := some ⟨r, uncorrectable, g, passNumber w.passes⟩ }

/-- A fault in a copy that is not WORN makes the copy BAD and enqueues its item (R136, R154). -/
def markFaulty (r : RowNo) (s : State) : State :=
  let k := itemOfRow r
  let e := s.item k
  if e.copies[copyOfRow r] = .worn then s else enqueue k (s.setItem k (e.mark (copyOfRow r) .bad))

/-- The effects of a finding (R154): counts, first-fault record, fault flag, copy map and queue. -/
def applyFinding (r : RowNo) (f : SweepFinding) (s : State) : State :=
  match f with
  | .accepted => s
  | .correctable g =>
    let w := recordFault r false g s.sweep
    markFaulty r (raiseBoth .storeCorrected (s.setSweep { w with corrected := addSaturating w.corrected 1 }))
  | .uncorrectable g =>
    let w := recordFault r true g s.sweep
    markFaulty r (raiseBoth .storeUncorrectable (s.setSweep { w with uncorrectable := addSaturating w.uncorrectable 1 }))

/-- The row after a row: 0 after 205 (R153). -/
def followingRow (r : RowNo) : RowNo := r + 1

/-- The sweep's record after a row is judged (R153, R155); `fault`: the row was judged a fault. -/
def afterRow (r : RowNo) (fault : Bool) (w : Sweep) : Sweep :=
  let x := { w with rowsRead := w.rowsRead + 1, nextRow := followingRow r }
  if fault && x.stopOnFault then { x with state := .failed }
  else if x.rowsRead < 206 then x
  else
    let y := { x with passes := addSaturating x.passes 1 }
    if y.first.isSome then { y with state := .failed }
    else if y.loop then { y with rowsRead := 0 }
    else { y with state := .passed }

/-- A finding is a fault. -/
def SweepFinding.isFault : SweepFinding → Bool
  | .accepted => false
  | .correctable _ | .uncorrectable _ => true

/-- The sweep, while RUNNING, asks for its next read as soon as the previous read has been judged (R153). -/
def askNext (s : State) : State :=
  if s.sweep.state = .running then s.setSweep { s.sweep with asked := true } else s

/-- A completed read of the sweep is judged (R154, R155). -/
def judgeRead (r : RowNo) (s : State) : State :=
  let k := itemOfRow r
  let f := sweepFinding k (s.item k).copies[copyOfRow r] (s.row r)
  let t := applyFinding r f s
  askNext (t.setSweep (afterRow r f.isFault t.sweep))

/-- SWEEP_READ (R154): the sweep's read of a row completes. The read of a sweep that was stopped meanwhile is not judged
(R156). -/
def execSweepRead (d : Decay) (s : State) : Host.Outcome State Fault Refusal :=
  match s.array with
  | .sweepRead r judged =>
    let t := (s.setRow r (decayedRow (s.row r) d)).setArray .free
    .next (takeHead (serveArray (if judged then judgeRead r t else t)))
  | _ => .next s

end Sys2Proof.Machine
end

