-- ==== Sys2Proof/Machine/Load.lean ====
section
/-! DEFINITION. Sys2Proof/Machine/Load.lean: full resets and the start-up load (8.1 to 8.4): FULL_RESET, HOLD_END, RESTART,
LOAD_ROW_READ and MOVE_TO_RUNNING. -/

namespace Sys2Proof.Machine

/-! ### Full resets (R137, R139, R183) -/

/-- The program that is in the array. -/
def programInArray (s : State) : Option Program :=
  match s.array, s.engine with
  | .program, .programming p => some p
  | .program, .retrying p => some p
  | _, _ => none

/-- The row array after a full reset (R116, R137): the row of a program in progress is torn, every other row is kept. -/
def rowsAfterReset (s : State) (tear : Tear) : Vector Row 206 :=
  match programInArray s with
  | some p =>
    s.rows.set (rowOf p.item p.target)
      (match tear with
       | .blank => .blank
       | .uncorrectable => .uncorrectable
       | .asWritten => .clean p.image)
  | none => s.rows

/-- The wear of the rows after a full reset (R117, R138): it is kept with the rows. A worn row whose program was cut short and
that then reads as anything but UNCORRECTABLE is no longer taken for worn, so that its next program may end either way (log
entry 22). -/
def wornAfterReset (s : State) (tear : Tear) : Vector Bool 206 :=
  match programInArray s, tear with
  | some p, .blank => s.wornRows.set (rowOf p.item p.target) false
  | some p, .asWritten => s.wornRows.set (rowOf p.item p.target) false
  | _, _ => s.wornRows

/-- The part with all working state discarded (R19, R76, R99, R137, R184), with the given fault copies. -/
def fullReset (tear : Tear) (faults : FlagSet) (s : State) : State :=
  State.afterReset s.pending s.now (rowsAfterReset s tear) (wornAfterReset s tear) faults

/-- FULL_RESET (R139): the part is held in reset; both fault copies are emptied. -/
def execFullReset (cause : ResetCause) (tear : Tear) (s : State) : Host.Outcome State Fault Refusal :=
  let t := fullReset tear 0 s
  match cause with
  | .powerOn => .next (t.setSupply false s.resetN)
  | .supplyDip => .next (t.setSupply false s.resetN)
  | .resetPin => .next (t.setSupply s.supplyValid false)

/-- HOLD_END (R139, R179): the supply is valid and RESET_N is high; RESET_SEEN is raised in both fault copies. -/
def execHoldEnd (s : State) : Host.Outcome State Fault Refusal :=
  if s.held then .next (raiseBoth .resetSeen (s.setSupply true true)) else .next s

/-- RESTART (R183): a full reset whose hold lasts no time. -/
def execRestart (p : Port) (_tag : Byte) (tear : Tear) (s : State) : Host.Outcome State Fault Refusal :=
  if judgesFrames s p then
    let t := fullReset tear resetSeen s
    .next (t.setPort p
      { t.port p with shifted := openingStatus s p :: List.replicate 3 Config.fillByte })
  else .next s

/-! ### Reading and deciding (8.2, 8.3) -/

/-- A copy is classed by its read outcome and by the image it returns (R141). -/
def classOfRow (k : ItemNo) (r : Row) : CopyRead :=
  match r with
  | .blank => ⟨.blank, false⟩
  | .uncorrectable => ⟨.corrupt, false⟩
  | .clean image => ⟨if imageWf k image then .valid image else .corrupt, false⟩
  | .corrected image => ⟨if imageWf k image then .valid image else .corrupt, true⟩

/-- The outcomes of an item (R142). -/
inductive LoadOutcome where
  | empty | good | staleCopy | oneCopy | lost
deriving DecidableEq, Repr

/-- What the load decides of an item: the outcome, the image loaded, and the copy map entry before the CORRECTED copies
are marked (R142, R143). -/
structure Decision where
  outcome : LoadOutcome
  image : Option (List Byte)
  entry : ItemEntry
deriving DecidableEq, Repr

/-- The two copy states of an entry. -/
def twoCopies (c₀ c₁ : CopyState) : Vector CopyState 2 := #v[c₀, c₁]

/-- The state that the map gives a copy that is not VALID (R143). -/
def unreadState : CopyClass → CopyState
  | .blank => .blank
  | .corrupt => .bad
  | .valid _ => .valid

/-- The decision where both copies are VALID (R142, R143). -/
def decideBoth (i₀ i₁ : List Byte) : Decision :=
  let g₀ := imageGeneration i₀
  let g₁ := imageGeneration i₁
  let d := (g₀ - g₁).toNat
  if d = 0 then
    if sameContent i₀ i₁ then ⟨.good, some i₀, ⟨twoCopies .valid .valid, some 0, some g₀⟩⟩
    else ⟨.lost, none, ⟨twoCopies .bad .bad, none, some g₁⟩⟩
  else if d = 1 then ⟨.good, some i₀, ⟨twoCopies .valid .valid, some 0, some g₀⟩⟩
  else if d = 255 then ⟨.good, some i₁, ⟨twoCopies .valid .valid, some 1, some g₁⟩⟩
  else if d = 128 then ⟨.lost, none, ⟨twoCopies .bad .bad, none, some g₁⟩⟩
  else if d < 128 then ⟨.staleCopy, some i₀, ⟨twoCopies .valid .bad, some 0, some g₀⟩⟩
  else ⟨.staleCopy, some i₁, ⟨twoCopies .bad .valid, some 1, some g₁⟩⟩

/-- The decision of an item (R142, R143). A FREEZE item whose raise was cut short during the verify read, with the other copy
BLANK or CORRUPT, is decided ONE_COPY by R142, although the third row of the table of R167 names GOOD alone (log entry 24). -/
def decideItem (c₀ c₁ : CopyClass) : Decision :=
  match c₀, c₁ with
  | .blank, .blank => ⟨.empty, none, ⟨twoCopies .blank .blank, none, none⟩⟩
  | .valid i₀, .valid i₁ => decideBoth i₀ i₁
  | .valid i₀, c => ⟨.oneCopy, some i₀, ⟨twoCopies .valid (unreadState c), some 0, some (imageGeneration i₀)⟩⟩
  | c, .valid i₁ => ⟨.oneCopy, some i₁, ⟨twoCopies (unreadState c) .valid, some 1, some (imageGeneration i₁)⟩⟩
  | c, d => ⟨.lost, none, ⟨twoCopies (unreadState c) (unreadState d), none, none⟩⟩

/-- A copy read CORRECTED becomes BAD once the item is decided (R144). -/
def markCorrected (r₀ r₁ : CopyRead) (e : ItemEntry) : ItemEntry :=
  let f := if r₀.corrected then e.mark 0 .bad else e
  if r₁.corrected then f.mark 1 .bad else f

/-- The record or slot of an item that takes its empty or lost state (R145 to R147). -/
def loadNothing (k : ItemNo) (lost : Bool) (s : State) : State :=
  match itemKind k with
  | .slot i => s.setSlot i (if lost then .quarantined else .vacant 0)
  | .axis n => s.setAxisConfig n AxisConfig.default
  | .lines => s.setLineConfig (Vector.replicate 8 LineConfig.default)
  | .ports => s.setPortConfig ⟨PortConfig.default, PortConfig.default⟩
  | .freeze =>
    if lost then (s.setFreeze .fixed).setCommitted none else (s.setFreeze .opened).setCommitted (some .opened)

/-- The content of a loaded image becomes the item's (R145 to R147). -/
def loadContent (k : ItemNo) (c : Content) (s : State) : State :=
  match itemKind k, c with
  | .slot i, .vacant r => s.setSlot i (.vacant r)
  | .slot i, .live z => s.setSlot i (.live z)
  | .axis n, .axis c => s.setAxisConfig n c
  | .lines, .lines v => s.setLineConfig v
  | .ports, .ports c => s.setPortConfig c
  | .freeze, .freeze l => (s.setFreeze l).setCommitted (some l)
  | _, _ => s

/-- What an item's decision makes of the table and the configuration. -/
def loadItem (k : ItemNo) (d : Decision) (s : State) : State :=
  match d.image with
  | some image =>
    match decodeImage k image with
    | some c => loadContent k c s
    | none => s
  | none => loadNothing k (decide (d.outcome = .lost)) s

/-- A LOST AXIS, LINES or PORTS item is enqueued, so that its defaults are written; slot items and FREEZE are not (R145 to
R148). -/
def lostIsRepaired (k : ItemNo) : Bool :=
  match itemKind k with
  | .slot _ => false
  | .axis _ => true
  | .lines => true
  | .ports => true
  | .freeze => false

/-- The load enqueues an item (R148). -/
def needsRepair (k : ItemNo) (o : LoadOutcome) (corrected : Bool) : Bool :=
  match o with
  | .empty => false
  | .good => corrected
  | .staleCopy => true
  | .oneCopy => true
  | .lost => lostIsRepaired k

/-- The figures of R150 after an item is decided. -/
def Load.counted (l : Load) (o : LoadOutcome) : Load :=
  match o with
  | .empty => { l with empty := l.empty + 1 }
  | .good => { l with good := l.good + 1 }
  | .staleCopy => { l with staleCopy := l.staleCopy + 1 }
  | .oneCopy => { l with oneCopy := l.oneCopy + 1 }
  | .lost => { l with lost := l.lost + 1 }

/-- An item is decided once both its copies have been read (R141 to R148). -/
def decide2 (k : ItemNo) (r₀ r₁ : CopyRead) (s : State) : State :=
  let d := decideItem r₀.cls r₁.cls
  let t := (loadItem k d s).setItem k (markCorrected r₀ r₁ d.entry)
  let u := t.setLoad ((t.load).counted d.outcome)
  if needsRepair k d.outcome (r₀.corrected || r₁.corrected) then enqueue k u else u

/-- A row read by the load (R141): copy 0 is kept until copy 1 has been read, and then the item is decided. -/
def loadRow (r : RowNo) (s : State) : State :=
  let k := itemOfRow r
  let c := classOfRow k (s.row r)
  let l := s.load
  let m := { l with nextRow := l.nextRow + 1, corrected := if c.corrected then l.corrected + 1 else l.corrected }
  match l.first with
  | none => s.setLoad { m with first := some c }
  | some c₀ => decide2 k c₀ c (s.setLoad { m with first := none })

/-- LOAD_ROW_READ (R141): while the device is STARTING and rows remain. -/
def execLoadRowRead (d : Decay) (s : State) : Host.Outcome State Fault Refusal :=
  if s.device = .starting ∧ s.held = false then
    if h : s.load.nextRow < 206 then
      let r : RowNo := ⟨s.load.nextRow, h⟩
      .next (loadRow r (s.setRow r (decayedRow (s.row r) d)))
    else .next s
  else .next s

/-! ### The move to RUNNING (8.4) -/

/-- A LIVE slot enters its list (R149, step 1). -/
def listSlot (s : State) (i : SlotNo) : State :=
  match s.zone i with
  | some z => enterList i z s
  | none => s

/-- A LIVE zone conflicts with a zone already kept: one of a lower slot that is still LIVE, on the same axis (R20). -/
def conflictsWithKept (s : State) (i : SlotNo) (z : Zone) : Bool :=
  allSlots.any fun j =>
    decide (j < i) &&
      (match s.zone j with
       | some y => decide (y.axis = z.axis) && conflicts z.bounds z.exclusive y
       | none => false)

/-- One slot of the exclusivity check after load (R20). -/
def keepOrQuarantine (s : State) (i : SlotNo) : State :=
  match s.zone i with
  | some z => if conflictsWithKept s i z then (leaveList i z s).setSlot i .quarantined else s
  | none => s

/-- A tracker at the end of the load (R76): ACQUIRING where its AXIS record says enabled. -/
def startTracker (s : State) (n : Axis) : State :=
  if (s.axisConfig n).enabled then s.setTracker n { s.tracker n with state := .acquiring } else s

/-- The QUARANTINED notices (R110). -/
def quarantineNotices (s : State) : List Notice :=
  (allSlots.filter fun i => decide (s.slot i = .quarantined)).map fun i => ⟨i, .quarantined, bothPorts, none⟩

/-- The fault flags of the load (R149, step 5). -/
def loadFlags (s : State) : State :=
  let t := if 0 < s.load.corrected then raiseBoth .storeCorrected s else s
  let u := if 0 < t.load.lost then raiseBoth .storeUncorrectable t else t
  if 0 < quarantinedSlots u then raiseBoth .quarantine u else u

/-- The lists are built and the exclusivity check is made (R149, step 1). -/
def buildLists (s : State) : State := allSlots.foldl keepOrQuarantine (allSlots.foldl listSlot s)

/-- The steps of the move to RUNNING, in order (R149). -/
def moveToRunning (s : State) : State :=
  let t := (buildLists s).setDevice .running
  let u := allAxes.foldl startTracker t
  let v := recompute allLines u
  takeHead (loadFlags (addNotices (quarantineNotices v) v))

/-- MOVE_TO_RUNNING (R149): once the last row has been read. -/
def execMoveToRunning (s : State) : Host.Outcome State Fault Refusal :=
  if s.device = .starting ∧ s.held = false ∧ s.load.nextRow = 206 then .next (moveToRunning s) else .next s

end Sys2Proof.Machine
end

