-- ==== Sys2Proof/Machine/ReadCommands.lean ====
section
/-! DEFINITION. Sys2Proof/Machine/ReadCommands.lean: READ_ZONE, FIND and LIST (chapter 3), each carried out in its grant. -/

namespace Sys2Proof.Machine

/-- A read that is taken changes nothing (R45). -/
def readAnswer (s : State) (payload : List Byte) : Ending := { refuse s .ok with payload := payload }

/-- The record that READ_ZONE returns (R48, 11.3). -/
def zoneRecord (s : State) (i : SlotNo) (z : Zone) : List Byte :=
  handleBytes (handleAt i z) ++ writeBlock z ++ paddedLabel z.label ++
    [occupancyCode z.occupancy, z.transits, durabilityCode (zoneDurability s i z)]

/-- READ_ZONE in its grant (R47). -/
def actReadZone (_p : Port) (payload : List Byte) (s : State) : Ending :=
  match parseHandle payload with
  | none => refuse s .badArgs
  | some h =>
    match resolve s h with
    | .error r => refuse s r
    | .ok z => readAnswer s (zoneRecord s h.slot z)

/-- READ_ZONE (R47). -/
def execReadZone (p : Port) (s : State) : Host.Outcome State Fault Refusal := .next (tableGrant p .readZone actReadZone s)

/-- The handles of the zones in a list that a test passes, in list order. -/
def handlesWhere (s : State) (test : Zone → Bool) (l : List SlotNo) : List Handle :=
  l.filterMap fun i =>
    match s.zone i with
    | some z => if test z then some (handleAt i z) else none
    | none => none

/-- The zones of an axis that contain a position: ABSOLUTE, then PERIODIC, each in list order (R52). -/
def zonesAt (s : State) (n : Axis) (x : ExtPos) : List Handle :=
  handlesWhere s (fun z => z.bounds.contains x) (s.zoneList n .absolute ++ s.zoneList n .periodic)

/-- FIND in its grant (R51, R52). -/
def actFind (_p : Port) (payload : List Byte) (s : State) : Ending :=
  match parseFind payload with
  | none => refuse s .badArgs
  | some (n, x) =>
    let found := zonesAt s n x
    readAnswer s (countByte found.length :: (found.take Config.handlesPerPage).flatMap handleBytes)

/-- FIND (R52). -/
def execFind (p : Port) (s : State) : Host.Outcome State Fault Refusal := .next (tableGrant p .find actFind s)

/-- The entries of a list that follow a slot. -/
def entriesAfter (i : SlotNo) : List SlotNo → List SlotNo
  | [] => []
  | j :: rest => if j = i then rest else entriesAfter i rest

/-- The entries that follow a cursor in a list (R54, R55); none where the cursor is lost. -/
def entriesFrom (s : State) (n : Axis) (k : Kind) : Cursor → Option (List SlotNo)
  | .start => some (s.zoneList n k)
  | .handle h =>
    match s.zone h.slot with
    | some z =>
      if z.incarnation = h.incarnation ∧ h.slot ∈ s.zoneList n k then some (entriesAfter h.slot (s.zoneList n k))
      else none
    | none => none

/-- LIST in its grant (R53 to R55). -/
def actList (_p : Port) (payload : List Byte) (s : State) : Ending :=
  match parseList payload with
  | none => refuse s .badArgs
  | some (n, k, cursor) =>
    match entriesFrom s n k cursor with
    | none => refuse s .cursorLost
    | some following =>
      readAnswer s
        (yesNo (decide (Config.handlesPerPage < following.length)) ::
          (handlesWhere s (fun _ => true) (following.take Config.handlesPerPage)).flatMap handleBytes)

/-- LIST (R55). -/
def execList (p : Port) (s : State) : Host.Outcome State Fault Refusal := .next (tableGrant p .list actList s)

end Sys2Proof.Machine
end

