-- ==== Sys2Proof/Machine/ZoneCommands.lean ====
section
/-! DEFINITION. Sys2Proof/Machine/ZoneCommands.lean: the nine commands that change zones (chapter 2), each carried out in its
grant. A command makes its checks in the order of R13, and the first that fails gives its result. -/

namespace Sys2Proof.Machine

/-- Check 2 of the commands that LAYOUT and FIXED refuse (R165). -/
def frozenAtLayout (s : State) : Bool := decide (s.freezeLevel ≠ .opened)

/-- Check 2 of ARM and DISARM, which FIXED alone refuses (R165). -/
def frozenAtFixed (s : State) : Bool := decide (s.freezeLevel = .fixed)

/-- Checks 2 to 4 of a command that names a zone (R13): not frozen, the handle resolves, the owner passes. -/
def zoneChecks (p : Port) (frozen : Bool) (h : Handle) (s : State) : Except Result Zone :=
  if frozen then .error .frozen
  else
    match resolve s h with
    | .ok z => if ownerPasses z p then .ok z else .error .notOwner
    | .error r => .error r

/-- The port's requests and notices name the other port (R23). -/
def toOther (p : Port) : List Port := [p.other]

/-! ### CREATE (2.2) -/

/-- Check 8 of a CREATE (R12): the slot it is given and the incarnation that slot remembers. -/
def chooseSlot (requested : Option SlotNo) (s : State) : Except Result (SlotNo × Byte) :=
  match requested with
  | some i =>
    match s.slot i with
    | .vacant r => .ok (i, r)
    | .live _ => .error .slotTaken
    | .quarantined => .error .quarantined
  | none =>
    match lowestVacant s with
    | some i =>
      match s.slot i with
      | .vacant r => .ok (i, r)
      | .live _ | .quarantined => .error .tableFull
    | none => .error .tableFull

/-- Check 3 of a CREATE: it names a QUARANTINED slot (R12). -/
def namesQuarantined (requested : Option SlotNo) (s : State) : Bool :=
  match requested with
  | some i => decide (s.slot i = .quarantined)
  | none => false

/-- A CREATE that passes its checks (R26, R27). -/
def createTaken (p : Port) (x : CreateArgs) (i : SlotNo) (remembered : Byte) (s : State) : Ending :=
  let z := x.zone p (nextIncarnation remembered)
  { work := { state := enterList i z (s.setSlot i (.live z)), items := [slotItem i], lines := linesOf z }
    result := .ok
    payload := handleBytes (handleAt i z) }

/-- CREATE in its grant (R25). -/
def actCreate (p : Port) (payload : List Byte) (s : State) : Ending :=
  match parseCreate payload with
  | none => refuse s .badArgs
  | some x =>
    if frozenAtLayout s then refuse s .frozen
    else if namesQuarantined x.slot s then refuse s .quarantined
    else if !boundsOk x.bounds x.hysteresis then refuse s .badBounds
    else
      match firstConflict s x.axis x.bounds x.exclusive none with
      | some h => { refuse s .overlap with payload := handleBytes h }
      | none =>
        match chooseSlot x.slot s with
        | .error r => refuse s r
        | .ok (i, remembered) => createTaken p x i remembered s

/-- CREATE (R25). -/
def execCreate (p : Port) (s : State) : Host.Outcome State Fault Refusal := .next (tableGrant p .create actCreate s)

/-! ### AMEND (2.3) -/

/-- A change of axis, bounds, hysteresis or dwell restarts the zone's judgement (R24, R30). -/
def restartsJudgement (z y : Zone) : Bool :=
  decide (y.axis ≠ z.axis) || decide (y.bounds ≠ z.bounds) || decide (y.hysteresis ≠ z.hysteresis) ||
    decide (y.dwell ≠ z.dwell)

/-- The occupancy of an amended zone: restarted (R30), TRIPPED where its action became LATCH while it was INSIDE, and
kept otherwise (R31). -/
def amendedZone (available : Bool) (z y : Zone) : Zone :=
  if restartsJudgement z y then restarted available y
  else if z.action = .follow ∧ y.action = .latch ∧ z.occupancy = .inside then y.withOccupancy .tripped
  else y

/-- The lists after an AMEND (R9): a change of axis or bounds moves the zone to its ordered place. -/
def moveInLists (i : SlotNo) (z y : Zone) (s : State) : State :=
  if y.axis = z.axis ∧ y.bounds = z.bounds then s else enterList i y (leaveList i z s)

/-- An AMEND that passes its checks and changes a field (R30 to R32); `z` is the zone as it was and `y` as amended. -/
def amendTaken (i : SlotNo) (z y : Zone) (s : State) : Ending :=
  let v := amendedZone s.available[y.axis] z y
  let t := moveInLists i z v (s.setSlot i (.live v))
  let u := if restartsJudgement z y then restartPass v (cancelDwell i t) else t
  let entered := decide (v.occupancy = .tripped) && decide (z.occupancy ≠ .tripped)
  { work :=
      { state := u
        items := persistentItem i v
        notices := occupancyNotice i z v entered
        lines := linesOf z ++ linesOf v }
    result := .ok
    payload := handleBytes (handleAt i v) ++ [flagsByte false false, occupancyCode v.occupancy] }

/-- AMEND in its grant (R28). -/
def actAmend (p : Port) (payload : List Byte) (s : State) : Ending :=
  match parseAmend payload with
  | none => refuse s .badArgs
  | some x =>
    match zoneChecks p (frozenAtLayout s) x.handle s with
    | .error r => refuse s r
    | .ok z =>
      if z.occupancy = .tripped ∧ x.namesGeometryOrAction = true then refuse s .tripped
      else
        match x.apply z with
        | none => refuse s .badBounds
        | some y =>
          if !boundsOk y.bounds y.hysteresis then refuse s .badBounds
          else
            match firstConflict s y.axis y.bounds y.exclusive (some x.handle.slot) with
            | some h => { refuse s .overlap with payload := handleBytes h }
            | none =>
              if y = z then
                { refuse s .ok with
                  payload := handleBytes x.handle ++ [flagsByte true false, occupancyCode z.occupancy] }
              else amendTaken x.handle.slot z y s

/-- AMEND (R28). -/
def execAmend (p : Port) (s : State) : Host.Outcome State Fault Refusal := .next (tableGrant p .amend actAmend s)

/-! ### RETIRE (2.4) -/

/-- A RETIRE that passes its checks (R33). -/
def retireTaken (p : Port) (h : Handle) (z : Zone) (s : State) : Ending :=
  { work :=
      { state := cancelDwell h.slot (leaveList h.slot z (s.setSlot h.slot (.vacant z.incarnation)))
        items := persistentItem h.slot z
        notices := [⟨h.slot, .removed, toOther p, some [z.owner]⟩]
        lines := linesOf z }
    result := .ok
    payload := handleBytes h }

/-- RETIRE in its grant (R33). -/
def actRetire (p : Port) (payload : List Byte) (s : State) : Ending :=
  match parseHandle payload with
  | none => refuse s .badArgs
  | some h =>
    match zoneChecks p (frozenAtLayout s) h s with
    | .error r => refuse s r
    | .ok z => if z.occupancy = .tripped then refuse s .tripped else retireTaken p h z s

/-- RETIRE (R33). -/
def execRetire (p : Port) (s : State) : Host.Outcome State Fault Refusal := .next (tableGrant p .retire actRetire s)

/-! ### ARM, DISARM and CLEAR (2.5, 2.6) -/

/-- The response of ARM, DISARM and CLEAR (R21). -/
def zoneResponse (noChange : Bool) (o : Occupancy) : List Byte := [flagsByte noChange false, occupancyCode o]

/-- An ARM, DISARM or CLEAR taken without a change (R21). -/
def unchangedZone (z : Zone) (s : State) : Ending := { refuse s .ok with payload := zoneResponse true z.occupancy }

/-- A zone given a new record, its dwell timer cancelled, by an ARM, DISARM or CLEAR: its item, notice and line. -/
def changedZone (i : SlotNo) (z y : Zone) (entered : Bool) (s : State) : Ending :=
  { work :=
      { state := restartPass y (cancelDwell i (s.setSlot i (.live y)))
        items := persistentItem i y
        notices := occupancyNotice i z y entered
        lines := linesOf y }
    result := .ok
    payload := zoneResponse false y.occupancy }

/-- ARM in its grant (R35). -/
def actArm (p : Port) (payload : List Byte) (s : State) : Ending :=
  match parseHandle payload with
  | none => refuse s .badArgs
  | some h =>
    match zoneChecks p (frozenAtFixed s) h s with
    | .error r => refuse s r
    | .ok z =>
      if z.armed then unchangedZone z s
      else
        let y := restarted s.available[z.axis] { z with armed := true }
        changedZone h.slot z y (decide (y.occupancy = .tripped)) s

/-- ARM (R35). -/
def execArm (p : Port) (s : State) : Host.Outcome State Fault Refusal := .next (tableGrant p .arm actArm s)

/-- DISARM in its grant (R36); a disarmed zone sets no pass pending. -/
def actDisarm (p : Port) (payload : List Byte) (s : State) : Ending :=
  match parseHandle payload with
  | none => refuse s .badArgs
  | some h =>
    match zoneChecks p (frozenAtFixed s) h s with
    | .error r => refuse s r
    | .ok z =>
      if z.occupancy = .tripped then refuse s .tripped
      else if !z.armed then unchangedZone z s
      else changedZone h.slot z ({ z with armed := false }.withOccupancy .unknown) false s

/-- DISARM (R36). -/
def execDisarm (p : Port) (s : State) : Host.Outcome State Fault Refusal := .next (tableGrant p .disarm actDisarm s)

/-- CLEAR in its grant (R37, R38): no freeze level refuses it; a zone that trips again in the grant enters TRIPPED. -/
def actClear (p : Port) (payload : List Byte) (s : State) : Ending :=
  match parseHandle payload with
  | none => refuse s .badArgs
  | some h =>
    match zoneChecks p false h s with
    | .error r => refuse s r
    | .ok z =>
      if z.occupancy ≠ .tripped then unchangedZone z s
      else
        let y := restarted s.available[z.axis] z
        changedZone h.slot z y (decide (y.occupancy = .tripped)) s

/-- CLEAR (R37). -/
def execClear (p : Port) (s : State) : Host.Outcome State Fault Refusal := .next (tableGrant p .clear actClear s)

/-! ### TRANSFER and RELEASE_ALL (2.7) -/

/-- The TRANSFERRED notice: the filter judges the owner before and the owner after (R23, R107). -/
def transferNotice (p : Port) (i : SlotNo) (before after : Owner) : Notice :=
  ⟨i, .transferred, toOther p, some [before, after]⟩

/-- TRANSFER in its grant (R39). -/
def actTransfer (p : Port) (payload : List Byte) (s : State) : Ending :=
  match parseTransfer payload with
  | none => refuse s .badArgs
  | some (h, choice) =>
    match zoneChecks p (frozenAtLayout s) h s with
    | .error r => refuse s r
    | .ok z =>
      let o := choice.owner p
      if o = z.owner then { refuse s .ok with payload := [flagsByte true false, ownerByte o] }
      else
        { work :=
            { state := s.setSlot h.slot (.live { z with owner := o })
              items := persistentItem h.slot z
              notices := [transferNotice p h.slot z.owner o] }
          result := .ok
          payload := [flagsByte false false, ownerByte o] }

/-- TRANSFER (R39). -/
def execTransfer (p : Port) (s : State) : Host.Outcome State Fault Refusal := .next (tableGrant p .transfer actTransfer s)

/-- One slot of a RELEASE_ALL (R40): a zone that the requesting port owns becomes SHARED. -/
def releaseSlot (p : Port) (acc : Work × Nat) (i : SlotNo) : Work × Nat :=
  match acc.1.state.zone i with
  | some z =>
    if z.owner = ownerOf p then
      ({ acc.1 with
         state := acc.1.state.setSlot i (.live { z with owner := .shared })
         items := acc.1.items ++ persistentItem i z
         notices := acc.1.notices ++ [transferNotice p i z.owner .shared] }, acc.2 + 1)
    else acc
  | none => acc

/-- RELEASE_ALL in its grant (R40). -/
def actReleaseAll (p : Port) (payload : List Byte) (s : State) : Ending :=
  match parseNothing payload with
  | none => refuse s .badArgs
  | some _ =>
    if frozenAtLayout s then refuse s .frozen
    else
      let r := allSlots.foldl (releaseSlot p) ({ state := s }, 0)
      { work := r.1, result := .ok, payload := [countByte r.2] }

/-- RELEASE_ALL (R40). -/
def execReleaseAll (p : Port) (s : State) : Host.Outcome State Fault Refusal :=
  .next (tableGrant p .releaseAll actReleaseAll s)

/-! ### RECLAIM (2.8) -/

/-- RECLAIM in its grant (R41). -/
def actReclaim (p : Port) (payload : List Byte) (s : State) : Ending :=
  match parseSlot payload with
  | none => refuse s .badArgs
  | some i =>
    if frozenAtLayout s then refuse s .frozen
    else if s.slot i ≠ .quarantined then refuse s .notQuarantined
    else
      { work :=
          { state := s.setSlot i (.vacant 0)
            items := [slotItem i]
            notices := [⟨i, .removed, toOther p, none⟩] }
        result := .ok
        payload := [countByte i.val] }

/-- RECLAIM (R41). -/
def execReclaim (p : Port) (s : State) : Host.Outcome State Fault Refusal := .next (tableGrant p .reclaim actReclaim s)

end Sys2Proof.Machine
end

