-- ==== Sys2Proof/Machine/Dispatch.lean ====
section
/-! DEFINITION. Sys2Proof/Machine/Dispatch.lean: one arm per command or event, each one call of its meaning. -/

namespace Sys2Proof.Machine

def exec (i : Instr) (s : State) : Host.Outcome State Fault Refusal :=
  match i with
  | .fullReset cause tear => Sys2Proof.Machine.execFullReset cause tear s
  | .holdEnd => Sys2Proof.Machine.execHoldEnd s
  | .loadRowRead decay => Sys2Proof.Machine.execLoadRowRead decay s
  | .moveToRunning => Sys2Proof.Machine.execMoveToRunning s
  | .refusedFormat p bytes => Sys2Proof.Machine.execRefusedFormat p bytes s
  | .unknownCommand p code tag payload => Sys2Proof.Machine.execUnknownCommand p code tag payload s
  | .nop p tag => Sys2Proof.Machine.execNop p tag s
  | .fetch p tag moment => Sys2Proof.Machine.execFetch p tag moment s
  | .portReset p tag duringGrant => Sys2Proof.Machine.execPortReset p tag duringGrant s
  | .restart p tag tear => Sys2Proof.Machine.execRestart p tag tear s
  | .tableCommandAccept p command tag payload => Sys2Proof.Machine.execTableCommandAccept p command tag payload s
  | .create p => Sys2Proof.Machine.execCreate p s
  | .amend p => Sys2Proof.Machine.execAmend p s
  | .retire p => Sys2Proof.Machine.execRetire p s
  | .arm p => Sys2Proof.Machine.execArm p s
  | .disarm p => Sys2Proof.Machine.execDisarm p s
  | .clear p => Sys2Proof.Machine.execClear p s
  | .transfer p => Sys2Proof.Machine.execTransfer p s
  | .releaseAll p => Sys2Proof.Machine.execReleaseAll p s
  | .reclaim p => Sys2Proof.Machine.execReclaim p s
  | .readZone p => Sys2Proof.Machine.execReadZone p s
  | .find p => Sys2Proof.Machine.execFind p s
  | .list p => Sys2Proof.Machine.execList p s
  | .setAxis p => Sys2Proof.Machine.execSetAxis p s
  | .setLines p => Sys2Proof.Machine.execSetLines p s
  | .setPorts p => Sys2Proof.Machine.execSetPorts p s
  | .freeze p => Sys2Proof.Machine.execFreeze p s
  | .readConfig p => Sys2Proof.Machine.execReadConfig p s
  | .takeChanges p tag payload => Sys2Proof.Machine.execTakeChanges p tag payload s
  | .readFaults p tag payload => Sys2Proof.Machine.execReadFaults p tag payload s
  | .axisStatus p tag payload => Sys2Proof.Machine.execAxisStatus p tag payload s
  | .lineStatus p tag payload => Sys2Proof.Machine.execLineStatus p tag payload s
  | .deviceStatus p tag payload => Sys2Proof.Machine.execDeviceStatus p tag payload s
  | .sweepStart p tag payload => Sys2Proof.Machine.execSweepStart p tag payload s
  | .sweepStop p tag payload => Sys2Proof.Machine.execSweepStop p tag payload s
  | .sweepStatus p tag payload => Sys2Proof.Machine.execSweepStatus p tag payload s
  | .sync p tag payload => Sys2Proof.Machine.execSync p tag payload s
  | .resync p tag payload moment => Sys2Proof.Machine.execResync p tag payload moment s
  | .sampleFrame lane bits word straddles moment => Sys2Proof.Machine.execSampleFrame lane bits word straddles moment s
  | .stalenessExpiry axis moment => Sys2Proof.Machine.execStalenessExpiry axis moment s
  | .pass axis => Sys2Proof.Machine.execPass axis s
  | .dwellTimerExpiry slot moment => Sys2Proof.Machine.execDwellTimerExpiry slot moment s
  | .dwellExpiry slot => Sys2Proof.Machine.execDwellExpiry slot s
  | .axisUnsure axis => Sys2Proof.Machine.execAxisUnsure axis s
  | .axisSure axis => Sys2Proof.Machine.execAxisSure axis s
  | .storeGrant => Sys2Proof.Machine.execStoreGrant s
  | .programVerify read => Sys2Proof.Machine.execProgramVerify read s
  | .sweepRead decay => Sys2Proof.Machine.execSweepRead decay s

end Sys2Proof.Machine
end

