-- ==== Sys2Proof/WellFormed.lean ====
section
/-! DEFINITION. Sys2Proof/WellFormed.lean: when a term of Instr spells an event that can come to the part at all: a
payload that a frame can carry (R170), a code that 11.3 does not list, bytes that R170 refuses, an image of 32 bytes
(R115). Ports, axes, slots and the like are in range by their types. -/

namespace Sys2Proof

/-- A row that holds an image holds 32 bytes (R115). -/
def Row.wf : Row → Bool
  | .clean image => decide (image.length = 32)
  | .corrected image => decide (image.length = 32)
  | .blank | .uncorrectable => true

/-- What a verify read returns is what a row can read as. -/
def VerifyRead.wf : VerifyRead → Bool
  | .asWritten => true
  | .reads r => r.wf

/-- The well-formed commands and events. -/
def Instr.wf : Instr → Bool
  | .refusedFormat _ bytes => decide (judgeFrame bytes = .malformed)
  | .unknownCommand _ code _ payload => (commandOfCode code).isNone && payloadFits payload
  | .tableCommandAccept _ _ _ payload => payloadFits payload
  | .takeChanges _ _ payload | .readFaults _ _ payload | .axisStatus _ _ payload | .lineStatus _ _ payload
  | .deviceStatus _ _ payload | .sweepStart _ _ payload | .sweepStop _ _ payload | .sweepStatus _ _ payload
  | .sync _ _ payload | .resync _ _ payload _ => payloadFits payload
  | .programVerify read => read.wf
  | .fullReset _ _ | .holdEnd | .loadRowRead _ | .moveToRunning | .nop _ _ | .fetch _ _ _ | .portReset _ _ _
  | .restart _ _ _
  | .create _ | .amend _ | .retire _ | .arm _ | .disarm _ | .clear _ | .transfer _ | .releaseAll _ | .reclaim _
  | .readZone _ | .find _ | .list _ | .setAxis _ | .setLines _ | .setPorts _ | .freeze _ | .readConfig _
  | .sampleFrame _ _ _ _ _ | .stalenessExpiry _ _ | .pass _ | .dwellTimerExpiry _ _ | .dwellExpiry _
  | .axisUnsure _ | .axisSure _ | .storeGrant | .sweepRead _ => true

end Sys2Proof
end

