-- ==== Sys2Proof/Safety.lean ====
section
/-! DEFINITION. Sys2Proof/Safety.lean: what every state of a run satisfies (the invariants of chapters 1 to 8), which parts of
the state two states share, and the terms in which the statements speak of a grant and of a transaction. -/

namespace Sys2Proof.Machine

/-! ### Zones and slots -/

/-- A zone is what R4, R5, R7 and R77 let a zone be: an incarnation 1..255, bounds that meet their condition, a label of at
most 8 bytes, a trip mark set exactly at TRIPPED, UNKNOWN while disarmed, QUALIFYING with a dwell only, and INSIDE only as
a FOLLOW and TRIPPED only as a LATCH zone. -/
structure ZoneOk (z : Zone) : Prop where
  incarnation : z.incarnation ≠ 0
  bounds : boundsOk z.bounds z.hysteresis = true
  label : z.label.length ≤ 8
  tripMark : z.tripMark = true ↔ z.occupancy = .tripped
  disarmed : z.armed = false → z.occupancy = .unknown
  qualifying : z.occupancy = .qualifying → z.dwell ≠ 0
  inside : z.occupancy = .inside → z.action = .follow
  tripped : z.occupancy = .tripped → z.action = .latch

/-- Every zone of the table is as R4, R5, R7 and R77 let a zone be. -/
def ZonesOk (s : State) : Prop := ∀ i z, s.zone i = some z → ZoneOk z

/-! ### Lists and exclusivity -/

/-- The two keys by which a list orders zones before their slot numbers (R8): lower and upper bound, or start and end. -/
def sortKey : Bounds → Int × Int
  | .absolute lower upper => (lower.counts, upper.counts)
  | .periodic start stop => (start.toNat, stop.toNat)

/-- A zone in slot `i` comes before a zone in slot `j` in a list (R8): by the first key, then the second, then the slot. -/
def ComesBefore (y : Zone) (i : SlotNo) (z : Zone) (j : SlotNo) : Prop :=
  let a := sortKey y.bounds
  let b := sortKey z.bounds
  a.1 < b.1 ∨ (a.1 = b.1 ∧ (a.2 < b.2 ∨ (a.2 = b.2 ∧ i < j)))

/-- A list is in the order of R8. -/
def InOrder (s : State) (l : List SlotNo) : Prop :=
  l.Pairwise fun i j => ∀ y z, s.zone i = some y → s.zone j = some z → ComesBefore y i z j

/-- A list holds exactly the LIVE slots of its axis and kind (R8). -/
def HoldsExactly (s : State) (n : Axis) (k : Kind) : Prop :=
  ∀ i, i ∈ s.zoneList n k ↔ ∃ z, s.zone i = some z ∧ z.axis = n ∧ z.bounds.kind = k

/-- The eight lists are as R8 says while the device is RUNNING, and empty while it is STARTING (R19). -/
def ListsOk (s : State) : Prop :=
  ∀ n k, match s.device with
    | .running => HoldsExactly s n k ∧ InOrder s (s.zoneList n k)
    | .starting => s.zoneList n k = []

/-- Two LIVE zones of one axis that intersect are both not exclusive (R10), while the device is RUNNING. -/
def ExclusiveOk (s : State) : Prop :=
  s.device = .running → ∀ i j y z, i ≠ j → s.zone i = some y → s.zone j = some z → y.axis = z.axis →
    intersects y.bounds z.bounds = true → y.exclusive = false ∧ z.exclusive = false

/-- The lists and the exclusivity of the table (R8, R10). -/
structure TableOk (s : State) : Prop where
  lists : ListsOk s
  exclusive : ExclusiveOk s

/-! ### Evaluator and trackers -/

/-- A zone is QUALIFYING exactly while its dwell timer is held, and the timer is its own and of its dwell (R90). -/
structure DwellsOk (s : State) : Prop where
  held : ∀ i z, s.zone i = some z → ((s.dwell i).isSome = true ↔ z.occupancy = .qualifying)
  empty : ∀ i, s.zone i = none → s.dwell i = none
  own : ∀ i z d, s.zone i = some z → s.dwell i = some d → d.incarnation = z.incarnation ∧ d.length = z.dwell

/-- The record of a tracker is as the table of 4.2 and R65 to R71 let it be. -/
structure TrackerOk (c : AxisConfig) (t : Tracker) : Prop where
  sure : t.sure = true ↔ t.state = .tracking
  live : t.live.isSome = true ↔ t.state = .tracking
  timer : t.timer.isSome = true ↔ t.state = .tracking ∧ c.staleness ≠ 0
  position : t.position.isSome = true ↔ t.state = .tracking ∨ t.state = .stale ∨ t.state = .lost
  sequence : t.position.isSome = true → t.sequence.isSome = true
  cause : t.cause.isSome = true ↔ t.state = .lost
  disabled : t.state = .disabled → t.counters = Counters.zero ∧ t.rawStatus = none
  span : ∀ l p, t.live = some l → t.position = some p → l.lowest.le p = true ∧ p.le l.highest = true

/-- The pending conditions of an axis alternate and lead from the table's copy to the tracker's indicator (R69, R80). -/
def ConditionsOk (available sure : Bool) : List Condition → Prop
  | [] => sure = available
  | [c] => available = decide (c.kind = .unsure) ∧ sure = decide (c.kind = .sure)
  | [c, d] => available = decide (c.kind = .unsure) ∧ c.kind ≠ d.kind ∧ sure = decide (d.kind = .sure)
  | _ => False

/-- An axis as its tracker, its conditions and its pending pass leave it: a pass is pending only while the table's copy says
that the axis has a position (R79), and the conditions stand in posting order (R80). -/
structure AxisOk (s : State) (n : Axis) : Prop where
  tracker : TrackerOk (s.axisConfig n) (s.tracker n)
  conditions : ConditionsOk s.available[n] (s.tracker n).sure (s.pendingConditions n)
  pass : (s.pendingPass n).isSome = true → s.available[n] = true
  dated : ∀ c ∈ s.pendingConditions n, c.posted ≤ s.now
  posting : (s.pendingConditions n).Pairwise fun c d => c.posted ≤ d.posted
  starting : s.device = .starting → (s.tracker n).state = .disabled ∧ s.available[n] = false

/-- Every axis is in order. -/
def AxesOk (s : State) : Prop := ∀ n, AxisOk s n

/-! ### Lines -/

/-- Every line record is what its driving set gives while the device is RUNNING, and released and INACTIVE while it is
STARTING (R99, R101 to R103). -/
def LinesOk (s : State) : Prop :=
  ∀ l, match s.device with
    | .running => s.line l = lineRecordOf s l
    | .starting => s.line l = LineRecord.reset

/-! ### The record store -/

/-- The engine holds a commit whose target has been chosen. -/
def Engine.hasProgram : Engine → Bool
  | .programming _ | .retrying _ => true
  | .idle | .claiming _ _ => false

/-- The engine is RETRYING. -/
def Engine.isRetrying : Engine → Bool
  | .retrying _ => true
  | _ => false

/-- The commit queue, the engine and the array (R120, R122, R127, R135): an item is queued at most once, an idle engine has
nothing to take while the device is RUNNING, only the engine's program is in the array, a program waits only for a sweep
read, a retry never waits, and the engine and the array rest while the device is STARTING. -/
structure StoreOk (s : State) : Prop where
  once : (s.queue.map QueueEntry.item).Nodup
  takes : s.device = .running → s.engine = .idle → s.queue = []
  program : s.array = .program → s.engine.hasProgram = true
  waits : s.engine.hasProgram = true → s.array ≠ .free
  retry : s.engine.isRetrying = true → s.array = .program
  starting : s.device = .starting → s.engine = .idle ∧ s.array = .free

/-- The sweep and the array (R153, R156): the sweep is RUNNING exactly while a read of it is asked for or is in the array to
be judged, a read that is asked for waits for the array, the read in the array is of the next row, and a pass ends at 206 rows. -/
structure SweepOk (s : State) : Prop where
  running : s.sweep.state = .running ↔ (s.sweep.asked = true ∨ ∃ r, s.array = .sweepRead r true)
  asked : s.sweep.asked = true → s.array ≠ .free ∧ ∀ r, s.array ≠ .sweepRead r true
  next : ∀ r, s.array = .sweepRead r true → r = s.sweep.nextRow
  count : s.sweep.state = .running → s.sweep.rowsRead < 206
  starting : s.device = .starting → s.sweep = Sweep.reset

/-- The wear of the row array: a worn row reads UNCORRECTABLE, and the row of a WORN copy is worn (R117, R128). -/
structure WearOk (s : State) : Prop where
  reads : ∀ r, s.worn r = true → s.row r = .uncorrectable
  copies : ∀ (k : ItemNo) (c : Copy), (s.item k).copies[c] = .worn → s.worn (rowOf k c) = true

/-- A port waits for its SYNC exactly while the queue or the in-flight item carries its mark (R130 to R133). -/
structure SyncOk (s : State) (p : Port) : Prop where
  slot : (∃ tag, (s.port p).slot = .waiting tag) ↔ (s.port p).sync.waiting = true
  marks : (s.port p).sync.waiting = !noMark s p
  dropped : (s.port p).sync.waiting = false → (s.port p).sync.dropped = 0

/-! ### STARTING and the hold -/

/-- A slot is QUEUED. -/
def CommandSlot.isQueued : CommandSlot → Bool
  | .queued _ _ _ => true
  | _ => false

/-- While the device is STARTING no claim is made, no grant runs and the evaluator holds nothing (R14, R78, R140). -/
structure StartingOk (s : State) : Prop where
  slots : ∀ p, (s.port p).slot.isQueued = false
  running : s.running = none
  passes : ∀ n, s.pendingPass n = none
  conditions : ∀ n, s.pendingConditions n = []
  dwells : ∀ i, s.dwell i = none
  notRunning : ∀ i z, s.zone i = some z → z.occupancy = .unknown ∨ z.occupancy = .tripped

/-- The part is STARTING while it is held in reset, and rests while it is STARTING (R139, R140). -/
structure DeviceOk (s : State) : Prop where
  hold : s.held = true → s.device = .starting
  rests : s.device = .starting → StartingOk s
  rows : s.load.nextRow ≤ 206
  half : s.load.first.isSome = true ↔ s.load.nextRow % 2 = 1

/-- The AXIS records keep to their ranges (R158): a max step and a jump limit of at least 1. -/
def RangesOk (s : State) : Prop := ∀ n, (s.axisConfig n).maxStep ≠ 0 ∧ (s.axisConfig n).jumpLimit ≠ 0

/-- Everything above: what every state of a run satisfies. -/
structure Good (s : State) : Prop where
  ranges : RangesOk s
  zones : ZonesOk s
  dwells : DwellsOk s
  table : TableOk s
  axes : AxesOk s
  lines : LinesOk s
  store : StoreOk s
  wear : WearOk s
  sweep : SweepOk s
  sync : ∀ p, SyncOk s p
  device : DeviceOk s

/-! ### What two states share -/

/-- The device state, the supply and reset pins and the load's figures are the same. -/
structure SameDevice (s t : State) : Prop where
  device : t.device = s.device
  supply : t.supplyValid = s.supplyValid
  resetN : t.resetN = s.resetN
  load : t.load = s.load

/-- The slots and the lists are the same. -/
structure SameTable (s t : State) : Prop where
  slots : t.slots = s.slots
  absolute : t.absolute = s.absolute
  periodic : t.periodic = s.periodic

/-- The evaluator's work and the position copies are the same. -/
structure SameEvaluator (s t : State) : Prop where
  available : t.available = s.available
  passes : t.passes = s.passes
  conditions : t.conditions = s.conditions
  dwells : t.dwells = s.dwells

/-- The configuration records are the same. -/
structure SameConfig (s t : State) : Prop where
  axes : t.axes = s.axes
  lines : t.lineConfig = s.lineConfig
  ports : t.portConfig = s.portConfig
  freeze : t.freezeLevel = s.freezeLevel

/-- The row array with its wear, the copy map and the committed freeze level are the same. -/
structure SameRows (s t : State) : Prop where
  rows : t.rows = s.rows
  wear : t.wornRows = s.wornRows
  copyMap : t.copyMap = s.copyMap
  committed : t.committedFreeze = s.committedFreeze

/-- The commit queue and the engine are the same. -/
structure SameQueue (s t : State) : Prop where
  queue : t.queue = s.queue
  engine : t.engine = s.engine

/-- The use of the array and the sweep are the same. -/
structure SameSweep (s t : State) : Prop where
  array : t.array = s.array
  sweep : t.sweep = s.sweep

/-- The arbiter is the same. -/
structure SameArbiter (s t : State) : Prop where
  pointer : t.pointer = s.pointer
  running : t.running = s.running

/-- The whole record store is the same. -/
structure SameStore (s t : State) : Prop where
  rows : SameRows s t
  queue : SameQueue s t
  sweep : SameSweep s t

/-- All that stands behind the ports is the same: all but the arbiter, the ports and the model's own clock. -/
structure SameBehindPorts (s t : State) : Prop where
  device : SameDevice s t
  table : SameTable s t
  evaluator : SameEvaluator s t
  config : SameConfig s t
  trackers : t.trackers = s.trackers
  lines : t.lines = s.lines
  store : SameStore s t

/-- Nothing but port `p` differs. -/
structure OnlyPort (s t : State) (p : Port) : Prop where
  behind : SameBehindPorts s t
  arbiter : SameArbiter s t
  other : t.port p.other = s.port p.other

/-! ### What a grant hands on (R18) -/

/-- The items were enqueued, in order, and an idle engine took its head (R121, R122). -/
structure Enqueued (items : List ItemNo) (s t : State) : Prop where
  queue : t.queue = (takeHead (enqueueAll items s)).queue
  engine : t.engine = (takeHead (enqueueAll items s)).engine

/-- The change sets gained the causes `causes q j` at port `q` for slot `j`, and nothing else (R108). -/
def Gained (s t : State) (causes : Port → SlotNo → CauseSet) : Prop :=
  ∀ (q : Port) (j : SlotNo), (t.port q).changes[j] = (s.port q).changes[j] ||| causes q j

/-- The cause of one notice, where it is sent to the port and the port's filter passes it (R107). -/
def causeOf (s : State) (i : SlotNo) (cause : Cause) (sentTo : List Port) (owners : Option (List Owner)) (q : Port)
    (j : SlotNo) : CauseSet :=
  if j = i ∧ q ∈ sentTo ∧ passesFilter (s.portConfig.get q).subscription q owners = true then cause.mask else 0

/-- No causes. -/
def nothing (_q : Port) (_j : SlotNo) : CauseSet := 0

/-- The OCCUPANCY cause of a zone that was `z` and is `y` (R23, R98): it became active or inactive, or entered TRIPPED. -/
def occupancyCause (s : State) (i : SlotNo) (z y : Zone) (entered : Bool) : Port → SlotNo → CauseSet :=
  if z.occupancy.active ≠ y.occupancy.active ∨ entered = true then
    causeOf s i .occupancy bothPorts (some [y.owner])
  else nothing

/-- The lines of `ls` were recomputed, and no other line changed (R103). -/
def Recomputed (s t : State) (ls : List LineNo) : Prop :=
  ∀ l : LineNo, t.line l = if l ∈ ls then lineRecordOf t l else s.line l

/-! ### Grants and transactions -/

/-- The row of the table that the grant of a table command at a port is. -/
def grantOf (p : Port) : TableCommand → Instr
  | .create => .create p | .amend => .amend p | .retire => .retire p | .arm => .arm p | .disarm => .disarm p
  | .clear => .clear p | .transfer => .transfer p | .releaseAll => .releaseAll p | .reclaim => .reclaim p
  | .readZone => .readZone p | .find => .find p | .list => .list p | .setAxis => .setAxis p | .setLines => .setLines p
  | .setPorts => .setPorts p | .freeze => .freeze p | .readConfig => .readConfig p

/-- The payload carries the arguments that the command takes, each in its range (check 1 of R13; R185). -/
def argsOk : TableCommand → List Byte → Bool
  | .create, b => (parseCreate b).isSome
  | .amend, b => (parseAmend b).isSome
  | .retire, b => (parseHandle b).isSome
  | .arm, b => (parseHandle b).isSome
  | .disarm, b => (parseHandle b).isSome
  | .clear, b => (parseHandle b).isSome
  | .transfer, b => (parseTransfer b).isSome
  | .releaseAll, b => (parseNothing b).isSome
  | .reclaim, b => (parseSlot b).isSome
  | .readZone, b => (parseHandle b).isSome
  | .find, b => (parseFind b).isSome
  | .list, b => (parseList b).isSome
  | .setAxis, b => (parseSetAxis b).isSome
  | .setLines, b => (parseSetLines b).isSome
  | .setPorts, b => (parseSetPorts b).isSome
  | .freeze, b => (parseFreeze b).isSome
  | .readConfig, b => (parseConfigItem b).isSome

/-- The commands that a freeze level refuses (the table of R165). -/
def refusedAt : FreezeLevel → TableCommand → Bool
  | .opened, _ => false
  | .layout, c => c ∈ [.create, .amend, .retire, .transfer, .releaseAll, .reclaim, .setAxis, .setLines]
  | .fixed, c => c ∈ [.create, .amend, .retire, .transfer, .releaseAll, .reclaim, .setAxis, .setLines, .arm, .disarm]

/-- The commands that name a zone by handle and that the owner check guards (R6), with the handle they name. -/
def guardedHandle : TableCommand → List Byte → Option Handle
  | .amend, b => (parseAmend b).map AmendArgs.handle
  | .retire, b => parseHandle b
  | .arm, b => parseHandle b
  | .disarm, b => parseHandle b
  | .clear, b => parseHandle b
  | .transfer, b => (parseTransfer b).map Prod.fst
  | _, _ => none

/-- Port `p`'s QUEUED command is the claim that the arbiter grants (R14, R15). -/
structure Due (s : State) (p : Port) (c : TableCommand) (tag : Byte) (payload : List Byte) : Prop where
  free : s.running = none
  next : nextClass s = some (classOf p)
  slot : (s.port p).slot = .queued c tag payload

/-- The evaluator is granted the table for a work item (R15, R17). -/
structure EvaluatorDue (s : State) (w : WorkItem) : Prop where
  next : nextClass s = some .evaluator
  item : nextItem s = some w

/-- A table command's grant has ended with a response (R15, R18, R174): the pointer names the port's class, the slot is DONE,
and the device, the rows, the sweep and all of the ports but their slots and change sets are as they were. -/
structure Answered (s t : State) (p : Port) (r : Response) : Prop where
  slot : (t.port p).slot = .done r
  pointer : t.pointer = classOf p
  running : t.running = none
  device : SameDevice s t
  rows : SameRows s t
  sweep : SameSweep s t
  ports : ∀ q, t.port q = { s.port q with slot := (t.port q).slot, changes := (t.port q).changes }
  other : (t.port p.other).slot = (s.port p.other).slot

/-- An evaluator grant has ended (R15): the pointer names the class, and the device, the configuration, the rows, the sweep
and all of the ports but their change sets are as they were. -/
structure Evaluated (s t : State) : Prop where
  pointer : t.pointer = .evaluator
  running : t.running = s.running
  device : SameDevice s t
  config : SameConfig s t
  rows : SameRows s t
  sweep : SameSweep s t
  ports : ∀ q, t.port q = { s.port q with changes := (t.port q).changes }

/-- The transaction in progress at a port, if there is one, has not made a FETCH (R175). -/
def NoFetch (s : State) (p : Port) : Prop := (s.port p).transaction.bind Transaction.fetch = none

/-- The status byte of the transaction that ends at a port (R169): as it was sampled when CS fell, and as it stands where no
transaction is in progress, so that the whole of it is the step itself (log entry 23). -/
def openingByte (s : State) (p : Port) : Byte := ((s.port p).transaction.map Transaction.status).getD (statusByte s p)

/-- The response that a slot holds. -/
def heldResponse : CommandSlot → Option Response
  | .done r => some r
  | .empty | .queued _ _ _ | .waiting _ => none

/-- Port `p` can be sent a command that occupies its slot: the part is not held in reset, the transaction is no FETCH, and the
slot is EMPTY (R171, R175). -/
structure PortFree (s : State) (p : Port) : Prop where
  hold : s.held = false
  frame : NoFetch s p
  slot : (s.port p).slot = .empty

/-- A port as an accepted frame with this payload leaves it, its slot `v` (R168, R169, R172): the status byte as it stood when
CS fell and then fill bytes were shifted out, and the transaction has ended. -/
def acceptedPort (s : State) (p : Port) (payload : List Byte) (v : CommandSlot) : PortState :=
  { s.port p with
    slot := v
    lastFrame := .accepted
    transaction := none
    shifted := openingByte s p :: List.replicate (payload.length + 3) 0xFF
    shiftedTail := [] }

/-- A port-local command was taken at a free port and answered (R177): its response stands in the slot, and nothing but the
port differs. -/
structure AnsweredLocally (s t : State) (p : Port) (c : LocalCommand) (tag : Byte) (payload : List Byte) (r : Result)
    (answer : List Byte) : Prop where
  port : t.port p = acceptedPort s p payload (.done ⟨tag, c.code, r, answer⟩)
  rest : OnlyPort s t p

/-- The port and the payload of a frame whose command occupies the slot (R171). -/
def occupying : Instr → Option (Port × List Byte)
  | .unknownCommand p _ _ payload | .tableCommandAccept p _ _ payload | .takeChanges p _ payload
  | .readFaults p _ payload | .axisStatus p _ payload | .lineStatus p _ payload | .deviceStatus p _ payload
  | .sweepStart p _ payload | .sweepStop p _ payload | .sweepStatus p _ payload | .sync p _ payload
  | .resync p _ payload _ => some (p, payload)
  | _ => none

/-! ### A full reset -/

/-- All working state is discarded (R19, R76, R99, R137, R151, R184): what a full reset leaves beside the rows, the fault
copies and the bytes that a port has shifted out. -/
structure Discarded (t : State) : Prop where
  device : t.device = .starting
  load : t.load = Load.reset
  slots : ∀ i, t.slot i = .vacant 0
  lists : ∀ n k, t.zoneList n k = []
  available : ∀ n : Axis, t.available[n] = false
  pointer : t.pointer = .store
  running : t.running = none
  passes : ∀ n, t.pendingPass n = none
  conditions : ∀ n, t.pendingConditions n = []
  dwells : ∀ i, t.dwell i = none
  trackers : ∀ n, (t.tracker n).state = .disabled ∧ (t.tracker n).cause = none ∧ (t.tracker n).position = none ∧
    (t.tracker n).sequence = none ∧ (t.tracker n).live = none ∧ (t.tracker n).held = none ∧ (t.tracker n).sure = false ∧
    (t.tracker n).jumpRun = 0 ∧ (t.tracker n).timer = none ∧ (t.tracker n).acquireTurn = none ∧
    (t.tracker n).rawStatus = none ∧ (t.tracker n).counters = ⟨0, 0, 0, 0, 0⟩
  lines : ∀ l, t.line l = ⟨false, none, 0, .released⟩
  ports : ∀ p, (t.port p).slot = .empty ∧ (t.port p).lastFrame = .none ∧ (t.port p).formatRefusals = 0 ∧
    (t.port p).busyRefusals = 0 ∧ noChanges (t.port p).changes = true ∧ (t.port p).sync = ⟨false, 0⟩ ∧
    (t.port p).transaction = none
  queue : t.queue = []
  engine : t.engine = .idle
  array : t.array = .free
  sweep : t.sweep.state = .idle ∧ t.sweep.startRow = 0 ∧ t.sweep.loop = false ∧ t.sweep.stopOnFault = false ∧
    t.sweep.nextRow = 0 ∧ t.sweep.rowsRead = 0 ∧ t.sweep.passes = 0 ∧ t.sweep.corrected = 0 ∧
    t.sweep.uncorrectable = 0 ∧ t.sweep.first = none

/-- What a row whose program was cut short reads as (R116). -/
def tornRow (image : List Byte) : Tear → Row
  | .blank => .blank
  | .uncorrectable => .uncorrectable
  | .asWritten => .clean image

/-- The rows after a full reset (R116, R137): the row of the program in the array is torn, and every other row is kept. A worn
row stays worn (R117, R138), and a torn one where it reads UNCORRECTABLE (log entry 22). -/
def RowsKept (s t : State) (tear : Tear) : Prop :=
  match programInArray s with
  | some p =>
    let torn := rowOf p.item p.target
    (∀ r, t.row r = if r = torn then tornRow p.image tear else s.row r) ∧
    ∀ r, t.worn r = if r = torn ∧ tear ≠ .uncorrectable then false else s.worn r
  | none => t.rows = s.rows ∧ t.wornRows = s.wornRows

/-! ### The evaluator's tables -/

/-- The occupancy of a visited zone after a pass (the gathered table of R88). -/
def passOccupancy (z : Zone) (x : SweptSpan) : Occupancy :=
  if z.occupancy = .qualifying then (if z.bounds.contains x.final then .qualifying else .outside)
  else if z.occupancy = .inside then (if z.bounds.holds z.hysteresis x.final then .inside else .outside)
  else if z.bounds.contains x.final then
    if z.dwell ≠ 0 then .qualifying else if z.action = .latch then .tripped else .inside
  else if z.occupancy = .outside ∧ z.bounds.touched x.span = true ∧ z.dwell = 0 ∧ z.action = .latch then .tripped
  else .outside

/-- A pass records a transit for a visited zone (R87). -/
def passTransit (z : Zone) (x : SweptSpan) : Bool :=
  decide (z.occupancy = .outside) && !z.bounds.contains x.final && z.bounds.touched x.span && decide (z.dwell = 0) &&
    decide (z.action = .follow)

/-- A visited zone after a pass (R86 to R88): its occupancy and trip mark, and its transit count, which stays at 255. -/
def passedZone (z : Zone) (x : SweptSpan) : Zone :=
  { z with
    occupancy := passOccupancy z x
    tripMark := decide (passOccupancy z x = .tripped)
    transits := if passTransit z x && decide (z.transits ≠ 255) then z.transits + 1 else z.transits }

/-- The dwell timer of a visited zone after a pass taken at moment `now` (R86, R88, R90). -/
def passedTimer (z : Zone) (x : SweptSpan) (now : Nat) (timer : Option DwellTimer) : Option DwellTimer :=
  if passOccupancy z x = .qualifying then
    if z.occupancy = .qualifying then timer else some ⟨z.incarnation, now, z.dwell, none⟩
  else if z.occupancy = .qualifying then none else timer

/-- The occupancy a stale policy gives at an axis-unsure condition (the table of R94). -/
def unsureOccupancy (z : Zone) : Occupancy :=
  match z.policy, z.occupancy, z.action with
  | .hold, .unknown, _ => .unknown
  | .hold, .outside, _ => .outside
  | .hold, .qualifying, _ => .outside
  | .hold, .inside, _ => .inside
  | .hold, .tripped, _ => .tripped
  | .asserts, _, .follow => .inside
  | .asserts, _, .latch => .tripped
  | .release, _, _ => .outside

/-- The evaluator acts on the zone at a work item of axis `n`: LIVE, armed, not TRIPPED and on the axis (R83, R93, R95). -/
def ActedOn (n : Axis) (z : Zone) : Prop := z.axis = n ∧ z.armed = true ∧ z.occupancy ≠ .tripped

/-- The zones that the evaluator acts on at a work item of axis `n` become what `f` makes of them, and no other slot
changes. -/
def ZonesBecome (s t : State) (n : Axis) (f : Zone → Zone) : Prop :=
  ∀ i, (∀ z, s.zone i = some z → ActedOn n z → t.slot i = .live (f z)) ∧
    ((∀ z, s.zone i = some z → ¬ActedOn n z) → t.slot i = s.slot i)

/-- The items that work on an axis enqueues (R18, R96): the slot items of the PERSISTENT zones that entered TRIPPED, in
ascending slot order. -/
def trippedItems (s t : State) : List ItemNo :=
  (allSlots.filter fun i =>
    match s.zone i, t.zone i with
    | some z, some y => decide (z.occupancy ≠ .tripped) && decide (y.occupancy = .tripped) && y.persistent
    | _, _ => false).map slotItem

/-- The lines of the zones whose occupancy differs (R103). -/
def movedLines (s t : State) : List LineNo :=
  allSlots.flatMap fun i =>
    match s.zone i, t.zone i with
    | some z, some y => if z.occupancy = y.occupancy then [] else y.line.toList
    | _, _ => []

/-- The OCCUPANCY causes of the zones that became active or inactive or entered TRIPPED (R98). -/
def movedCauses (s t : State) (q : Port) (j : SlotNo) : CauseSet :=
  match s.zone j, t.zone j with
  | some z, some y => occupancyCause s j z y (decide (y.occupancy = .tripped) && decide (z.occupancy ≠ .tripped)) q j
  | _, _ => 0

/-! ### The record store -/

/-- The commit of an item has ended and another takes its place (R122, R132): a port whose last mark has gone is answered,
and the engine takes the head of the queue as it stood, `waiting`. -/
structure CommitEnded (t : State) (waiting : List QueueEntry) : Prop where
  queue : t.queue = waiting.tail
  engine : t.engine = match waiting with
    | [] => .idle
    | e :: _ => .claiming e.item e.marks

/-- The row of a program reads as nothing it can be trusted to be while it is being written (R116, log entry 7). -/
def ProgramBegun (s t : State) (p : Program) : Prop :=
  t.array = .program ∧ ∀ r, t.row r = if r = rowOf p.item p.target then .uncorrectable else s.row r

/-! ### The clauses of the statements about commands -/

/-- Nothing of the table, the evaluator, the configuration, the trackers, the lines, the store and the change sets differs. -/
structure NothingElse (s t : State) : Prop where
  table : SameTable s t
  evaluator : SameEvaluator s t
  config : SameConfig s t
  trackers : t.trackers = s.trackers
  lines : t.lines = s.lines
  store : SameStore s t
  changes : ∀ q, (t.port q).changes = (s.port q).changes

/-- Slot `i` becomes `v`, and every other slot stays. -/
def SlotBecomes (s t : State) (i : SlotNo) (v : Slot) : Prop := ∀ j, t.slot j = if j = i then v else s.slot j

/-- The dwell timer of slot `i` becomes `v`, and every other timer stays. -/
def DwellBecomes (s t : State) (i : SlotNo) (v : Option DwellTimer) : Prop :=
  ∀ j, t.dwell j = if j = i then v else s.dwell j

/-- Where `asked`, a pass becomes pending for axis `n`, dated with the grant, unless one is pending already (R24, R79);
every other pending pass stays. -/
def PassAsked (s t : State) (n : Axis) (asked : Bool) : Prop :=
  ∀ m, t.pendingPass m = if m = n ∧ asked = true then some ((s.pendingPass m).getD t.now) else s.pendingPass m

/-- Two zones of one axis and kind collide (R10): they intersect, and either is exclusive. -/
def Collides (b : Bounds) (exclusive : Bool) (y : Zone) : Prop :=
  intersects b y.bounds = true ∧ (exclusive = true ∨ y.exclusive = true)

/-- No LIVE zone of the axis, but for the one in slot `self`, collides with these bounds (R11). -/
def NoCollision (s : State) (n : Axis) (b : Bounds) (exclusive : Bool) (self : Option SlotNo) : Prop :=
  ∀ j y, some j ≠ self → s.zone j = some y → y.axis = n → ¬Collides b exclusive y

/-- `h` names the first zone in list order that collides with these bounds (R11). -/
def FirstCollision (s : State) (n : Axis) (b : Bounds) (exclusive : Bool) (self : Option SlotNo) (h : Handle) : Prop :=
  ∃ before after y, s.zoneList n b.kind = before ++ h.slot :: after ∧ some h.slot ≠ self ∧ s.zone h.slot = some y ∧
    y.incarnation = h.incarnation ∧ Collides b exclusive y ∧
    ∀ j ∈ before, some j ≠ self → ∀ x, s.zone j = some x → ¬Collides b exclusive x

/-- The lists after a zone in slot `i` has left the list `leaves` and entered the list `enters`, at its ordered place
(R8, R9). -/
def ListsMove (s t : State) (i : SlotNo) (leaves enters : Option (Axis × Kind)) : Prop :=
  ∀ n k,
    let rest := if leaves = some (n, k) then (s.zoneList n k).filter (fun j => decide (j ≠ i)) else s.zoneList n k
    if enters = some (n, k) then
      InOrder t (t.zoneList n k) ∧ ∃ before after, rest = before ++ after ∧ t.zoneList n k = before ++ i :: after
    else t.zoneList n k = rest

/-- No zone enters or leaves a list. -/
def SameLists (s t : State) : Prop := t.absolute = s.absolute ∧ t.periodic = s.periodic

/-- The position copies and the pending conditions are the same. -/
def SameConditions (s t : State) : Prop := t.available = s.available ∧ t.conditions = s.conditions

/-- The occupancy that a restart of its judgement gives a zone (the tables of R24). -/
def restartOccupancy (armed available : Bool) (policy : StalePolicy) (action : Action) : Occupancy :=
  match armed, available, policy, action with
  | false, _, _, _ => .unknown
  | true, true, _, _ => .unknown
  | true, false, .hold, _ => .unknown
  | true, false, .release, _ => .outside
  | true, false, .asserts, .follow => .inside
  | true, false, .asserts, .latch => .tripped

/-- A zone with an occupancy, its trip mark set exactly at TRIPPED (R7). -/
def zoneAt (z : Zone) (o : Occupancy) : Zone := { z with occupancy := o, tripMark := decide (o = .tripped) }

/-- The slot item of a PERSISTENT zone; none for a VOLATILE one (R22). -/
def itemsOf (i : SlotNo) (persistent : Bool) : List ItemNo := if persistent then [slotItem i] else []

/-- A zone of slot `i` that was `z` and is `y` enters TRIPPED. -/
def entersTrip (z y : Zone) : Bool := decide (y.occupancy = .tripped) && decide (z.occupancy ≠ .tripped)

/-! ### The clauses of the statements about trackers -/

/-- The moment of an event on a part (log entry 2): one of its own, or that of the event before it. -/
def momentOf (s : State) : Moment → Nat
  | .later => s.now + 1
  | .together => s.now

/-- A condition of kind `k` is posted for axis `n` at the part's moment (the table of R80): the opposite kind to the last
that pends is added, and the second of two is withdrawn instead where it is of the opposite kind. -/
def Posted (s t : State) (n : Axis) (k : ConditionKind) : Prop :=
  ∀ m, t.pendingConditions m =
    if m = n then
      (match s.pendingConditions n with
       | [] => [⟨k, t.now⟩]
       | [c] => [c, ⟨k, t.now⟩]
       | c :: _ => [c])
    else s.pendingConditions m

/-- The posting of a condition withdraws one: two are pending (R80). -/
def withdraws (s : State) (n : Axis) : Bool := decide ((s.pendingConditions n).length = 2)

/-- The held span after the tracker of axis `n` has left its state (R66, R80). -/
def heldOnLeaving (s : State) (n : Axis) : Option SweptSpan :=
  let t := s.tracker n
  if t.state = .tracking ∧ withdraws s n = false then
    (match t.live, t.position with
     | some l, some p => some ⟨l, p⟩
     | _, _ => t.held)
  else t.held

/-- The tracker of axis `n` leaves its state, and `v` is its record then (R66, R67, R69): an axis-unsure condition is posted
if the sure indicator is set, and no other tracker and no other condition changes. -/
structure Departs (s t : State) (n : Axis) (v : Tracker) : Prop where
  tracker : ∀ m, t.tracker m = if m = n then v else s.tracker m
  posted : (s.tracker n).sure = true → Posted s t n .unsure
  quiet : (s.tracker n).sure = false → t.conditions = s.conditions

/-- The record of a tracker that a resynchronisation has put into ACQUIRING or DISABLED (R74, R75). -/
def resyncedTracker (s : State) (n : Axis) (state : TrackerState) (turn : Option Turn) (sequence : Option (BitVec 4)) :
    Tracker :=
  { state := state, cause := none, position := none, sequence := sequence, lastAngle := (s.tracker n).lastAngle,
    live := none, held := heldOnLeaving s n, sure := false, jumpRun := 0, timer := none, acquireTurn := turn,
    rawStatus := none, counters := ⟨0, 0, 0, 0, 0⟩ }

/-- The record of a tracker that a frame has put into LOST (R69, R70): its position stays. -/
def lostTracker (s : State) (n : Axis) (v : Tracker) (cause : LostCause) : Tracker :=
  { v with state := .lost, cause := some cause, held := heldOnLeaving s n, live := if v.state = .tracking then none else v.live,
           sure := false, timer := none }

/-- Flags were raised in both fault copies, and nothing else of the ports changed. -/
def Raised (s t : State) (flags : FlagSet) : Prop :=
  ∀ p, t.port p = { s.port p with faults := (s.port p).faults ||| flags }

/-- All but the trackers, the evaluator, the ports and the clock is the same. -/
structure OnlyTracking (s t : State) : Prop where
  device : SameDevice s t
  table : SameTable s t
  available : t.available = s.available
  dwells : t.dwells = s.dwells
  config : SameConfig s t
  arbiter : SameArbiter s t
  lines : t.lines = s.lines
  store : SameStore s t

/-- The staleness timer that an acceptance starts (R67). -/
def timerFrom (c : AxisConfig) (now : Nat) : Option StaleTimer := if c.staleness = 0 then none else some ⟨now, c.staleness⟩

/-- A frame comes to the tracker of an axis (R57): the part is RUNNING, the frame select did not straddle the move to
RUNNING, and the tracker is not DISABLED. -/
structure Judged (s : State) (n : Axis) (straddles : Bool) : Prop where
  service : s.device = .running ∧ s.held = false
  whole : straddles = false
  enabled : (s.tracker n).state ≠ .disabled

/-- A frame is whole and its check agrees (R57, R58, R186). -/
structure Checked (bits : Nat) (word : BitVec 32) : Prop where
  whole : 32 ≤ bits
  check : word.extractLsb' 0 8 = crc8 0x1D 0x00 [word.extractLsb' 24 8, word.extractLsb' 16 8, word.extractLsb' 8 8]

/-- A frame passes both tests of R58. -/
structure Passes (bits : Nat) (word : BitVec 32) : Prop where
  checked : Checked bits word
  valid : word.getLsbD 27 = true
  alarm : word.getLsbD 24 = false

/-- The flags that a frame which passes both tests raises (R58). -/
def warning (word : BitVec 32) : FlagSet := if word.getLsbD 26 || word.getLsbD 25 then Flag.sensorWarning.mask else 0

/-- The sequence of a frame (11.5). -/
def sequenceOf (word : BitVec 32) : BitVec 4 := word.extractLsb' 28 4

/-- The angle of a frame, corrected for direction and offset (R59). -/
def angleOf (c : AxisConfig) (word : BitVec 32) : Angle :=
  let raw : Angle := word.extractLsb' 8 16
  (if c.reverse then BitVec.ofNat 16 ((65536 - raw.toNat) % 65536) else raw) + c.offset

/-- The tracker's record as it goes to the judgement of its state: the last raw status is the frame's (R58). -/
def readTracker (t : Tracker) (word : BitVec 32) : Tracker := { t with rawStatus := some (word.extractLsb' 24 4) }

/-- The frames missed between the last accepted sequence and a frame's (R61). -/
def framesMissed (last sequence : BitVec 4) : Nat := (sequence.toNat + 31 - last.toNat) % 16

/-- The size of the step to an angle, the short way round (R62). -/
def stepTo (last angle : Angle) : Int :=
  let d : Int := (angle.toNat : Int) - last.toNat
  if d < -32768 then d + 65536 else if 32767 < d then d - 65536 else d

/-- The turn that a step leads to (R63). -/
def turnAfter (turn : Turn) (last angle : Angle) : Int :=
  let v := (last.toNat : Int) + stepTo last angle
  if v < 0 then turn.toInt - 1 else if 65536 ≤ v then turn.toInt + 1 else turn.toInt

/-- A tracker with GAPS increased (R61). -/
def withGaps (t : Tracker) (missed : Nat) : Tracker :=
  { t with counters := { t.counters with gaps := addSaturating t.counters.gaps missed } }

/-- A tracker with ACCEPTED increased (R60, R63, R68). -/
def withAccepted (t : Tracker) : Tracker :=
  { t with counters := { t.counters with accepted := addSaturating t.counters.accepted 1 } }

/-- A tracker with JUMPS increased (R62, R68). -/
def withJump (t : Tracker) : Tracker :=
  { t with counters := { t.counters with jumps := addSaturating t.counters.jumps 1 } }

/-! ### The clauses of the statements about the load -/

/-- What a slot becomes when its item is decided (R145). -/
def loadedSlot (o : LoadOutcome) : Option Content → Slot
  | some (.vacant r) => .vacant r
  | some (.live z) => .live z
  | _ => if o = .lost then .quarantined else .vacant 0

/-- What an AXIS record becomes when its item is decided (R146). -/
def loadedAxis : Option Content → AxisConfig
  | some (.axis c) => c
  | _ => AxisConfig.default

/-- What the LINES record becomes when its item is decided (R146). -/
def loadedLines : Option Content → Vector LineConfig 8
  | some (.lines v) => v
  | _ => Vector.replicate 8 LineConfig.default

/-- What the PORTS record becomes when its item is decided (R146). -/
def loadedPorts : Option Content → PerPort PortConfig
  | some (.ports c) => c
  | _ => ⟨PortConfig.default, PortConfig.default⟩

/-- The effective and the committed freeze level when the FREEZE item is decided (R147). -/
def loadedFreeze (o : LoadOutcome) : Option Content → FreezeLevel × Option FreezeLevel
  | some (.freeze l) => (l, some l)
  | _ => if o = .lost then (.fixed, none) else (.opened, some .opened)

/-- The load enqueues an item (R148). -/
def repaired (k : ItemNo) (o : LoadOutcome) (corrected : Bool) : Bool :=
  match o with
  | .empty => false
  | .good => corrected
  | .staleCopy | .oneCopy => true
  | .lost => decide (96 ≤ k.val ∧ k.val < 102)

/-- All that a row read by the load leaves alone. -/
structure LoadLeaves (s t : State) : Prop where
  device : t.device = s.device ∧ t.supplyValid = s.supplyValid ∧ t.resetN = s.resetN
  lists : SameLists s t
  evaluator : SameEvaluator s t
  trackers : t.trackers = s.trackers
  lines : t.lines = s.lines
  ports : t.ports = s.ports
  arbiter : SameArbiter s t
  engine : t.engine = s.engine
  sweep : SameSweep s t
  wear : t.wornRows = s.wornRows

/-! ### The arbiter -/

/-- The place of a class in the rotation of R15. -/
def Claimant.place : Claimant → Nat
  | .portA => 0
  | .portB => 1
  | .evaluator => 2
  | .store => 3

/-- The grants until a class has its turn, when the pointer names a class: 1 for the class that follows it, and 4 for the
class that it names (R15). -/
def turnsUntil (pointer x : Claimant) : Nat := (x.place + 3 - pointer.place) % 4 + 1

/-! ### Frames -/

/-- The bytes begin with a whole FETCH frame (R175). -/
def startsWithFetch (bytes : List Byte) : Prop := ∃ tag rest, bytes = 0x01 :: tag :: 0x00 :: frameCheck [0x01, tag, 0x00] :: rest

/-- The cases in which bytes that are not judged as a FETCH are refused as malformed (R170). -/
def malformed (bytes : List Byte) : Prop :=
  bytes.length < 4 ∨ 32 < (bytes.getD 2 0).toNat ∨ bytes.length ≠ 4 + (bytes.getD 2 0).toNat ∨
    bytes.getLast? ≠ some (frameCheck bytes.dropLast) ∨
    (bytes.getD 0 0 ∈ ([0x00, 0x01, 0x02, 0x03] : List Byte) ∧ bytes.getD 2 0 ≠ 0)

/-- A port as the judging of a frame of `n` bytes leaves what it has shifted out: its status byte as it stood when CS fell,
and fill bytes (R168, R169). -/
def shiftedPort (s : State) (p : Port) (n : Nat) : PortState :=
  { s.port p with transaction := none, shifted := openingByte s p :: List.replicate (n - 1) 0xFF, shiftedTail := [] }

/-! ### Answers -/

/-- The handle of the zone in a slot. -/
def handleIn (s : State) (i : SlotNo) : Handle :=
  ⟨i, match s.zone i with
      | some z => z.incarnation
      | none => 0⟩

/-- The nine content bytes of a configuration item's image (R187): bytes 3..11. -/
def contentOf (s : State) (k : ItemNo) : List Byte :=
  match itemKind k with
  | .slot _ => []
  | .axis n => axisBytes (s.axisConfig n)
  | .lines => linesBytes s.lineConfig ++ List.replicate 7 0
  | .ports => portBytes s.portConfig.a ++ portBytes s.portConfig.b ++ [0, 0, 0]
  | .freeze => freezeCode s.freezeLevel :: List.replicate 8 0

/-- The three bytes of a TAKE_CHANGES entry (R112, 11.3). -/
def changeEntry (s : State) (causes : CauseSet) (i : SlotNo) : List Byte :=
  match s.slot i with
  | .vacant r => [BitVec.ofNat 8 i.val, r, causes.setWidth 8]
  | .quarantined => [BitVec.ofNat 8 i.val, 0, 0x20 ||| causes.setWidth 8]
  | .live z =>
    [BitVec.ofNat 8 i.val, z.incarnation,
     (match z.occupancy with
      | .unknown => 0x40 | .outside => 0x60 | .qualifying => 0x80 | .inside => 0xA0 | .tripped => 0xC0) |||
      causes.setWidth 8]

/-- The four bytes of a line in a LINE_STATUS response (R105, 11.3). -/
def lineBytes (r : LineRecord) : List Byte :=
  [if r.active then 1 else 0] ++
  (match r.driving with
   | some h => [BitVec.ofNat 8 h.slot.val, h.incarnation]
   | none => [0xFF, 0xFF]) ++
  [BitVec.ofNat 8 r.count]

/-- The conditions of R180, as the truth of one proposition for each of the flags AXIS_STALE, AXIS_LOST, STORE_EXHAUSTED and
QUARANTINE. -/
def ConditionHolds (s : State) : Fin 4 → Prop
  | 0 => ∃ n, (s.tracker n).state = .stale
  | 1 => ∃ n, (s.tracker n).state = .lost
  | 2 => ∃ k, ∀ c : Copy, (s.item k).copies[c] = .worn
  | 3 => s.device = .running ∧ ∃ i, s.slot i = .quarantined

/-- All that a port-local command of the sweep leaves alone. -/
structure SweepCommandLeaves (s t : State) (p : Port) : Prop where
  device : SameDevice s t
  table : SameTable s t
  evaluator : SameEvaluator s t
  config : SameConfig s t
  trackers : t.trackers = s.trackers
  lines : t.lines = s.lines
  rows : SameRows s t
  queue : SameQueue s t
  arbiter : SameArbiter s t
  other : t.port p.other = s.port p.other

/-! ### The record store's work -/

/-- The copy that the engine writes (R125), in the order of its steps: with one copy WORN the other; else a copy that is BAD
or BLANK, copy 0 where both are; else the copy that is not the newest. -/
inductive Targets (e : ItemEntry) : Copy → Prop
  | afterWorn0 : e.copies[0] = .worn → e.copies[1] ≠ .worn → Targets e 1
  | afterWorn1 : e.copies[1] = .worn → e.copies[0] ≠ .worn → Targets e 0
  | faulty0 : e.copies[0] = .bad ∨ e.copies[0] = .blank → e.copies[1] ≠ .worn → Targets e 0
  | faulty1 : e.copies[0] = .valid → e.copies[1] = .bad ∨ e.copies[1] = .blank → Targets e 1
  | older0 : e.copies[0] = .valid → e.copies[1] = .valid → e.newest ≠ some 0 → Targets e 0
  | older1 : e.copies[0] = .valid → e.copies[1] = .valid → e.newest = some 0 → Targets e 1

/-- A port's SYNC completes where its mark has gone from `t`'s queue and in-flight item as they stood before the engine took
its next head (R131, R132): `dropped` commits of those it marked were dropped. -/
def syncedPort (q : PortState) (gone : Bool) (dropped : Nat) : PortState :=
  match q.slot with
  | .waiting tag =>
    if q.sync.waiting && gone then
      { q with
        slot := .done (if dropped = 0 then ⟨tag, 0x48, .ok, []⟩ else ⟨tag, 0x48, .degraded, [BitVec.ofNat 8 dropped]⟩)
        sync := ⟨false, 0⟩ }
    else { q with sync := { q.sync with dropped := dropped } }
  | _ => q

/-- The queue carries no mark of a port. -/
def unmarked (queue : List QueueEntry) (p : Port) : Bool := queue.all fun e => !e.marks.get p

/-- All that the engine's work on a row leaves alone. -/
structure EngineLeaves (s t : State) : Prop where
  device : SameDevice s t
  table : SameTable s t
  evaluator : SameEvaluator s t
  config : SameConfig s t
  trackers : t.trackers = s.trackers
  lines : t.lines = s.lines

/-- The row that a commit writes. -/
def programRow (x : Program) : RowNo := rowOf x.item x.target

/-- What the array turns to when it is released (R135): the program that waits, whose row's content is then lost (R116, log
entry 7), or else the sweep's read that waits, or nothing. `rows` are the rows as the operation before left them, and `w` the
sweep's record. -/
def ArrayTurnsTo (waiting : Option Program) (w : Sweep) (rows : RowNo → Row) (t : State) : Prop :=
  match waiting with
  | some x => t.array = .program ∧ t.sweep = w ∧ ∀ r, t.row r = if r = programRow x then .uncorrectable else rows r
  | none =>
    (∀ r, t.row r = rows r) ∧
    (if w.asked then t.array = .sweepRead w.nextRow true ∧ t.sweep = { w with asked := false }
     else t.array = .free ∧ t.sweep = w)

/-- The program that an engine holds. -/
def programOf : Engine → Option Program
  | .programming x | .retrying x => some x
  | .idle | .claiming _ _ => none

/-- An item's content as the table holds it at a STORE grant (the table of R123); none for a QUARANTINED slot. -/
def contentAt (s : State) (k : ItemNo) : Option Content :=
  match itemKind k with
  | .slot i =>
    (match s.slot i with
     | .live z => if z.persistent then some (.live z) else some (.vacant z.incarnation)
     | .vacant r => some (.vacant r)
     | .quarantined => none)
  | .axis n => some (.axis (s.axisConfig n))
  | .lines => some (.lines s.lineConfig)
  | .ports => some (.ports s.portConfig)
  | .freeze => some (.freeze s.freezeLevel)

/-- The commits of a port's SYNC that have been dropped once a commit carrying the marks `m` is dropped (R131): one more, without
an upper bound (log entry 27). -/
def droppedAfter (s : State) (p : Port) (m : Marks) : Nat :=
  (s.port p).sync.dropped + (if m.get p && (s.port p).sync.waiting then 1 else 0)

/-- The newest copy after a program attempt into copy `c` has failed (R118). -/
def newestAfter (e : ItemEntry) (c : Copy) : Option Copy :=
  if e.newest = some c then (if e.copies[1 - c] = .valid then some (1 - c) else none) else e.newest

/-- An item's copy map entry after a program attempt into copy `c` has failed and left the copy `v` (R118, R127, R128). -/
def failedEntry (e : ItemEntry) (c : Copy) (v : CopyState) : ItemEntry :=
  { copies := e.copies.set c v, newest := newestAfter e c, generation := e.generation }

/-- The queue once the item of a commit that failed twice has gone back to it (R128). -/
def requeued (queue : List QueueEntry) (k : ItemNo) (m : Marks) : List QueueEntry :=
  if k ∈ queue.map QueueEntry.item then
    queue.map fun e => if e.item = k then { e with marks := ⟨e.marks.a || m.a, e.marks.b || m.b⟩ } else e
  else queue ++ [⟨k, m⟩]

/-- The sweep's judgement of a row that it has read (the table of R154): none where it is accepted, else whether the fault is
uncorrectable, with the generation read. -/
def sweepFault (k : ItemNo) (c : CopyState) : Row → Option (Bool × Option Byte)
  | .blank => if c = .valid then some (true, none) else none
  | .clean image => if imageWf k image then none else some (true, some (imageGeneration image))
  | .corrected image => some (false, some (imageGeneration image))
  | .uncorrectable => some (true, none)

/-- The number of the pass in which a fault is found: passes completed plus 1, and within 1..65535 (R151, R154). -/
def faultPass (passes : Half) : Nat := if passes.toNat < 65535 then passes.toNat + 1 else Config.passNumberBeyond.val + 1

/-- The sweep's record once row `r` has been judged (R153 to R155). -/
def sweptRow (w : Sweep) (r : RowNo) (fault : Option (Bool × Option Byte)) : Sweep :=
  let first :=
    match w.first, fault with
    | none, some (hard, generation) => some ⟨r, hard, generation, faultPass w.passes⟩
    | f, _ => f
  let ends := decide (w.rowsRead + 1 = 206)
  let stops := fault.isSome && w.stopOnFault
  { w with
    first := first
    corrected := if fault.map Prod.fst = some false then addSaturating w.corrected 1 else w.corrected
    uncorrectable := if fault.map Prod.fst = some true then addSaturating w.uncorrectable 1 else w.uncorrectable
    nextRow := if r.val = 205 then 0 else r + 1
    rowsRead := if ends && !stops && first.isNone && w.loop then 0 else w.rowsRead + 1
    passes := if ends && !stops then addSaturating w.passes 1 else w.passes
    state :=
      if stops then .failed
      else if ends then (if first.isSome then .failed else if w.loop then .running else .passed)
      else .running
    asked := if stops || (ends && (first.isSome || !w.loop)) then w.asked else true }

/-! ### What no step may change -/

/-- Two zones have the same definition fields (R4, R5): all but armed and the runtime fields. -/
structure SameDefinition (z y : Zone) : Prop where
  incarnation : y.incarnation = z.incarnation
  axis : y.axis = z.axis
  bounds : y.bounds = z.bounds
  hysteresis : y.hysteresis = z.hysteresis
  dwell : y.dwell = z.dwell
  line : y.line = z.line
  priority : y.priority = z.priority
  action : y.action = z.action
  policy : y.policy = z.policy
  owner : y.owner = z.owner
  exclusive : y.exclusive = z.exclusive
  persistent : y.persistent = z.persistent
  label : y.label = z.label

/-- A CLEAR of the zone that a handle names is granted to port `p`, whose command waits or runs on without it (R37, R174). -/
def ClearGranted (s : State) (p : Port) (h : Handle) : Prop :=
  ∃ payload, parseHandle payload = some h ∧
    ((∃ tag, Due s p .clear tag payload) ∨ s.running = some ⟨p, .clear, payload⟩)

/-- What the load restores of a PERSISTENT zone from its image (R19, R141): TRIPPED with its trip mark, UNKNOWN without, and
a transit count of 0. -/
def restored (z : Zone) : Zone := { z with occupancy := if z.tripMark then .tripped else .unknown, transits := 0 }

/-- The content is what item `k` keeps, each field in its range (R141, R158). -/
def ProperContent (k : ItemNo) : Content → Prop
  | .vacant _ => k.val < 96
  | .live z => k.val < 96 ∧ ZoneOk z ∧ z.persistent = true
  | .axis c => 96 ≤ k.val ∧ k.val < 100 ∧ c.maxStep ≠ 0 ∧ c.jumpLimit ≠ 0
  | .lines _ => k.val = 100
  | .ports _ => k.val = 101
  | .freeze _ => k.val = 102

end Sys2Proof.Machine
end

