-- ==== Sys2Proof/Certificates/Slice0/Obligations.lean ====
section
/-! DEFINITION. Sys2Proof/Certificates/Slice0/Obligations.lean: the statements for the provers. -/

open Sys2Proof Sys2Proof.Machine

/-- The command at the front of the queue is carried out on the part with the rest of the queue; and an empty queue leaves the
part as it is, which is the model's choice (log entry 10). -/
def Obligations.StepTakesTheFront : Prop :=
  (∀ (s : State) (c : Instr) (rest : List Instr), s.pending = c :: rest → step s = exec c (s.setPending rest)) ∧
  (∀ s : State, s.pending = [] → step s = .next s)

/-- Every command and event ends in a next state, whatever the part and whatever the operands, and leaves the commands that wait
behind it alone. That none ever stops the part is the model's choice, read from the spec, which describes every error as an
effect on the part and gives it no way to stop (log entry 20); and that an event which is not due changes nothing, in place of
stopping, is the model's choice too (log entry 1). -/
def Obligations.EveryCommandAnswers : Prop :=
  ∀ (c : Instr) (s : State), ∃ t, exec c s = .next t ∧ t.pending = s.pending

/-- The part right after a full reset satisfies every invariant, and is what the rules leave (R19, R76, R99, R137, R139, R151,
R179, R184): everything discarded, RESET_SEEN in both fault copies, the hold at its end. -/
def Obligations.ResetIsAsTheRulesLeaveIt : Prop :=
  Good State.reset ∧
  Discarded State.reset ∧ State.reset.held = false ∧ State.reset.pending = [] ∧
  ∀ p, (State.reset.port p).faults = Flag.resetSeen.mask

/-- FULL_RESET (R139): all working state is discarded, both fault copies are emptied, the rows are kept but for the torn row of
a program in the array (R116), and the part is held by its supply or by its RESET_N pin. HOLD_END (R139, R179): the supply
is valid and RESET_N is high, RESET_SEEN is raised in both fault copies, and nothing else changes: the device is STARTING,
its load at row 0, as the full reset left it. RESTART (R183): a full reset whose hold lasts no time. All working state is
discarded, the rows are kept but for a torn one, RESET_SEEN stands in both fault copies, and the port has shifted out the
status byte as it stood when CS fell and fill bytes. The wear of the rows is kept with them (R117, R138). The model's choices
here: what a port has shifted out is empty after a full reset, and after a RESTART the bytes of its own transaction at its
port (log entry 15); FULL_RESET makes the pin or the supply bad that its cause names and leaves the other, and HOLD_END makes
both good (log entry 17); and a worn row that is torn stays worn only where it reads UNCORRECTABLE (log entry 22). -/
def Obligations.FullResetsDiscardEverything : Prop :=
  (∀ (cause : ResetCause) (tear : Tear) (s : State), ∃ t, exec (.fullReset cause tear) s = .next t ∧
     Discarded t ∧ RowsKept s t tear ∧
     (∀ p, (t.port p).faults = 0 ∧ (t.port p).shifted = [] ∧ (t.port p).shiftedTail = []) ∧
     t.held = true ∧
     t.supplyValid = (match cause with
       | .resetPin => s.supplyValid
       | .powerOn | .supplyDip => false) ∧
     t.resetN = (match cause with
       | .resetPin => false
       | .powerOn | .supplyDip => s.resetN)) ∧
  (∀ s : State, s.held = true → ∃ t, exec .holdEnd s = .next t ∧
     t.held = false ∧ t.supplyValid = true ∧ t.resetN = true ∧ Raised s t Flag.resetSeen.mask ∧
     t.device = s.device ∧ t.load = s.load ∧ SameTable s t ∧ SameEvaluator s t ∧ SameConfig s t ∧ SameArbiter s t ∧
     t.trackers = s.trackers ∧ t.lines = s.lines ∧ SameStore s t) ∧
  (∀ (s : State) (p : Port) (tag : Byte) (tear : Tear), s.held = false → NoFetch s p →
     ∃ t, exec (.restart p tag tear) s = .next t ∧ Discarded t ∧ RowsKept s t tear ∧ t.held = false ∧
       (∀ q, (t.port q).faults = Flag.resetSeen.mask ∧ (t.port q).shiftedTail = []) ∧
       (t.port p).shifted = [openingByte s p, 0xFF, 0xFF, 0xFF] ∧ (t.port p.other).shifted = [])

/-- While the part is held in reset nothing but a full reset and the end of the hold changes it (R139): a port answers no
transaction, no frame is judged, no grant is taken and the array does nothing. -/
def Obligations.HeldPartTakesNothing : Prop :=
  ∀ (s : State) (c : Instr), Good s → s.held = true → c ≠ .holdEnd →
    (∀ cause tear, c ≠ .fullReset cause tear) → exec c s = .next s

/-- What the load decides of an item from the classes of its two copies (R142) and what its copy map entry becomes (R143). -/
def Obligations.LoadDecides : Prop :=
  decideItem .blank .blank = ⟨.empty, none, ⟨#v[.blank, .blank], none, none⟩⟩ ∧
  (∀ (i₀ i₁ : List Byte) (k : Nat), 1 ≤ k → k ≤ 127 →
    imageGeneration i₀ = imageGeneration i₁ + BitVec.ofNat 8 k →
    decideItem (.valid i₀) (.valid i₁) =
      if k = 1 then ⟨.good, some i₀, ⟨#v[.valid, .valid], some 0, some (imageGeneration i₀)⟩⟩
      else ⟨.staleCopy, some i₀, ⟨#v[.valid, .bad], some 0, some (imageGeneration i₀)⟩⟩) ∧
  (∀ (i₀ i₁ : List Byte) (k : Nat), 1 ≤ k → k ≤ 127 →
    imageGeneration i₁ = imageGeneration i₀ + BitVec.ofNat 8 k →
    decideItem (.valid i₀) (.valid i₁) =
      if k = 1 then ⟨.good, some i₁, ⟨#v[.valid, .valid], some 1, some (imageGeneration i₁)⟩⟩
      else ⟨.staleCopy, some i₁, ⟨#v[.bad, .valid], some 1, some (imageGeneration i₁)⟩⟩) ∧
  (∀ i₀ i₁ : List Byte, imageGeneration i₀ = imageGeneration i₁ → i₀.length = 32 → i₁.length = 32 →
    decideItem (.valid i₀) (.valid i₁) =
      if i₀ = i₁ then ⟨.good, some i₀, ⟨#v[.valid, .valid], some 0, some (imageGeneration i₀)⟩⟩
      else ⟨.lost, none, ⟨#v[.bad, .bad], none, some (imageGeneration i₁)⟩⟩) ∧
  (∀ i₀ i₁ : List Byte, imageGeneration i₀ = imageGeneration i₁ + 128 →
    decideItem (.valid i₀) (.valid i₁) = ⟨.lost, none, ⟨#v[.bad, .bad], none, some (imageGeneration i₁)⟩⟩) ∧
  (∀ i : List Byte,
    decideItem (.valid i) .blank = ⟨.oneCopy, some i, ⟨#v[.valid, .blank], some 0, some (imageGeneration i)⟩⟩ ∧
    decideItem (.valid i) .corrupt = ⟨.oneCopy, some i, ⟨#v[.valid, .bad], some 0, some (imageGeneration i)⟩⟩ ∧
    decideItem .blank (.valid i) = ⟨.oneCopy, some i, ⟨#v[.blank, .valid], some 1, some (imageGeneration i)⟩⟩ ∧
    decideItem .corrupt (.valid i) = ⟨.oneCopy, some i, ⟨#v[.bad, .valid], some 1, some (imageGeneration i)⟩⟩) ∧
  decideItem .corrupt .corrupt = ⟨.lost, none, ⟨#v[.bad, .bad], none, none⟩⟩ ∧
  decideItem .corrupt .blank = ⟨.lost, none, ⟨#v[.bad, .blank], none, none⟩⟩ ∧
  decideItem .blank .corrupt = ⟨.lost, none, ⟨#v[.blank, .bad], none, none⟩⟩

/-- LOAD_ROW_READ of the row of a copy 0 (R141): the copy is classed by what the row reads as, counted where it was read
CORRECTED, and kept; nothing else changes. LOAD_ROW_READ of the row of a copy 1 (R141, R144 to R148, R150): the item is decided.
Its slot or record takes the content loaded, its empty state or its lost state; its copy map entry is set, each CORRECTED copy
BAD; its outcome is counted; and it is enqueued where it needs repair. Nothing else changes. That the bit errors of a row are an
operand of the read that finds them, and stay in the row from that read on, is the model's choice (log entry 5); that a FREEZE
item with one VALID copy beside a BLANK or CORRUPT one is decided ONE_COPY, counted so, given the copy map entry of ONE_COPY and
enqueued for repair, by R142, where the third row of the table of R167 names GOOD, is the model's choice too (log entry 24); and
what an erased row with one flipped bit reads as is a free value (log entry 6). -/
def Obligations.LoadReadsAndDecides : Prop :=
  (∀ (s : State) (d : Decay) (r : RowNo), s.device = .starting → s.held = false → s.load.nextRow = r.val →
     s.load.first = none →
     ∃ t, exec (.loadRowRead d) s = .next t ∧
       (∀ x, t.row x = if x = r then decayedRow (s.row r) d else s.row x) ∧
       t.load = { s.load with
         nextRow := s.load.nextRow + 1
         first := some (classOfRow (itemOfRow r) (decayedRow (s.row r) d))
         corrected := if (classOfRow (itemOfRow r) (decayedRow (s.row r) d)).corrected then s.load.corrected + 1
                      else s.load.corrected } ∧
       LoadLeaves s t ∧ SameTable s t ∧ SameConfig s t ∧ t.copyMap = s.copyMap ∧ t.committedFreeze = s.committedFreeze ∧
       t.queue = s.queue) ∧
  (∀ (s : State) (d : Decay) (r : RowNo) (c₀ : CopyRead), s.device = .starting → s.held = false →
     s.load.nextRow = r.val → s.load.first = some c₀ →
     (∀ image, c₀.cls = .valid image → imageWf (itemOfRow r) image = true) →
     let k := itemOfRow r
     let c₁ := classOfRow k (decayedRow (s.row r) d)
     let v := decideItem c₀.cls c₁.cls
     let content := v.image.bind (decodeImage k)
     let o := v.outcome
     ∃ t, exec (.loadRowRead d) s = .next t ∧
       (∀ x, t.row x = if x = r then decayedRow (s.row r) d else s.row x) ∧
       (∀ i, t.slot i = if itemKind k = .slot i then loadedSlot o content else s.slot i) ∧
       (∀ n, t.axisConfig n = if itemKind k = .axis n then loadedAxis content else s.axisConfig n) ∧
       t.lineConfig = (if itemKind k = .lines then loadedLines content else s.lineConfig) ∧
       t.portConfig = (if itemKind k = .ports then loadedPorts content else s.portConfig) ∧
       (t.freezeLevel, t.committedFreeze) =
         (if itemKind k = .freeze then loadedFreeze o content else (s.freezeLevel, s.committedFreeze)) ∧
       (∀ j, t.item j =
         if j = k then
           { v.entry with
             copies := #v[if c₀.corrected then .bad else v.entry.copies[0], if c₁.corrected then .bad else v.entry.copies[1]] }
         else s.item j) ∧
       t.load =
         { nextRow := s.load.nextRow + 1
           first := none
           empty := s.load.empty + (if o = .empty then 1 else 0)
           good := s.load.good + (if o = .good then 1 else 0)
           staleCopy := s.load.staleCopy + (if o = .staleCopy then 1 else 0)
           oneCopy := s.load.oneCopy + (if o = .oneCopy then 1 else 0)
           lost := s.load.lost + (if o = .lost then 1 else 0)
           corrected := s.load.corrected + (if c₁.corrected then 1 else 0) } ∧
       t.queue = (if repaired k o (c₀.corrected || c₁.corrected) then (enqueue k s).queue else s.queue) ∧
       LoadLeaves s t)

/-- MOVE_TO_RUNNING (R149). The exclusivity check keeps, in ascending slot order, each LIVE zone that collides with no zone kept
before it, and quarantines the others (R20); the lists hold the zones kept, in order; each tracker of an enabled axis is
ACQUIRING (R76); every line is computed; the QUARANTINED notices and the load's fault flags are handed on (R110); and the
engine takes the head of the queue. -/
def Obligations.MoveToRunningStartsThePart : Prop :=
  ∀ s : State, Good s → s.device = .starting → s.held = false → s.load.nextRow = 206 →
    ∃ t, exec .moveToRunning s = .next t ∧ t.device = .running ∧
      (∀ i z, s.zone i = some z →
        ((∃ j y, j < i ∧ t.zone j = some y ∧ y.axis = z.axis ∧ Collides z.bounds z.exclusive y) →
          t.slot i = .quarantined) ∧
        ((∀ j y, j < i → t.zone j = some y → y.axis = z.axis → ¬Collides z.bounds z.exclusive y) →
          t.slot i = s.slot i)) ∧
      (∀ i, s.zone i = none → t.slot i = s.slot i) ∧
      TableOk t ∧
      (∀ n, t.tracker n =
        if (s.axisConfig n).enabled then { s.tracker n with state := .acquiring } else s.tracker n) ∧
      LinesOk t ∧
      Gained s t (fun q j =>
        if t.slot j = .quarantined ∧ (s.portConfig.get q).subscription ≠ .none then Cause.quarantined.mask else 0) ∧
      (∀ q, (t.port q).faults = (s.port q).faults |||
        (if 0 < s.load.corrected then Flag.storeCorrected.mask else 0) |||
        (if 0 < s.load.lost then Flag.storeUncorrectable.mask else 0) |||
        (if ∃ i, t.slot i = .quarantined then Flag.quarantine.mask else 0)) ∧
      (∀ q, t.port q = { s.port q with changes := (t.port q).changes, faults := (t.port q).faults }) ∧
      t.queue = s.queue.tail ∧
      t.engine = (match s.queue with
        | [] => .idle
        | e :: _ => .claiming e.item e.marks) ∧
      t.load = s.load ∧ t.supplyValid = s.supplyValid ∧ t.resetN = s.resetN ∧ SameEvaluator s t ∧ SameConfig s t ∧
      SameArbiter s t ∧ SameRows s t ∧ SameSweep s t

/-- R170. Bytes that do not begin with a whole FETCH frame are refused as malformed exactly in the five cases of the rule, and
are well formed otherwise; a FETCH is judged on its first four bytes alone. A refused frame, which ends a transaction that no
FETCH has begun, is discarded: the last-frame indicator becomes REFUSED_FORMAT, the port's format-refusal counter is increased
by 1 (R172: up to 65535), FRAME_FAULT is raised in this port's fault copy, and nothing else changes, the slot and the other port
included. -/
def Obligations.MalformedFramesAreRefused : Prop :=
  (∀ bytes : List Byte, bytes ≠ [] →
    (startsWithFetch bytes → ∃ tag, judgeFrame bytes = .wellFormed 0x01 tag [] ∧ bytes[1]? = some tag) ∧
    (¬startsWithFetch bytes → malformed bytes → judgeFrame bytes = .malformed) ∧
    (¬startsWithFetch bytes → ¬malformed bytes → ∃ code tag payload,
      judgeFrame bytes = .wellFormed code tag payload ∧ bytes = requestFrame code tag payload)) ∧
  (∀ (s : State) (p : Port) (bytes : List Byte), s.held = false → NoFetch s p → bytes ≠ [] → ¬startsWithFetch bytes → malformed bytes →
    ∃ t, exec (.refusedFormat p bytes) s = .next t ∧ OnlyPort s t p ∧
      t.port p = { shiftedPort s p bytes.length with
        lastFrame := .refusedFormat
        formatRefusals := addSaturating (s.port p).formatRefusals 1
        faults := (s.port p).faults ||| Flag.frameFault.mask })

/-- Frames that a port accepts without a block behind it (R171, R174): a code that 11.3 does not list is answered
UNKNOWN_COMMAND; a NOP sets the last-frame indicator alone; a table command waits in the slot while the device is RUNNING,
and is answered NOT_READY while it is STARTING. -/
def Obligations.PortAcceptsFrames : Prop :=
  (∀ (s : State) (p : Port) (code tag : Byte) (payload : List Byte), PortFree s p → payload.length ≤ 32 →
    (∀ c : Command, c.code ≠ code) →
    ∃ t, exec (.unknownCommand p code tag payload) s = .next t ∧ OnlyPort s t p ∧
      t.port p = acceptedPort s p payload (.done ⟨tag, code, .unknownCommand, []⟩)) ∧
  (∀ (s : State) (p : Port) (tag : Byte), s.held = false → NoFetch s p →
    ∃ t, exec (.nop p tag) s = .next t ∧ OnlyPort s t p ∧
      t.port p = { shiftedPort s p 4 with lastFrame := .accepted }) ∧
  (∀ (s : State) (p : Port) (c : TableCommand) (tag : Byte) (payload : List Byte), PortFree s p → payload.length ≤ 32 →
    ∃ t, exec (.tableCommandAccept p c tag payload) s = .next t ∧ OnlyPort s t p ∧
      t.port p = acceptedPort s p payload
        (match s.device with
         | .running => .queued c tag payload
         | .starting => .done ⟨tag, c.code, .notReady, []⟩))

/-- A well-formed frame whose command occupies the slot is refused where the slot is not EMPTY (R171, R172): the indicator
becomes REFUSED_BUSY, the port's busy-refusal counter is increased, the command is not taken and nothing else changes. -/
def Obligations.BusyPortRefuses : Prop :=
  ∀ (s : State) (c : Instr) (p : Port) (payload : List Byte), c.wf = true → occupying c = some (p, payload) →
    s.held = false → NoFetch s p → (s.port p).slot ≠ .empty →
    ∃ t, exec c s = .next t ∧ OnlyPort s t p ∧
      t.port p = { shiftedPort s p (4 + payload.length) with
        lastFrame := .refusedBusy
        busyRefusals := addSaturating (s.port p).busyRefusals 1 }

/-- The moments of a transaction (R168, R169, R175, R176). When CS falls the status byte is sampled, whatever frame the transaction
then carries. When the fourth byte of a FETCH arrives, the response that the slot holds then, or NO_RESPONSE with the FETCH's
own tag where it holds none, is what this transaction shifts out, whatever becomes of the slot before CS rises. When CS rises,
the port has shifted out the status byte as it was sampled, three fill bytes, and in the bits that the host clocked the frame
of that response and then fill bytes; the slot becomes EMPTY exactly where every bit of a held response was shifted out.
Nothing else changes. That a transaction with no earlier moment of its own opens and is recognised at its end, and that the
fall of CS is a moment of the row of FETCH, is the model's choice (log entry 23). -/
def Obligations.FetchShiftsTheResponseOut : Prop :=
  ∀ (s : State) (p : Port) (tag : Byte), s.held = false →
    (NoFetch s p →
      ∃ t, exec (.fetch p tag .opens) s = .next t ∧ OnlyPort s t p ∧
        t.port p = { s.port p with transaction := some ⟨statusByte s p, none⟩ }) ∧
    (∀ status, (s.port p).transaction = some ⟨status, none⟩ →
      ∃ t, exec (.fetch p tag .recognised) s = .next t ∧ OnlyPort s t p ∧
        t.port p = { s.port p with transaction := some ⟨status, some ⟨tag, heldResponse (s.port p).slot⟩⟩ }) ∧
    (∀ (clocked : Nat) (held : Option Response),
      ((s.port p).transaction.bind Transaction.fetch = some ⟨tag, held⟩ ∨
        (NoFetch s p ∧ held = heldResponse (s.port p).slot)) →
      let r : Response := held.getD ⟨tag, 0x01, .noResponse, []⟩
      let body := r.tag :: r.code :: resultCode r.result :: BitVec.ofNat 8 r.payload.length :: r.payload
      let frame := body ++ [crc8 0x2F 0xFF body]
      let delivered := held ≠ none ∧ heldResponse (s.port p).slot ≠ none ∧ 8 * frame.length ≤ clocked
      ∃ t, exec (.fetch p tag (.ends clocked)) s = .next t ∧ OnlyPort s t p ∧
        (delivered → (t.port p).slot = .empty) ∧ (¬delivered → (t.port p).slot = (s.port p).slot) ∧
        t.port p = { s.port p with
          slot := (t.port p).slot, lastFrame := .accepted, transaction := none, shifted := (t.port p).shifted
          shiftedTail := (t.port p).shiftedTail } ∧
        (t.port p).shifted.take 4 = [openingByte s p, 0xFF, 0xFF, 0xFF] ∧
        (t.port p).shifted.length = 4 + clocked / 8 ∧
        (∀ i, i < clocked / 8 → (t.port p).shifted[4 + i]? = some (frame.getD i 0xFF)) ∧
        (t.port p).shiftedTail.length = clocked % 8 ∧
        (∀ i, i < clocked % 8 →
          (t.port p).shiftedTail[i]? = some ((frame.getD (clocked / 8) 0xFF).getLsbD (7 - i))))

/-- PORT_RESET (R182, with R133 and R174): the port's slot, indicator, counters, change set, fault copy and SYNC record are
emptied and its attention line is inactive; its marks leave every queue entry and the in-flight item; a claim that was not yet
granted is withdrawn with the slot, and a grant that is running goes on without the port, also where a claim that arrived during
it stands before it in the rotation by now (R14). Nothing else changes. That the operand of the event says whether the grant
runs, and is taken at its word while no grant runs on from an earlier PORT_RESET, is the model's choice (log entry 18). -/
def Obligations.PortResetEmptiesThePort : Prop :=
  ∀ (s : State) (p : Port) (tag : Byte) (duringGrant : Bool), s.held = false → NoFetch s p →
    ∃ t, exec (.portReset p tag duringGrant) s = .next t ∧
      t.port p =
        { slot := .empty, lastFrame := .none, formatRefusals := 0, busyRefusals := 0, changes := Vector.replicate 96 0,
          faults := 0, sync := ⟨false, 0⟩, transaction := none, shifted := [openingByte s p, 0xFF, 0xFF, 0xFF]
          shiftedTail := [] } ∧
      t.port p.other = s.port p.other ∧ attention t p = false ∧
      t.queue = s.queue.map (fun e => { e with marks := e.marks.set p false }) ∧
      t.engine = (match s.engine with
        | .idle => .idle
        | .claiming k m => .claiming k (m.set p false)
        | .programming x => .programming { x with marks := x.marks.set p false }
        | .retrying x => .retrying { x with marks := x.marks.set p false }) ∧
      (∀ c tag' payload, duringGrant = true → s.device = .running → s.running = none →
        (s.port p).slot = .queued c tag' payload → t.running = some ⟨p, c, payload⟩ ∧ t.pointer = classOf p) ∧
      (duringGrant = false ∨ s.device = .starting ∨ s.running ≠ none ∨
        (∀ c tag' payload, (s.port p).slot ≠ .queued c tag' payload) → SameArbiter s t) ∧
      SameDevice s t ∧ SameTable s t ∧ SameEvaluator s t ∧ SameConfig s t ∧ t.trackers = s.trackers ∧ t.lines = s.lines ∧
      SameRows s t ∧ SameSweep s t

/-- A grant whose port was reset while it ran (R16, R174) does to the part all that the same grant does for a command that still
waits in the slot, but for the response, which is not placed. -/
def Obligations.OrphanedGrantRunsToItsEnd : Prop :=
  ∀ (s t : State) (p : Port) (c : TableCommand) (tag : Byte) (payload : List Byte) (x : Claimant),
    s.running = some ⟨p, c, payload⟩ →
    let u := ((s.setRunning none).setPointer x).setPort p { s.port p with slot := .queued c tag payload }
    Due u p c tag payload → exec (grantOf p c) u = .next t →
    exec (grantOf p c) s = .next (t.setPort p { t.port p with slot := (s.port p).slot })

/-- The arbiter's rotation (R14, R15): the class it grants next has a claim waiting, and no class that waits has its turn
sooner; it grants none where none waits, while the device is STARTING and while a grant runs; and while a class waits, each
grant of another class brings its turn nearer, so that it is granted within four grants. -/
def Obligations.ArbiterRotates : Prop :=
  (∀ (s : State) (x : Claimant), nextClass s = some x →
    claimWaits s x = true ∧ s.device = .running ∧ s.running = none ∧
    ∀ y, claimWaits s y = true → turnsUntil s.pointer x ≤ turnsUntil s.pointer y) ∧
  (∀ s : State, s.device = .running → s.held = false → s.running = none →
    (nextClass s = none ↔ ∀ y, claimWaits s y = false)) ∧
  (∀ (s : State) (x y : Claimant), nextClass s = some x → claimWaits s y = true → y ≠ x →
    turnsUntil x y < turnsUntil s.pointer y ∧ turnsUntil s.pointer y ≤ 4)

/-- R17. The work item that an EVALUATOR grant takes: a pending pass on an axis that also has a pending condition, the one
pending longest; otherwise the pending condition posted earliest; otherwise the dwell timer whose expiry came earliest;
otherwise the pending pass that has been pending longest; and among equals the lower-numbered axis or slot. -/
def Obligations.EvaluatorTakesItemsInOrder : Prop :=
  ∀ s : State, Good s →
    (∀ n, nextItem s = some (.pass n) → ∃ m, s.pendingPass n = some m ∧
      ((s.pendingConditions n ≠ [] ∧
          ∀ n' m', s.pendingPass n' = some m' → s.pendingConditions n' ≠ [] → m < m' ∨ (m = m' ∧ n ≤ n')) ∨
        ((∀ n', s.pendingConditions n' = []) ∧ (∀ i d, s.dwell i = some d → d.expired = none) ∧
          ∀ n' m', s.pendingPass n' = some m' → m < m' ∨ (m = m' ∧ n ≤ n')))) ∧
    (∀ n k, nextItem s = some (.condition n k) → ∃ c, (s.pendingConditions n).head? = some c ∧ c.kind = k ∧
      (∀ n', s.pendingConditions n' ≠ [] → s.pendingPass n' = none) ∧
      ∀ n' c', c' ∈ s.pendingConditions n' → c.posted < c'.posted ∨ (c.posted = c'.posted ∧ n ≤ n')) ∧
    (∀ i, nextItem s = some (.expiry i) → ∃ d m, s.dwell i = some d ∧ d.expired = some m ∧
      (∀ n', s.pendingConditions n' = []) ∧
      ∀ i' d' m', s.dwell i' = some d' → d'.expired = some m' → m < m' ∨ (m = m' ∧ i ≤ i')) ∧
    (nextItem s = none ↔
      (∀ n, s.pendingPass n = none) ∧ (∀ n, s.pendingConditions n = []) ∧
      ∀ i d, s.dwell i = some d → d.expired = none)

/-- An event whose conditions do not hold does not come about, which is the model's choice (log entry 1): a grant to a port or
to the evaluator that is not the one due, a STORE grant out of turn, a row read or a move to RUNNING of a load that is not
at that point, a verify or a sweep read of an array that makes none, and a timer that does not run. So with the moments of a
transaction (log entry 23): a fourth byte where none is awaited; and, once the first four bytes have made a FETCH, every frame
that is not that FETCH. -/
def Obligations.EventsThatAreNotDueChangeNothing : Prop :=
  (∀ (s : State) (p : Port) (c : TableCommand), s.running = none → (∀ tag payload, ¬Due s p c tag payload) →
    exec (grantOf p c) s = .next s) ∧
  (∀ (s : State) (n : Axis), ¬EvaluatorDue s (.pass n) → exec (.pass n) s = .next s) ∧
  (∀ (s : State) (n : Axis), ¬EvaluatorDue s (.condition n .unsure) → exec (.axisUnsure n) s = .next s) ∧
  (∀ (s : State) (n : Axis), ¬EvaluatorDue s (.condition n .sure) → exec (.axisSure n) s = .next s) ∧
  (∀ (s : State) (i : SlotNo), ¬EvaluatorDue s (.expiry i) → exec (.dwellExpiry i) s = .next s) ∧
  (∀ (s : State) (i : SlotNo) (m : Moment), (∀ d, s.dwell i = some d → d.expired ≠ none) →
    exec (.dwellTimerExpiry i m) s = .next s) ∧
  (∀ (s : State) (n : Axis) (m : Moment), (s.tracker n).timer = none → exec (.stalenessExpiry n m) s = .next s) ∧
  (∀ s : State, nextClass s ≠ some .store → exec .storeGrant s = .next s) ∧
  (∀ (s : State) (r : VerifyRead), s.array ≠ .program → exec (.programVerify r) s = .next s) ∧
  (∀ (s : State) (d : Decay), (∀ r judged, s.array ≠ .sweepRead r judged) → exec (.sweepRead d) s = .next s) ∧
  (∀ (s : State) (d : Decay), s.device = .running ∨ 206 ≤ s.load.nextRow → exec (.loadRowRead d) s = .next s) ∧
  (∀ s : State, s.device = .running ∨ s.load.nextRow ≠ 206 → exec .moveToRunning s = .next s) ∧
  (∀ (s : State) (p : Port) (tag : Byte), (∀ status, (s.port p).transaction ≠ some ⟨status, none⟩) →
    exec (.fetch p tag .recognised) s = .next s) ∧
  (∀ (s : State) (p : Port) (f : RecognisedFetch) (tag : Byte), (s.port p).transaction.bind Transaction.fetch = some f →
    (∀ c payload, occupying c = some (p, payload) → exec c s = .next s) ∧
    (∀ bytes, exec (.refusedFormat p bytes) s = .next s) ∧ exec (.nop p tag) s = .next s ∧
    (∀ duringGrant, exec (.portReset p tag duringGrant) s = .next s) ∧
    (∀ tear, exec (.restart p tag tear) s = .next s) ∧ exec (.fetch p tag .opens) s = .next s ∧
    (tag ≠ f.tag → ∀ clocked, exec (.fetch p tag (.ends clocked)) s = .next s))

/-- Every table command that is granted is answered, under its tag and code, and one that is refused leaves the table, the
lists, the commit queue, the change sets, the lines and everything else as they were (R13, R18). The commit engine, which
takes a head that waits for it whatever the command, is assumed to have none to take. -/
def Obligations.RefusedCommandsChangeNothing : Prop :=
  ∀ (s : State) (p : Port) (c : TableCommand) (tag : Byte) (payload : List Byte), Due s p c tag payload →
    (s.engine = .idle → s.queue = []) →
    ∃ t r, exec (grantOf p c) s = .next t ∧ Answered s t p r ∧ r.tag = tag ∧ r.code = c.code ∧
      (r.result ≠ .ok → NothingElse s t)

/-- Checks 1 and 2 of every table command (R13, R165, R185): arguments that are missing, out of range or too many give BAD_ARGS;
and a freeze level that refuses the command gives FROZEN, whatever else is wrong. Checks 3 and 4 of the commands that name a
zone (R3, R6, R13): a handle into a VACANT slot, or whose incarnation is not the zone's, gives STALE_HANDLE; one into a
QUARANTINED slot gives QUARANTINED; a zone that belongs to the other port gives NOT_OWNER. READ_ZONE makes the same check of
the handle and none of the owner (R45). -/
def Obligations.ChecksAreMadeInOrder : Prop :=
  (∀ (s : State) (p : Port) (c : TableCommand) (tag : Byte) (payload : List Byte), Due s p c tag payload →
     (argsOk c payload = false →
       ∃ t, exec (grantOf p c) s = .next t ∧ Answered s t p ⟨tag, c.code, .badArgs, []⟩) ∧
     (argsOk c payload = true → refusedAt s.freezeLevel c = true →
       ∃ t, exec (grantOf p c) s = .next t ∧ Answered s t p ⟨tag, c.code, .frozen, []⟩)) ∧
  (∀ (s : State) (p : Port) (c : TableCommand) (tag : Byte) (payload : List Byte) (h : Handle), Due s p c tag payload →
    guardedHandle c payload = some h ∨ (c = .readZone ∧ parseHandle payload = some h) →
    refusedAt s.freezeLevel c = false →
    ((∃ r, s.slot h.slot = .vacant r) ∨ (∃ z, s.slot h.slot = .live z ∧ z.incarnation ≠ h.incarnation) →
      ∃ t, exec (grantOf p c) s = .next t ∧ Answered s t p ⟨tag, c.code, .staleHandle, []⟩) ∧
    (s.slot h.slot = .quarantined →
      ∃ t, exec (grantOf p c) s = .next t ∧ Answered s t p ⟨tag, c.code, .quarantined, []⟩)) ∧
  (∀ (s : State) (p : Port) (c : TableCommand) (tag : Byte) (payload : List Byte) (h : Handle) (z : Zone),
    Due s p c tag payload → guardedHandle c payload = some h → refusedAt s.freezeLevel c = false →
    s.slot h.slot = .live z → z.incarnation = h.incarnation → z.owner = ownerOf p.other →
    ∃ t, exec (grantOf p c) s = .next t ∧ Answered s t p ⟨tag, c.code, .notOwner, []⟩)

/-- A CREATE that passes its checks (R2, R8, R12, R25 to R27): the slot named, or for ANY the lowest-numbered VACANT one,
becomes LIVE with the next incarnation and the zone as the arguments define it, disarmed, UNKNOWN, without a trip mark and
without transits, owned by the requesting port or SHARED; the zone enters its list; its slot item is enqueued; its line is
recomputed; the response carries its handle. -/
def Obligations.CreateMakesAZone : Prop :=
  ∀ (s : State) (p : Port) (tag : Byte) (payload : List Byte) (x : CreateArgs) (i : SlotNo) (r : Byte),
    Good s → Due s p .create tag payload → parseCreate payload = some x → s.freezeLevel = .opened →
    boundsOk x.bounds x.hysteresis = true → NoCollision s x.axis x.bounds x.exclusive none →
    s.slot i = .vacant r → (x.slot = some i ∨ (x.slot = none ∧ ∀ j, j < i → ∀ r', s.slot j ≠ .vacant r')) →
    let incarnation : Byte := if r = 255 then 1 else r + 1
    ∃ t, exec (.create p) s = .next t ∧ Answered s t p ⟨tag, 0x10, .ok, handleBytes ⟨i, incarnation⟩⟩ ∧
      SlotBecomes s t i (.live
        { incarnation := incarnation, axis := x.axis, bounds := x.bounds, hysteresis := x.hysteresis, dwell := x.dwell
          line := x.line, priority := x.priority, action := x.action, policy := x.policy
          owner := if x.choice = .shared then .shared else ownerOf p
          armed := false, exclusive := x.exclusive, persistent := x.persistent, label := x.label
          occupancy := .unknown, tripMark := false, transits := 0 }) ∧
      ListsMove s t i none (some (x.axis, x.bounds.kind)) ∧
      SameEvaluator s t ∧ SameConfig s t ∧ t.trackers = s.trackers ∧
      Enqueued [slotItem i] s t ∧ Gained s t nothing ∧ Recomputed s t x.line.toList

/-- A CREATE that fails a check of its own (R4, R11 to R13): a named slot that is QUARANTINED, bounds that break the condition
of R4, a collision, whose response names the first zone in list order that it collides with, a named slot that is LIVE, and
a table without a VACANT slot. -/
def Obligations.CreateIsRefused : Prop :=
  ∀ (s : State) (p : Port) (tag : Byte) (payload : List Byte) (x : CreateArgs),
    Good s → Due s p .create tag payload → parseCreate payload = some x → s.freezeLevel = .opened →
    (∀ i, x.slot = some i → s.slot i = .quarantined →
      ∃ t, exec (.create p) s = .next t ∧ Answered s t p ⟨tag, 0x10, .quarantined, []⟩) ∧
    ((∀ i, x.slot = some i → s.slot i ≠ .quarantined) →
      (boundsOk x.bounds x.hysteresis = false →
        ∃ t, exec (.create p) s = .next t ∧ Answered s t p ⟨tag, 0x10, .badBounds, []⟩) ∧
      (boundsOk x.bounds x.hysteresis = true →
        (∀ h, FirstCollision s x.axis x.bounds x.exclusive none h →
          ∃ t, exec (.create p) s = .next t ∧ Answered s t p ⟨tag, 0x10, .overlap, handleBytes h⟩) ∧
        (NoCollision s x.axis x.bounds x.exclusive none →
          (∀ i z, x.slot = some i → s.slot i = .live z →
            ∃ t, exec (.create p) s = .next t ∧ Answered s t p ⟨tag, 0x10, .slotTaken, []⟩) ∧
          (x.slot = none → (∀ i r, s.slot i ≠ .vacant r) →
            ∃ t, exec (.create p) s = .next t ∧ Answered s t p ⟨tag, 0x10, .tableFull, []⟩))))

/-- An AMEND that passes its checks and changes a field (R9, R24, R29 to R32): every named field takes its new value at once. A
change of axis, bounds, hysteresis or dwell restarts the judgement, cancels the dwell timer and asks for a pass; an INSIDE zone
whose action becomes LATCH is TRIPPED; any other occupancy is kept. The zone moves to its ordered place where its axis or bounds
changed; its item is enqueued; its line, old and new, is recomputed. That the grant is a moment of its own, by which the clock
is raised by one, is the model's choice (log entry 2). -/
def Obligations.AmendChangesTheZone : Prop :=
  ∀ (s : State) (p : Port) (tag : Byte) (payload : List Byte) (x : AmendArgs) (z y : Zone),
    Good s → Due s p .amend tag payload → parseAmend payload = some x → s.freezeLevel = .opened →
    s.zone x.handle.slot = some z → z.incarnation = x.handle.incarnation → z.owner ≠ ownerOf p.other →
    (z.occupancy = .tripped → x.namesGeometryOrAction = false) → x.apply z = some y →
    boundsOk y.bounds y.hysteresis = true → NoCollision s y.axis y.bounds y.exclusive (some x.handle.slot) → y ≠ z →
    let i := x.handle.slot
    let restart := decide (y.axis ≠ z.axis ∨ y.bounds ≠ z.bounds ∨ y.hysteresis ≠ z.hysteresis ∨ y.dwell ≠ z.dwell)
    let o :=
      if restart then restartOccupancy z.armed s.available[y.axis] y.policy y.action
      else if z.action = .follow ∧ y.action = .latch ∧ z.occupancy = .inside then .tripped
      else z.occupancy
    ∃ t, exec (.amend p) s = .next t ∧ t.now = s.now + 1 ∧
      Answered s t p ⟨tag, 0x11, .ok, handleBytes x.handle ++ [0, occupancyCode o]⟩ ∧
      SlotBecomes s t i (.live (zoneAt y o)) ∧
      (if y.axis = z.axis ∧ y.bounds = z.bounds then SameLists s t
       else ListsMove s t i (some (z.axis, z.bounds.kind)) (some (y.axis, y.bounds.kind))) ∧
      SameConditions s t ∧ DwellBecomes s t i (if restart then none else s.dwell i) ∧
      PassAsked s t y.axis (restart && z.armed && s.available[y.axis]) ∧
      SameConfig s t ∧ t.trackers = s.trackers ∧
      Enqueued (itemsOf i z.persistent) s t ∧
      Gained s t (occupancyCause s i z (zoneAt y o) (entersTrip z (zoneAt y o))) ∧
      Recomputed s t (z.line.toList ++ y.line.toList)

/-- An AMEND that fails a check of its own (R13, R28, R29): a TRIPPED zone whose geometry or action it names, bounds of the
other kind or that break the condition of R4, and a collision, whose response names the first zone in list order. -/
def Obligations.AmendIsRefused : Prop :=
  ∀ (s : State) (p : Port) (tag : Byte) (payload : List Byte) (x : AmendArgs) (z : Zone),
    Good s → Due s p .amend tag payload → parseAmend payload = some x → s.freezeLevel = .opened →
    s.zone x.handle.slot = some z → z.incarnation = x.handle.incarnation → z.owner ≠ ownerOf p.other →
    (z.occupancy = .tripped → x.namesGeometryOrAction = true →
      ∃ t, exec (.amend p) s = .next t ∧ Answered s t p ⟨tag, 0x11, .tripped, []⟩) ∧
    ((z.occupancy = .tripped → x.namesGeometryOrAction = false) →
      (x.apply z = none →
        ∃ t, exec (.amend p) s = .next t ∧ Answered s t p ⟨tag, 0x11, .badBounds, []⟩) ∧
      (∀ y, x.apply z = some y →
        (boundsOk y.bounds y.hysteresis = false →
          ∃ t, exec (.amend p) s = .next t ∧ Answered s t p ⟨tag, 0x11, .badBounds, []⟩) ∧
        (boundsOk y.bounds y.hysteresis = true → ∀ h,
          FirstCollision s y.axis y.bounds y.exclusive (some x.handle.slot) h →
          ∃ t, exec (.amend p) s = .next t ∧ Answered s t p ⟨tag, 0x11, .overlap, handleBytes h⟩)))

/-- The commands on a zone that are taken and find nothing to change answer OK with the no-change flag, and change nothing
(R21): an AMEND whose every named field holds its value, an ARM of an armed zone, whatever its occupancy, a DISARM of a
disarmed zone, a CLEAR of a zone that is not TRIPPED, and a TRANSFER to the zone's owner. -/
def Obligations.CommandsWithoutAChange : Prop :=
  ∀ (s : State) (p : Port) (tag : Byte) (payload : List Byte) (h : Handle) (z : Zone),
    Good s → s.zone h.slot = some z → z.incarnation = h.incarnation → z.owner ≠ ownerOf p.other →
    (∀ x, Due s p .amend tag payload → parseAmend payload = some x → x.handle = h → s.freezeLevel = .opened →
      (z.occupancy = .tripped → x.namesGeometryOrAction = false) → x.apply z = some z →
      ∃ t, exec (.amend p) s = .next t ∧
        Answered s t p ⟨tag, 0x11, .ok, handleBytes h ++ [1, occupancyCode z.occupancy]⟩ ∧ NothingElse s t) ∧
    (Due s p .arm tag payload → parseHandle payload = some h → s.freezeLevel ≠ .fixed → z.armed = true →
      ∃ t, exec (.arm p) s = .next t ∧ Answered s t p ⟨tag, 0x13, .ok, [1, occupancyCode z.occupancy]⟩ ∧ NothingElse s t) ∧
    (Due s p .disarm tag payload → parseHandle payload = some h → s.freezeLevel ≠ .fixed → z.armed = false →
      ∃ t, exec (.disarm p) s = .next t ∧ Answered s t p ⟨tag, 0x14, .ok, [1, occupancyCode z.occupancy]⟩ ∧
        NothingElse s t) ∧
    (Due s p .clear tag payload → parseHandle payload = some h → z.occupancy ≠ .tripped →
      ∃ t, exec (.clear p) s = .next t ∧ Answered s t p ⟨tag, 0x15, .ok, [1, occupancyCode z.occupancy]⟩ ∧
        NothingElse s t) ∧
    (∀ o, Due s p .transfer tag payload → parseTransfer payload = some (h, o) → s.freezeLevel = .opened →
      o.owner p = z.owner →
      ∃ t, exec (.transfer p) s = .next t ∧ Answered s t p ⟨tag, 0x16, .ok, [1, ownerByte z.owner]⟩ ∧ NothingElse s t)

/-- A RETIRE that passes its checks (R2, R33, R34): the slot becomes VACANT and remembers the zone's incarnation, the zone
leaves its list, its dwell timer is cancelled, its line is recomputed, a PERSISTENT zone's item is enqueued and the other
port is sent REMOVED. A TRIPPED zone is refused. RECLAIM (R41): a QUARANTINED slot becomes VACANT and remembers 0, its item
is enqueued, and the other port is sent REMOVED past any OWN filter. A slot in another state is refused. -/
def Obligations.RetireAndReclaimFreeTheSlot : Prop :=
  (∀ (s : State) (p : Port) (tag : Byte) (payload : List Byte) (h : Handle) (z : Zone),
     Good s → Due s p .retire tag payload → parseHandle payload = some h → s.freezeLevel = .opened →
     s.zone h.slot = some z → z.incarnation = h.incarnation → z.owner ≠ ownerOf p.other →
     (z.occupancy ≠ .tripped →
       ∃ t, exec (.retire p) s = .next t ∧ Answered s t p ⟨tag, 0x12, .ok, handleBytes h⟩ ∧
         SlotBecomes s t h.slot (.vacant z.incarnation) ∧ ListsMove s t h.slot (some (z.axis, z.bounds.kind)) none ∧
         SameConditions s t ∧ t.passes = s.passes ∧ DwellBecomes s t h.slot none ∧ SameConfig s t ∧
         t.trackers = s.trackers ∧ Enqueued (itemsOf h.slot z.persistent) s t ∧
         Gained s t (causeOf s h.slot .removed [p.other] (some [z.owner])) ∧ Recomputed s t z.line.toList) ∧
     (z.occupancy = .tripped →
       ∃ t, exec (.retire p) s = .next t ∧ Answered s t p ⟨tag, 0x12, .tripped, []⟩)) ∧
  (∀ (s : State) (p : Port) (tag : Byte) (i : SlotNo), Due s p .reclaim tag [BitVec.ofNat 8 i.val] →
     s.freezeLevel = .opened →
     (s.slot i = .quarantined →
       ∃ t, exec (.reclaim p) s = .next t ∧ Answered s t p ⟨tag, 0x18, .ok, [BitVec.ofNat 8 i.val]⟩ ∧
         SlotBecomes s t i (.vacant 0) ∧ SameLists s t ∧ SameEvaluator s t ∧ SameConfig s t ∧
         t.trackers = s.trackers ∧ t.lines = s.lines ∧ Enqueued [slotItem i] s t ∧
         Gained s t (causeOf s i .removed [p.other] none)) ∧
     (s.slot i ≠ .quarantined →
       ∃ t, exec (.reclaim p) s = .next t ∧ Answered s t p ⟨tag, 0x18, .notQuarantined, []⟩))

/-- An ARM of a disarmed zone and a CLEAR of a TRIPPED zone restart its judgement (R24, R35, R37, R38): UNKNOWN with a pass
asked for where its axis has a position, and what the stale policy gives where it has none; a CLEAR that the policy trips again
enters TRIPPED. The dwell timer is cancelled, the item enqueued, the line recomputed. That the grant is a moment of its own, by
which the clock is raised by one, is the model's choice (log entry 2). -/
def Obligations.ArmAndClearRestartTheJudgement : Prop :=
  ∀ (s : State) (p : Port) (c : TableCommand) (tag : Byte) (payload : List Byte) (h : Handle) (z : Zone),
    Good s → Due s p c tag payload → parseHandle payload = some h →
    (c = .arm ∧ s.freezeLevel ≠ .fixed ∧ z.armed = false) ∨ (c = .clear ∧ z.occupancy = .tripped) →
    s.zone h.slot = some z → z.incarnation = h.incarnation → z.owner ≠ ownerOf p.other →
    let o := restartOccupancy true s.available[z.axis] z.policy z.action
    let y := zoneAt { z with armed := true } o
    ∃ t, exec (grantOf p c) s = .next t ∧ Answered s t p ⟨tag, c.code, .ok, [0, occupancyCode o]⟩ ∧
      t.now = s.now + 1 ∧ SlotBecomes s t h.slot (.live y) ∧ SameLists s t ∧
      SameConditions s t ∧ DwellBecomes s t h.slot none ∧ PassAsked s t z.axis s.available[z.axis] ∧
      SameConfig s t ∧ t.trackers = s.trackers ∧ Enqueued (itemsOf h.slot z.persistent) s t ∧
      Gained s t (occupancyCause s h.slot z y (decide (o = .tripped))) ∧ Recomputed s t z.line.toList

/-- A DISARM of an armed zone that is not TRIPPED (R36): the zone is disarmed and UNKNOWN, its dwell timer is cancelled, no pass
is asked for, its item is enqueued and its line recomputed. A TRIPPED zone is refused. -/
def Obligations.DisarmEndsTheJudgement : Prop :=
  ∀ (s : State) (p : Port) (tag : Byte) (payload : List Byte) (h : Handle) (z : Zone),
    Good s → Due s p .disarm tag payload → parseHandle payload = some h → s.freezeLevel ≠ .fixed →
    s.zone h.slot = some z → z.incarnation = h.incarnation → z.owner ≠ ownerOf p.other → z.armed = true →
    (z.occupancy ≠ .tripped →
      ∃ t, exec (.disarm p) s = .next t ∧ Answered s t p ⟨tag, 0x14, .ok, [0, 0]⟩ ∧
        SlotBecomes s t h.slot (.live { z with armed := false, occupancy := .unknown, tripMark := false }) ∧
        SameLists s t ∧ SameConditions s t ∧ t.passes = s.passes ∧ DwellBecomes s t h.slot none ∧ SameConfig s t ∧
        t.trackers = s.trackers ∧ Enqueued (itemsOf h.slot z.persistent) s t ∧
        Gained s t (occupancyCause s h.slot z { z with occupancy := .unknown } false) ∧
        Recomputed s t z.line.toList) ∧
    (z.occupancy = .tripped →
      ∃ t, exec (.disarm p) s = .next t ∧ Answered s t p ⟨tag, 0x14, .tripped, []⟩)

/-- A TRANSFER that changes the owner (R39): the owner alone changes, the item of a PERSISTENT zone is enqueued, and the other
port is sent TRANSFERRED, judged by the owner before and the owner after (R107). RELEASE_ALL (R40): every zone that the
requesting port owns becomes SHARED, the PERSISTENT ones' items are enqueued in ascending slot order, the other port is sent
TRANSFERRED for each, and the response counts them. -/
def Obligations.TransfersChangeTheOwner : Prop :=
  (∀ (s : State) (p : Port) (tag : Byte) (payload : List Byte) (h : Handle) (o : OwnerChoice) (z : Zone),
     Good s → Due s p .transfer tag payload → parseTransfer payload = some (h, o) → s.freezeLevel = .opened →
     s.zone h.slot = some z → z.incarnation = h.incarnation → z.owner ≠ ownerOf p.other →
     let owner := match o with
       | .self => ownerOf p
       | .other => ownerOf p.other
       | .shared => .shared
     owner ≠ z.owner →
     ∃ t, exec (.transfer p) s = .next t ∧ Answered s t p ⟨tag, 0x16, .ok, [0, ownerByte owner]⟩ ∧
       SlotBecomes s t h.slot (.live { z with owner := owner }) ∧ SameLists s t ∧ SameEvaluator s t ∧ SameConfig s t ∧
       t.trackers = s.trackers ∧ t.lines = s.lines ∧ Enqueued (itemsOf h.slot z.persistent) s t ∧
       Gained s t (causeOf s h.slot .transferred [p.other] (some [z.owner, owner]))) ∧
  (∀ (s : State) (p : Port) (tag : Byte), Due s p .releaseAll tag [] → s.freezeLevel = .opened →
     let owned := allSlots.filter fun i =>
       match s.zone i with
       | some z => decide (z.owner = ownerOf p)
       | none => false
     ∃ t, exec (.releaseAll p) s = .next t ∧ Answered s t p ⟨tag, 0x17, .ok, [BitVec.ofNat 8 owned.length]⟩ ∧
       (∀ i, (∀ z, s.zone i = some z → z.owner = ownerOf p → t.slot i = .live { z with owner := .shared }) ∧
         ((∀ z, s.zone i = some z → z.owner ≠ ownerOf p) → t.slot i = s.slot i)) ∧
       SameLists s t ∧ SameEvaluator s t ∧ SameConfig s t ∧ t.trackers = s.trackers ∧ t.lines = s.lines ∧
       Enqueued ((owned.filter fun i =>
         match s.zone i with
         | some z => z.persistent
         | none => false).map slotItem) s t ∧
       Gained s t (fun q j =>
         if j ∈ owned then causeOf s j .transferred [p.other] (some [ownerOf p, .shared]) q j else 0))

/-- READ_ZONE (R47 to R49): the zone's record as it stands at the grant, with its durability; nothing changes. READ_CONFIG
(R164): the item, its live values, the committed freeze level for FREEZE, and the item's durability; nothing changes. An
item's durability is NOT_DURABLE where both copies are WORN, else PENDING while it is queued or in flight, else COMMITTED
(R129). -/
def Obligations.ReadsReturnTheRecords : Prop :=
  (∀ (s : State) (p : Port) (tag : Byte) (payload : List Byte) (h : Handle) (z : Zone),
     Good s → Due s p .readZone tag payload → parseHandle payload = some h →
     s.zone h.slot = some z → z.incarnation = h.incarnation →
     ∃ t, exec (.readZone p) s = .next t ∧ NothingElse s t ∧
       Answered s t p ⟨tag, 0x20, .ok,
         handleBytes h ++ writeBlock z ++ (z.label ++ List.replicate (8 - z.label.length) 0) ++
           [occupancyCode z.occupancy, z.transits,
            if z.persistent then durabilityCode (durability s (slotItem h.slot)) else 2]⟩) ∧
  (∀ (s : State) (p : Port) (tag : Byte) (k : ItemNo), Good s → 96 ≤ k.val →
     Due s p .readConfig tag [BitVec.ofNat 8 k.val] →
     ∃ t, exec (.readConfig p) s = .next t ∧ NothingElse s t ∧
       Answered s t p ⟨tag, 0x34, .ok,
         BitVec.ofNat 8 k.val :: contentOf s k ++
           [if k = freezeItem then freezeByte s.committedFreeze else 0, durabilityCode (durability s k)]⟩) ∧
  (∀ (s : State) (k : ItemNo),
    let worn := (s.item k).copies[0] = .worn ∧ (s.item k).copies[1] = .worn
    let outstanding := k ∈ s.queue.map QueueEntry.item ∨ (inFlight s).map Prod.fst = some k
    durability s k = if worn then .notDurable else if outstanding then .pending else .committed)

/-- FIND (R51, R52): the number of the zones of the axis that contain the position, and the first eight of their handles, the
ABSOLUTE list first and then the PERIODIC list, each in its order; nothing changes. LIST (R53 to R55): from START, or from
the place of the cursor's zone in the named list, the first eight handles that follow and whether more follow; a cursor
whose zone does not stand in the list is lost. Nothing changes. -/
def Obligations.FindAndListReturnHandles : Prop :=
  (∀ (s : State) (p : Port) (tag : Byte) (payload : List Byte) (n : Axis) (x : ExtPos),
     Good s → Due s p .find tag payload → parseFind payload = some (n, x) →
     ∃ (t : State) (found : List SlotNo), exec (.find p) s = .next t ∧ NothingElse s t ∧
       Answered s t p ⟨tag, 0x21, .ok,
         BitVec.ofNat 8 found.length :: ((found.take 8).map (handleIn s)).flatMap handleBytes⟩ ∧
       found.Nodup ∧ found.Sublist (s.zoneList n .absolute ++ s.zoneList n .periodic) ∧
       ∀ i, i ∈ found ↔ ∃ z, s.zone i = some z ∧ z.axis = n ∧ z.bounds.contains x = true) ∧
  (∀ (s : State) (p : Port) (tag : Byte) (payload : List Byte) (n : Axis) (k : Kind) (c : Cursor),
     Good s → Due s p .list tag payload → parseList payload = some (n, k, c) →
     (∀ following,
       (c = .start ∧ following = s.zoneList n k) ∨
         (∃ h before, c = .handle h ∧ s.zoneList n k = before ++ h.slot :: following ∧ handleIn s h.slot = h) →
       ∃ t, exec (.list p) s = .next t ∧ NothingElse s t ∧
         Answered s t p ⟨tag, 0x22, .ok,
           (if 8 < following.length then 1 else 0) :: ((following.take 8).map (handleIn s)).flatMap handleBytes⟩) ∧
     (∀ h, c = .handle h → (h.slot ∉ s.zoneList n k ∨ handleIn s h.slot ≠ h) →
       ∃ t, exec (.list p) s = .next t ∧ NothingElse s t ∧ Answered s t p ⟨tag, 0x22, .cursorLost, []⟩))

/-- A SET_AXIS that is taken (R67, R75, R159 to R161): the named fields take their new values, the item is enqueued and the
flags answer by whether a field changed. A change of enabled, reverse, offset, init mode or preset turns resynchronises the
tracker; R75 does not say what becomes of its last accepted sequence, and the model keeps it (log entry 8). Any other change
leaves all of the tracker but its staleness timer. That the grant is a moment of its own, by which the clock is raised by one,
is the model's choice (log entry 2). -/
def Obligations.SetAxisConfiguresTheAxis : Prop :=
  ∀ (s : State) (p : Port) (tag : Byte) (payload : List Byte) (n : Axis) (x : AxisChange),
    Good s → Due s p .setAxis tag payload → parseSetAxis payload = some (n, x) → s.freezeLevel = .opened →
    let c := s.axisConfig n
    let d : AxisConfig :=
      { enabled := x.enabled.getD c.enabled, reverse := x.reverse.getD c.reverse, offset := x.offset.getD c.offset
        maxStep := x.maxStep.getD c.maxStep, jumpLimit := x.jumpLimit.getD c.jumpLimit
        staleness := x.staleness.getD c.staleness, initMode := x.initMode.getD c.initMode
        presetTurns := x.presetTurns.getD c.presetTurns }
    let forced := decide (d.enabled ≠ c.enabled ∨ d.reverse ≠ c.reverse ∨ d.offset ≠ c.offset ∨ d.initMode ≠ c.initMode ∨
      d.presetTurns ≠ c.presetTurns)
    ∃ t, exec (.setAxis p) s = .next t ∧ t.now = s.now + 1 ∧
      Answered s t p ⟨tag, 0x30, .ok, [(if d = c then 1 else 0) ||| (if forced then 2 else 0)]⟩ ∧
      (∀ m, t.axisConfig m = if m = n then d else s.axisConfig m) ∧
      (forced = true →
        Departs s t n (resyncedTracker s n (if d.enabled then .acquiring else .disabled) none (s.tracker n).sequence)) ∧
      (forced = false → t.conditions = s.conditions ∧ ∀ m, t.tracker m =
        if m = n ∧ d.staleness ≠ c.staleness ∧
            ((s.tracker n).timer ≠ none ∨ (c.staleness = 0 ∧ (s.tracker n).state = .tracking)) then
          { s.tracker n with timer := timerFrom d t.now }
        else s.tracker m) ∧
      Enqueued (if d = c then [] else [axisItem n]) s t ∧ Gained s t nothing ∧
      t.lineConfig = s.lineConfig ∧ t.portConfig = s.portConfig ∧ t.freezeLevel = s.freezeLevel ∧
      SameTable s t ∧ t.available = s.available ∧ t.passes = s.passes ∧ t.dwells = s.dwells ∧ t.lines = s.lines

/-- A SET_LINES that is taken (R104, R159, R162): the named enables and polarities take their new values and all eight lines are
recomputed; and a SET_PORTS that is taken (R159, R163): each port's named fields take their new values. The item is enqueued and
the flags answer by whether a field changed. FREEZE (R165, R166): a level at or above the effective one becomes effective, the
item is enqueued where it rose, and the flags and the effective level are answered; a level below it is BAD_ARGS. That a
SET_PORTS is answered OK whatever stands in a subscription field that its presence byte does not name, the unassigned code 3
included, is the model's choice (log entry 26). -/
def Obligations.LinesPortsAndFreezeAreConfigured : Prop :=
  (∀ (s : State) (p : Port) (tag ep pp ev pv : Byte), Due s p .setLines tag [ep, pp, ev, pv] → ep ≠ 0 ∨ pp ≠ 0 →
    s.freezeLevel = .opened →
    ∃ t, exec (.setLines p) s = .next t ∧
      Answered s t p ⟨tag, 0x31, .ok, [if t.lineConfig = s.lineConfig then 1 else 0]⟩ ∧
      (∀ l : LineNo, t.lineConfig[l] =
        { enabled := if ep.getLsbD l then ev.getLsbD l else s.lineConfig[l].enabled
          polarity :=
            if pp.getLsbD l then (if pv.getLsbD l then .activeLow else .activeHigh) else s.lineConfig[l].polarity }) ∧
      Enqueued (if t.lineConfig = s.lineConfig then [] else [linesItem]) s t ∧
      LinesOk t ∧ SameTable s t ∧ SameEvaluator s t ∧ t.axes = s.axes ∧ t.portConfig = s.portConfig ∧
      t.freezeLevel = s.freezeLevel ∧ t.trackers = s.trackers ∧ Gained s t nothing) ∧
  (∀ (s : State) (p : Port) (tag : Byte) (payload : List Byte) (x : PerPort PortChange), Due s p .setPorts tag payload →
    parseSetPorts payload = some x →
    ∃ t, exec (.setPorts p) s = .next t ∧
      Answered s t p ⟨tag, 0x32, .ok, [if t.portConfig = s.portConfig then 1 else 0]⟩ ∧
      (∀ q, t.portConfig.get q =
        { subscription := (x.get q).subscription.getD (s.portConfig.get q).subscription
          mask := (x.get q).mask.getD (s.portConfig.get q).mask
          attentionOnDone := (x.get q).attentionOnDone.getD (s.portConfig.get q).attentionOnDone }) ∧
      Enqueued (if t.portConfig = s.portConfig then [] else [portsItem]) s t ∧
      SameTable s t ∧ SameEvaluator s t ∧ t.axes = s.axes ∧ t.lineConfig = s.lineConfig ∧
      t.freezeLevel = s.freezeLevel ∧ t.trackers = s.trackers ∧ t.lines = s.lines ∧ Gained s t nothing) ∧
  (∀ (s : State) (p : Port) (tag : Byte) (payload : List Byte) (l : FreezeLevel),
     Due s p .freeze tag payload → parseFreeze payload = some l →
     (s.freezeLevel.rank ≤ l.rank →
       ∃ t, exec (.freeze p) s = .next t ∧
         Answered s t p ⟨tag, 0x33, .ok, [if l = s.freezeLevel then 1 else 0, freezeCode l]⟩ ∧ t.freezeLevel = l ∧
         Enqueued (if l = s.freezeLevel then [] else [freezeItem]) s t ∧ SameTable s t ∧ SameEvaluator s t ∧
         t.axes = s.axes ∧ t.lineConfig = s.lineConfig ∧ t.portConfig = s.portConfig ∧ t.trackers = s.trackers ∧
         t.lines = s.lines ∧ Gained s t nothing) ∧
     (l.rank < s.freezeLevel.rank →
       ∃ t, exec (.freeze p) s = .next t ∧ Answered s t p ⟨tag, 0x33, .badArgs, []⟩))

/-- TAKE_CHANGES (R111, R112): up to 12 entries with the lowest slot numbers leave the port's change set and are answered in
ascending order, with the count of those that remain; nothing else changes. READ_FAULTS (R180, R181): the port's eleven
fault flags and the truth of the four conditions are answered; then every event flag of the port's copy is clear, and each
condition flag stays only where its condition is true. Nothing else changes. -/
def Obligations.TakeChangesAndReadFaultsEmptyTheirSets : Prop :=
  (∀ (s : State) (p : Port) (tag : Byte), PortFree s p →
     let entries := allSlots.filter fun i => decide ((s.port p).changes[i] ≠ 0)
     let taken := entries.take 12
     ∃ t, exec (.takeChanges p tag []) s = .next t ∧ OnlyPort s t p ∧
       (∀ i : SlotNo, (t.port p).changes[i] = if i ∈ taken then 0 else (s.port p).changes[i]) ∧
       t.port p = { acceptedPort s p [] (.done ⟨tag, 0x40, .ok,
           BitVec.ofNat 8 (entries.length - 12) :: taken.flatMap fun i => changeEntry s (s.port p).changes[i] i⟩) with
         changes := (t.port p).changes }) ∧
  (∀ (s : State) (p : Port) (tag : Byte), PortFree s p →
     ∃ (t : State) (conditions : Byte), exec (.readFaults p tag []) s = .next t ∧ OnlyPort s t p ∧
       (∀ i : Fin 4, conditions.getLsbD i = true ↔ ConditionHolds s i) ∧ conditions.toNat < 16 ∧
       (∀ i : Fin 7, (t.port p).faults.getLsbD i = false) ∧
       (∀ i : Fin 4, (t.port p).faults.getLsbD (7 + i.val) = true ↔
         (s.port p).faults.getLsbD (7 + i.val) = true ∧ ConditionHolds s i) ∧
       t.port p = { acceptedPort s p [] (.done ⟨tag, 0x41, .ok,
           [(s.port p).faults.extractLsb' 8 3 |>.setWidth 8, (s.port p).faults.setWidth 8, conditions]⟩) with
         faults := (t.port p).faults })

/-- AXIS_STATUS (R73), LINE_STATUS (R105), DEVICE_STATUS (R140, R150, R178) and SWEEP_STATUS (R157) are answered, in either
device state, with the record as it stands, and change nothing but the port. A first fault that the sweep has not found, and a
generation that it has not read, are sent as 0, which is the model's choice (log entry 9); and so is the 0 that DEVICE_STATUS
sends, while the device is STARTING, as the number of copies read CORRECTED at load, for which the rules give no value then (log
entry 25). -/
def Obligations.StatusCommandsAnswer : Prop :=
  ∀ (s : State) (p : Port) (tag : Byte), PortFree s p →
    (∀ n : Axis, let k := s.tracker n
      ∃ t, exec (.axisStatus p tag [BitVec.ofNat 8 n.val]) s = .next t ∧
      AnsweredLocally s t p .axisStatus tag [BitVec.ofNat 8 n.val] .ok
        ([trackerStateCode k.state, lostCauseCode k.cause, if k.position = none then 0 else 1] ++
          ((k.position.map posBytes).getD [0, 0, 0, 0]) ++
          [(k.sequence.map fun b => b.setWidth 8).getD 0xFF, k.jumpRun.setWidth 8,
           (k.rawStatus.map fun b => b.setWidth 8).getD 0xFF] ++
          halfBytes k.counters.accepted ++ halfBytes k.counters.checkFail ++ halfBytes k.counters.sensorInvalid ++
          halfBytes k.counters.jumps ++ halfBytes k.counters.gaps)) ∧
    (∃ t, exec (.lineStatus p tag []) s = .next t ∧
      AnsweredLocally s t p .lineStatus tag [] .ok (allLines.flatMap fun l => lineBytes (s.line l))) ∧
    (∃ t, exec (.deviceStatus p tag []) s = .next t ∧
      AnsweredLocally s t p .deviceStatus tag [] .ok
        ((match s.device with
          | .starting => [0, 0, 0, 0, 0, 0, 0, 0, 0, 0, 0, 0, 0xFF, 0xFF]
          | .running =>
            [1, countByte s.load.empty, countByte s.load.good, countByte s.load.staleCopy, countByte s.load.oneCopy,
             countByte s.load.lost, countByte s.load.corrected, countByte s.queue.length,
             if s.engine.hasProgram then 1 else 0,
             countByte ((allItems.map fun k =>
               ((List.finRange 2).filter fun c => decide ((s.item k).copies[c] = .worn)).length).sum),
             countByte (allItems.filter fun k =>
               decide ((s.item k).copies[0] = .worn ∧ (s.item k).copies[1] = .worn)).length,
             countByte (allSlots.filter fun i => decide (s.slot i = .quarantined)).length,
             freezeCode s.freezeLevel, freezeByte s.committedFreeze]) ++
          halfBytes (s.port .a).formatRefusals ++ halfBytes (s.port .a).busyRefusals ++
          halfBytes (s.port .b).formatRefusals ++ halfBytes (s.port .b).busyRefusals)) ∧
    (let w := s.sweep
     ∃ t, exec (.sweepStatus p tag []) s = .next t ∧
      AnsweredLocally s t p .sweepStatus tag [] .ok
        ([sweepStateCode w.state, BitVec.ofNat 8 w.startRow.val, (if w.loop then 1 else 0) + (if w.stopOnFault then 2 else 0),
          BitVec.ofNat 8 w.nextRow.val, BitVec.ofNat 8 w.rowsRead] ++
          halfBytes w.passes ++ halfBytes w.corrected ++ halfBytes w.uncorrectable ++
          (match w.first with
           | none => [0, 0, 0, 0, 0, 0]
           | some f =>
             [1 + (if f.uncorrectable then 2 else 0) + (if f.generation = none then 0 else 4) +
                (if f.row.val % 2 = 1 then 8 else 0),
              BitVec.ofNat 8 f.row.val, BitVec.ofNat 8 (f.row.val / 2), f.generation.getD 0] ++
             halfBytes (BitVec.ofNat 16 f.pass))))

/-- The port-local commands that are refused (R74, R105, R111, R130, R140, R152, R157, R171, R177, R181): SWEEP_START, SYNC and
RESYNC are NOT_READY while the device is STARTING, which comes before any other check (log entry 11); arguments out of
range, or where none are taken, are BAD_ARGS; a sweep that runs and an axis that is DISABLED have results of their own.
Nothing but the port changes. -/
def Obligations.PortLocalCommandsAreRefused : Prop :=
  ∀ (s : State) (p : Port) (tag : Byte) (payload : List Byte) (m : Moment), PortFree s p → payload.length ≤ 32 →
    (s.device = .starting → ∀ c ∈ [LocalCommand.sweepStart, .sync, .resync],
      ∃ t, exec (localInstr p tag payload m c) s = .next t ∧ AnsweredLocally s t p c tag payload .notReady []) ∧
    (payload ≠ [] → ∀ c ∈ [LocalCommand.takeChanges, .readFaults, .lineStatus, .deviceStatus, .sweepStop, .sweepStatus],
      ∃ t, exec (localInstr p tag payload m c) s = .next t ∧ AnsweredLocally s t p c tag payload .badArgs []) ∧
    (parseAxis payload = none →
      ∃ t, exec (.axisStatus p tag payload) s = .next t ∧ AnsweredLocally s t p .axisStatus tag payload .badArgs []) ∧
    (s.device = .running →
      (payload ≠ [] →
        ∃ t, exec (.sync p tag payload) s = .next t ∧ AnsweredLocally s t p .sync tag payload .badArgs []) ∧
      (parseSweepStart payload = none →
        ∃ t, exec (.sweepStart p tag payload) s = .next t ∧ AnsweredLocally s t p .sweepStart tag payload .badArgs []) ∧
      (parseSweepStart payload ≠ none → s.sweep.state = .running →
        ∃ t, exec (.sweepStart p tag payload) s = .next t ∧
          AnsweredLocally s t p .sweepStart tag payload .sweepRunning []) ∧
      (parseResync payload = none →
        ∃ t, exec (.resync p tag payload m) s = .next t ∧ AnsweredLocally s t p .resync tag payload .badArgs []) ∧
      (∀ n turn, parseResync payload = some (n, turn) → (s.tracker n).state = .disabled →
        ∃ t, exec (.resync p tag payload m) s = .next t ∧ AnsweredLocally s t p .resync tag payload .axisDisabled []))

/-- SWEEP_START that is taken and SWEEP_STOP (R152, R153, R156): a start begins a sweep afresh at its row, whose first read
begins at once where the array is free and is asked of it where it is not; a stop ends a sweep that runs, whose read in
progress is not judged, and changes nothing where none runs. -/
def Obligations.SweepStartsAndStops : Prop :=
  ∀ (s : State) (p : Port) (tag : Byte) (payload : List Byte), Good s → PortFree s p →
    (∀ r loop stopOnFault, s.device = .running → parseSweepStart payload = some (r, loop, stopOnFault) →
      s.sweep.state ≠ .running →
      ∃ t, exec (.sweepStart p tag payload) s = .next t ∧ SweepCommandLeaves s t p ∧
        t.port p = acceptedPort s p payload (.done ⟨tag, 0x45, .ok, []⟩) ∧
        t.array = (if s.array = .free then .sweepRead r true else s.array) ∧
        t.sweep =
          { state := .running, startRow := r, loop := loop, stopOnFault := stopOnFault, nextRow := r, rowsRead := 0
            passes := 0, corrected := 0, uncorrectable := 0, first := none, asked := decide (s.array ≠ .free) }) ∧
    (s.sweep.state = .running →
      ∃ t, exec (.sweepStop p tag []) s = .next t ∧ SweepCommandLeaves s t p ∧
        t.port p = acceptedPort s p [] (.done ⟨tag, 0x46, .ok, [0]⟩) ∧
        t.sweep = { s.sweep with state := .stopped, asked := false } ∧
        t.array = (match s.array with
          | .sweepRead r _ => .sweepRead r false
          | u => u)) ∧
    (s.sweep.state ≠ .running →
      ∃ t, exec (.sweepStop p tag []) s = .next t ∧ AnsweredLocally s t p .sweepStop tag [] .ok [1])

/-- A SYNC that is taken (R130): with nothing queued or in flight it is answered OK at once; otherwise the port's mark is given
to every queue entry and to the in-flight item, and the slot waits. -/
def Obligations.SyncMarksTheQueue : Prop :=
  ∀ (s : State) (p : Port) (tag : Byte), PortFree s p → s.device = .running →
    (s.queue = [] → s.engine = .idle →
      ∃ t, exec (.sync p tag []) s = .next t ∧ AnsweredLocally s t p .sync tag [] .ok []) ∧
    (s.queue ≠ [] ∨ s.engine ≠ .idle →
      ∃ t, exec (.sync p tag []) s = .next t ∧
        t.port p = { acceptedPort s p [] (.waiting tag) with sync := ⟨true, 0⟩ } ∧ t.port p.other = s.port p.other ∧
        t.queue = s.queue.map (fun e => { e with marks := e.marks.set p true }) ∧
        t.engine = (match s.engine with
          | .idle => .idle
          | .claiming k m => .claiming k (m.set p true)
          | .programming x => .programming { x with marks := x.marks.set p true }
          | .retrying x => .retrying { x with marks := x.marks.set p true }) ∧
        SameDevice s t ∧ SameTable s t ∧ SameEvaluator s t ∧ SameConfig s t ∧ SameArbiter s t ∧
        t.trackers = s.trackers ∧ t.lines = s.lines ∧ SameRows s t ∧ SameSweep s t)

/-- A RESYNC that is taken (R74): the tracker enters ACQUIRING with its record cleared, its last accepted sequence included, and
the acquisition turn it is given; an axis-unsure condition is posted if the axis was sure. The clock that counts moments, which
the operand of the event raises by one or keeps, is the model's choice (log entry 2). -/
def Obligations.ResyncRestartsTheTracker : Prop :=
  ∀ (s : State) (p : Port) (tag : Byte) (payload : List Byte) (m : Moment) (n : Axis) (turn : Option Turn),
    Good s → PortFree s p → s.device = .running → parseResync payload = some (n, turn) →
    (s.tracker n).state ≠ .disabled →
    ∃ t, exec (.resync p tag payload m) s = .next t ∧ t.now = momentOf s m ∧
      t.port p = acceptedPort s p payload (.done ⟨tag, 0x49, .ok, []⟩) ∧ t.port p.other = s.port p.other ∧
      Departs s t n (resyncedTracker s n .acquiring turn none) ∧ t.passes = s.passes ∧ OnlyTracking s t

/-- SAMPLE_FRAME, the frames that are not accepted (R57, R58, R72). A frame is ignored whole while the part is not RUNNING,
where its frame select straddled the move to RUNNING, and on a DISABLED axis. A frame that is cut short or whose check disagrees
is counted in CHECK_FAIL, and one whose status is not VALID or raises SENSOR_ALARM in SENSOR_INVALID, after its status flags are
recorded; both raise SENSOR_FAULT in both fault copies. Nothing else changes but the clock, which a frame that is judged raises
by one or keeps as its operand says; the clock is the model's choice (log entry 2). -/
def Obligations.FramesThatFailTheTests : Prop :=
  ∀ (s : State) (n : Axis) (bits : Nat) (word : BitVec 32) (straddles : Bool) (m : Moment),
    (¬Judged s n straddles → exec (.sampleFrame n bits word straddles m) s = .next s) ∧
    (Judged s n straddles → ¬Checked bits word →
      ∃ t, exec (.sampleFrame n bits word straddles m) s = .next t ∧ Raised s t Flag.sensorFault.mask ∧ OnlyTracking s t ∧
        t.now = momentOf s m ∧ t.passes = s.passes ∧ t.conditions = s.conditions ∧
        ∀ a, t.tracker a =
          if a = n then
            { s.tracker n with counters :=
                { (s.tracker n).counters with checkFail := addSaturating (s.tracker n).counters.checkFail 1 } }
          else s.tracker a) ∧
    (Judged s n straddles → Checked bits word → ¬Passes bits word →
      ∃ t, exec (.sampleFrame n bits word straddles m) s = .next t ∧ Raised s t Flag.sensorFault.mask ∧ OnlyTracking s t ∧
        t.now = momentOf s m ∧ t.passes = s.passes ∧ t.conditions = s.conditions ∧
        ∀ a, t.tracker a =
          if a = n then
            { readTracker (s.tracker n) word with counters :=
                { (s.tracker n).counters with sensorInvalid := addSaturating (s.tracker n).counters.sensorInvalid 1 } }
          else s.tracker a)

/-- A frame that passes both tests in ACQUIRING is accepted whatever its angle and sequence (R59, R60, R80): the axis gains its
position at the acquisition turn, becomes TRACKING and sure, and an axis-sure condition is posted, or one pending axis-unsure
condition withdrawn with its held span. In LOST such a frame only records its status flags (R70). The clock that counts moments,
which the operand of the event raises by one or keeps, is the model's choice (log entry 2). -/
def Obligations.FramesAcquireTheAxis : Prop :=
  ∀ (s : State) (n : Axis) (bits : Nat) (word : BitVec 32) (m : Moment), Good s → Judged s n false → Passes bits word →
    ((s.tracker n).state = .acquiring →
      let k := s.tracker n
      let c := s.axisConfig n
      let turn := k.acquireTurn.getD (if c.initMode = .preset then c.presetTurns else 0)
      let x : ExtPos := ⟨turn, angleOf c word⟩
      ∃ t, exec (.sampleFrame n bits word false m) s = .next t ∧ Raised s t (warning word) ∧ OnlyTracking s t ∧
        t.now = momentOf s m ∧ t.passes = s.passes ∧ Posted s t n .sure ∧
        ∀ a, t.tracker a =
          if a = n then
            withAccepted { readTracker k word with
              state := .tracking, position := some x, lastAngle := x.angle, sequence := some (sequenceOf word)
              live := some ⟨x, x⟩, held := if withdraws s n then none else k.held, sure := true, jumpRun := 0
              timer := timerFrom c t.now, acquireTurn := none }
          else s.tracker a) ∧
    ((s.tracker n).state = .lost →
      ∃ t, exec (.sampleFrame n bits word false m) s = .next t ∧ Raised s t (warning word) ∧ OnlyTracking s t ∧
        t.now = momentOf s m ∧ t.passes = s.passes ∧ t.conditions = s.conditions ∧
        ∀ a, t.tracker a = if a = n then readTracker (s.tracker n) word else s.tracker a)

/-- A frame that passes both tests in TRACKING (R61 to R64, R66, R69). The frames missed are counted in GAPS and widen the
allowed step. A step within it is accepted, its turn counted, the live span widened and a pass asked for, unless one is pending
or an axis-sure condition is; a turn that would leave the range makes the axis LOST with TURN_LIMIT; a step beyond it is a jump,
and at the jump limit the axis is LOST with JUMPS. The clock that counts moments, which the operand of the event raises by one
or keeps, is the model's choice (log entry 2). -/
def Obligations.FramesTrackTheAxis : Prop :=
  ∀ (s : State) (n : Axis) (bits : Nat) (word : BitVec 32) (m : Moment) (last : BitVec 4) (q : ExtPos) (live : Span),
    Good s → Judged s n false → Passes bits word → (s.tracker n).state = .tracking → (s.tracker n).sequence = some last →
    (s.tracker n).position = some q → (s.tracker n).live = some live →
    let c := s.axisConfig n
    let angle := angleOf c word
    let missed := framesMissed last (sequenceOf word)
    let k := withGaps (readTracker (s.tracker n) word) missed
    let turn := turnAfter q.turn k.lastAngle angle
    let x : ExtPos := ⟨BitVec.ofInt 12 turn, angle⟩
    ∃ t, exec (.sampleFrame n bits word false m) s = .next t ∧ OnlyTracking s t ∧ t.now = momentOf s m ∧
      ((stepTo k.lastAngle angle).natAbs ≤ min (c.maxStep.toNat * (missed + 1)) 32767 →
        (-2048 ≤ turn → turn ≤ 2047 →
          Raised s t (warning word) ∧ t.conditions = s.conditions ∧
          (∀ a, t.pendingPass a =
            if a = n ∧ ∀ d ∈ s.pendingConditions n, d.kind ≠ .sure then some ((s.pendingPass n).getD t.now)
            else s.pendingPass a) ∧
          ∀ a, t.tracker a =
            if a = n then
              withAccepted { k with
                position := some x, lastAngle := angle, sequence := some (sequenceOf word)
                live := some
                  ⟨if x.counts < live.lowest.counts then x else live.lowest,
                   if live.highest.counts < x.counts then x else live.highest⟩
                jumpRun := 0, timer := timerFrom c t.now }
            else s.tracker a) ∧
        (turn < -2048 ∨ 2047 < turn →
          Raised s t (warning word ||| Flag.axisLost.mask) ∧ t.passes = s.passes ∧
          Departs s t n (lostTracker s n k .turnLimit))) ∧
      (min (c.maxStep.toNat * (missed + 1)) 32767 < (stepTo k.lastAngle angle).natAbs →
        t.passes = s.passes ∧
        (k.jumpRun.toNat + 1 < c.jumpLimit.toNat →
          Raised s t (warning word) ∧ t.conditions = s.conditions ∧
          ∀ a, t.tracker a = if a = n then withJump { k with jumpRun := k.jumpRun + 1 } else s.tracker a) ∧
        (c.jumpLimit.toNat ≤ k.jumpRun.toNat + 1 →
          Raised s t (warning word ||| Flag.axisLost.mask) ∧
          Departs s t n (lostTracker s n (withJump { k with jumpRun := k.jumpRun + 1 }) .jumps)))

/-- A frame that passes both tests in STALE decides (R68, R80): within the allowed step the axis is TRACKING and sure again from
the single new position, and an axis-sure condition is posted; a turn that would leave the range makes it LOST with TURN_LIMIT,
and a step beyond the allowed one with SLIP. A LOST entry from STALE posts nothing (R69). The clock that counts moments, which
the operand of the event raises by one or keeps, is the model's choice (log entry 2). -/
def Obligations.FramesRecoverOrLoseTheAxis : Prop :=
  ∀ (s : State) (n : Axis) (bits : Nat) (word : BitVec 32) (m : Moment) (last : BitVec 4) (q : ExtPos),
    Good s → Judged s n false → Passes bits word → (s.tracker n).state = .stale → (s.tracker n).sequence = some last →
    (s.tracker n).position = some q →
    let c := s.axisConfig n
    let angle := angleOf c word
    let missed := framesMissed last (sequenceOf word)
    let k := withGaps (readTracker (s.tracker n) word) missed
    let turn := turnAfter q.turn k.lastAngle angle
    let x : ExtPos := ⟨BitVec.ofInt 12 turn, angle⟩
    ∃ t, exec (.sampleFrame n bits word false m) s = .next t ∧ OnlyTracking s t ∧ t.passes = s.passes ∧
      t.now = momentOf s m ∧
      ((stepTo k.lastAngle angle).natAbs ≤ min (c.maxStep.toNat * (missed + 1)) 32767 →
        (-2048 ≤ turn → turn ≤ 2047 →
          Raised s t (warning word) ∧ Posted s t n .sure ∧
          ∀ a, t.tracker a =
            if a = n then
              withAccepted { k with
                state := .tracking, position := some x, lastAngle := angle, sequence := some (sequenceOf word)
                live := some ⟨x, x⟩, held := if withdraws s n then none else k.held, sure := true, jumpRun := 0
                timer := timerFrom c t.now }
            else s.tracker a) ∧
        (turn < -2048 ∨ 2047 < turn →
          Raised s t (warning word ||| Flag.axisLost.mask) ∧ Departs s t n (lostTracker s n k .turnLimit))) ∧
      (min (c.maxStep.toNat * (missed + 1)) 32767 < (stepTo k.lastAngle angle).natAbs →
        Raised s t (warning word ||| Flag.axisLost.mask) ∧ Departs s t n (lostTracker s n (withJump k) .slip))

/-- STALENESS_EXPIRY (R66, R67, R69): in TRACKING, a timer that runs out makes the axis STALE: its position is kept, its live
span moves to the held span, an axis-unsure condition is posted and AXIS_STALE is raised in both fault copies. The clock that
counts moments, which the operand of the event raises by one or keeps, is the model's choice (log entry 2). -/
def Obligations.StalenessMakesTheAxisStale : Prop :=
  ∀ (s : State) (n : Axis) (m : Moment), Good s → s.device = .running → s.held = false →
    (s.tracker n).state = .tracking → (s.tracker n).timer ≠ none →
    ∃ t, exec (.stalenessExpiry n m) s = .next t ∧ Raised s t Flag.axisStale.mask ∧ OnlyTracking s t ∧
      t.now = momentOf s m ∧ t.passes = s.passes ∧
      Departs s t n { s.tracker n with
        state := .stale, held := heldOnLeaving s n, live := none, sure := false, timer := none }

/-- PASS (R82 to R90, R96, R98). The pass receives the tracker's held span, or else its live span, which is then reset to the
position. Every LIVE, armed zone of the axis that is not TRIPPED is judged on it: its occupancy, its dwell timer and its
transits become what the gathered table gives. What trips is enqueued in ascending slot order, the notices are sent, the lines
of the zones that moved are recomputed, and no other zone changes. That the grant is a moment of its own, by which the clock is
raised by one, is the model's choice (log entry 2). -/
def Obligations.PassJudgesTheZones : Prop :=
  ∀ (s : State) (n : Axis), Good s → EvaluatorDue s (.pass n) →
    ∃ t, exec (.pass n) s = .next t ∧ Evaluated s t ∧ t.now = s.now + 1 ∧ SameLists s t ∧ SameConditions s t ∧
      (∀ m, t.pendingPass m = if m = n then none else s.pendingPass m) ∧
      (∀ x, passSpan (s.tracker n) = some x →
        (∀ m, t.tracker m =
          if m = n ∧ (s.tracker n).held = none ∧ (s.tracker n).live ≠ none then
            { s.tracker n with live := some ⟨x.final, x.final⟩ }
          else s.tracker m) ∧
        ZonesBecome s t n (passedZone · x) ∧
        (∀ i, t.dwell i =
          match s.zone i with
          | some z =>
            if z.axis = n ∧ z.armed = true ∧ z.occupancy ≠ .tripped then passedTimer z x t.now (s.dwell i) else s.dwell i
          | none => s.dwell i) ∧
        Enqueued (trippedItems s t) s t ∧
        Gained s t (fun q j => movedCauses s t q j |||
          match s.zone j with
          | some z =>
            if z.axis = n ∧ z.armed = true ∧ z.occupancy ≠ .tripped ∧ passTransit z x = true then
              causeOf s j .transit bothPorts (some [z.owner]) q j
            else 0
          | none => 0) ∧
        Recomputed s t (movedLines s t)) ∧
      (passSpan (s.tracker n) = none →
        t.trackers = s.trackers ∧ t.slots = s.slots ∧ t.dwells = s.dwells ∧ t.lines = s.lines ∧
        Enqueued [] s t ∧ Gained s t nothing)

/-- DWELL_TIMER_EXPIRY (R81): a dwell timer that runs out becomes expired, dated with the moment, and waits for its grant; and
DWELL_EXPIRY (R91): in its grant the QUALIFYING zone becomes INSIDE or, as a LATCH zone, TRIPPED; the timer ends. The clock that
counts moments, and the operand that says whether an event falls at a moment of its own, which a grant always does, are the
model's choice (log entry 2). -/
def Obligations.DwellCompletesTheEntry : Prop :=
  (∀ (s : State) (i : SlotNo) (m : Moment) (d : DwellTimer), s.device = .running → s.held = false →
    s.dwell i = some d → d.expired = none →
    ∃ t, exec (.dwellTimerExpiry i m) s = .next t ∧ DwellBecomes s t i (some { d with expired := some t.now }) ∧
      t.now = momentOf s m ∧
      SameDevice s t ∧ SameTable s t ∧ SameConditions s t ∧ t.passes = s.passes ∧ SameConfig s t ∧ SameArbiter s t ∧
      t.trackers = s.trackers ∧ t.lines = s.lines ∧ t.ports = s.ports ∧ SameStore s t) ∧
  (∀ (s : State) (i : SlotNo), Good s → EvaluatorDue s (.expiry i) →
    ∃ t z, exec (.dwellExpiry i) s = .next t ∧ Evaluated s t ∧ t.now = s.now + 1 ∧ s.zone i = some z ∧ z.occupancy = .qualifying ∧
      let y := zoneAt z (match z.action with
        | .follow => .inside
        | .latch => .tripped)
      SlotBecomes s t i (.live y) ∧ SameLists s t ∧ SameConditions s t ∧ t.passes = s.passes ∧ DwellBecomes s t i none ∧
      t.trackers = s.trackers ∧ Enqueued (if z.action = .latch then itemsOf i z.persistent else []) s t ∧
      Gained s t (occupancyCause s i z y (decide (z.action = .latch))) ∧ Recomputed s t z.line.toList)

/-- AXIS_UNSURE (R93, R94) and AXIS_SURE (R95). The axis's "position available" copy is cleared or set, and every LIVE, armed
zone of the axis that is not TRIPPED takes what its stale policy gives, or becomes UNKNOWN, and loses its dwell timer. The held
span of the departure is discarded at an axis-unsure condition, and a pass becomes pending at an axis-sure one. That the grant
is a moment of its own, by which the clock is raised by one, is the model's choice (log entry 2). -/
def Obligations.AxisConditionsSettleTheZones : Prop :=
  ∀ (s : State) (n : Axis) (k : ConditionKind), Good s → EvaluatorDue s (.condition n k) →
    let f : Zone → Zone := fun z =>
      zoneAt z (match k with
        | .unsure => unsureOccupancy z
        | .sure => .unknown)
    let e : Instr := match k with
      | .unsure => .axisUnsure n
      | .sure => .axisSure n
    ∃ t, exec e s = .next t ∧ Evaluated s t ∧ t.now = s.now + 1 ∧ SameLists s t ∧
      (∀ m : Axis, t.available[m] = if m = n then decide (k = .sure) else s.available[m]) ∧
      (∀ m, t.pendingConditions m = if m = n then (s.pendingConditions n).tail else s.pendingConditions m) ∧
      PassAsked s t n (decide (k = .sure)) ∧
      (∀ m, t.tracker m = if m = n ∧ k = .unsure then { s.tracker n with held := none } else s.tracker m) ∧
      ZonesBecome s t n f ∧
      (∀ i, t.dwell i =
        match s.zone i with
        | some z => if z.axis = n ∧ z.armed = true ∧ z.occupancy ≠ .tripped then none else s.dwell i
        | none => s.dwell i) ∧
      Enqueued (trippedItems s t) s t ∧ Gained s t (movedCauses s t) ∧ Recomputed s t (movedLines s t)

/-- STORE_GRANT (R119, R122, R123, R125, R128, R131, R132): the engine receives the in-flight item's content as the table holds
it, chooses the target copy and programs its row with the next generation as soon as the array is free; a QUARANTINED slot's
commit is cancelled, and one of an item with both copies WORN is dropped and counted, and the engine goes on with its queue. No
zone, notice or line changes. The model's choices here: copy 0 is the target where both copies are VALID and none is the newest,
which no run reaches (log entry 19), and a row that is being programmed is held as UNCORRECTABLE (log entry 7); and a drop is
counted by R131 whatever the count, 103 included, which is the end of its range in the chapter's opening table (log entry 27).
-/
def Obligations.StoreGrantBeginsTheCommit : Prop :=
  ∀ (s : State) (k : ItemNo) (m : Marks), Good s → nextClass s = some .store → s.engine = .claiming k m →
    ∃ t, exec .storeGrant s = .next t ∧ EngineLeaves s t ∧ t.pointer = .store ∧ t.running = none ∧
      t.copyMap = s.copyMap ∧ t.wornRows = s.wornRows ∧ t.committedFreeze = s.committedFreeze ∧ t.sweep = s.sweep ∧
      (contentAt s k = none →
        t.rows = s.rows ∧ t.array = s.array ∧ CommitEnded t s.queue ∧
        ∀ p, t.port p = syncedPort (s.port p) (unmarked s.queue p) (s.port p).sync.dropped) ∧
      (contentAt s k ≠ none → (s.item k).copies[0] = .worn → (s.item k).copies[1] = .worn →
        t.rows = s.rows ∧ t.array = s.array ∧ CommitEnded t s.queue ∧
        ∀ p, t.port p = syncedPort (s.port p) (unmarked s.queue p) (droppedAfter s p m)) ∧
      (∀ content c, contentAt s k = some content → Targets (s.item k) c →
        let g : Byte := ((s.item k).generation.map (· + 1)).getD 1
        let x : Program := ⟨k, m, encodeImage k g content, c, g⟩
        t.engine = .programming x ∧ t.queue = s.queue ∧ t.ports = s.ports ∧
        (s.array = .free → ProgramBegun s t x) ∧ (s.array ≠ .free → t.array = s.array ∧ t.rows = s.rows))

/-- PROGRAM_VERIFY (R116, R118, R126 to R128, R131, R132, R135). A verify that passes commits: the copy is VALID and the newest,
the row holds the image, and a FREEZE item's level is the committed one. A first failure makes the copy BAD and programs it
again at once; a second makes it WORN: the item goes back to the queue, or is dropped and counted where both copies are WORN.
STORE_WRITE_FAULT is raised at each failure, and STORE_EXHAUSTED where its condition becomes true. The row of a WORN copy is
worn, and every program into a worn row fails, so that after a full reset the repair of such a row fails twice and makes its
copy WORN again (R117, R138): the spec says so, and that the operand of the verify does not count there is the model's way to
say it (log entry 22). That the row stays as it is held between the two attempts, and that the row of a program which begins is
held as UNCORRECTABLE, is the model's choice (log entry 7); and so is that a drop is counted by R131 whatever the count, 103
included, which is the end of its range in the chapter's opening table (log entry 27). -/
def Obligations.VerifyEndsTheProgram : Prop :=
  ∀ (s : State) (r : VerifyRead) (x : Program), Good s → s.array = .program → programOf s.engine = some x →
    let passes := decide (r = .asWritten ∨ r = .reads (.clean x.image)) && !s.worn (programRow x)
    let e := s.item x.item
    ∃ t, exec (.programVerify r) s = .next t ∧ EngineLeaves s t ∧ SameArbiter s t ∧
      (∀ y, t.worn y = (s.worn y || (decide (y = programRow x) && !passes && s.engine.isRetrying))) ∧
      (passes = true →
        ArrayTurnsTo none s.sweep (fun y => if y = programRow x then .clean x.image else s.row y) t ∧
        (∀ j, t.item j =
          if j = x.item then ⟨e.copies.set x.target .valid, some x.target, some x.generation⟩ else s.item j) ∧
        t.committedFreeze = (match decodeImage x.item x.image with
          | some (.freeze l) => some l
          | _ => s.committedFreeze) ∧
        CommitEnded t s.queue ∧
        ∀ p, t.port p = syncedPort (s.port p) (unmarked s.queue p) (s.port p).sync.dropped) ∧
      (passes = false → s.engine = .programming x →
        t.engine = .retrying x ∧ t.queue = s.queue ∧ t.array = .program ∧ t.rows = s.rows ∧ t.sweep = s.sweep ∧
        t.committedFreeze = s.committedFreeze ∧
        (∀ j, t.item j = if j = x.item then failedEntry e x.target .bad else s.item j) ∧
        Raised s t Flag.storeWriteFault.mask) ∧
      (passes = false → s.engine = .retrying x →
        ArrayTurnsTo none s.sweep (fun y => if y = programRow x then .uncorrectable else s.row y) t ∧
        (∀ j, t.item j = if j = x.item then failedEntry e x.target .worn else s.item j) ∧
        t.committedFreeze = s.committedFreeze ∧
        (e.copies[1 - x.target] ≠ .worn →
          CommitEnded t (requeued s.queue x.item x.marks) ∧
          ∀ p, t.port p =
            { syncedPort (s.port p) (unmarked (requeued s.queue x.item x.marks) p) (s.port p).sync.dropped with
              faults := (s.port p).faults ||| Flag.storeWriteFault.mask }) ∧
        (e.copies[1 - x.target] = .worn →
          CommitEnded t s.queue ∧
          ∀ p, t.port p =
            { syncedPort (s.port p) (unmarked s.queue p) (droppedAfter s p x.marks) with
              faults := (s.port p).faults ||| Flag.storeWriteFault.mask |||
                (if ∃ j, ∀ c : Copy, (s.item j).copies[c] = .worn then 0 else Flag.storeExhausted.mask) }))

/-- SWEEP_READ (R115, R135, R136, R153 to R156): the read in the array completes. Unless its sweep was stopped meanwhile, the
row is judged by what it reads as and by its copy's state: a fault is counted, raises its flag, fills the first-fault record
where it is the first, and, in a copy that is not WORN, marks the copy BAD and enqueues the item; the sweep goes on to the
next row or ends. The array turns to a program that waits, or to the next read. What a row that decays from the erased
pattern reads as, and the number of a pass beyond 65535, are free values (log entries 6 and 21). The model's choices here: the
bit errors that the read finds are its operand and stay in the row (log entry 5); a row that fails the sweep under
stop-on-fault counts as read, and the passes completed stay (log entry 13); and the row of a program that begins is held as
UNCORRECTABLE (log entry 7). -/
def Obligations.SweepReadJudgesTheRow : Prop :=
  ∀ (s : State) (d : Decay) (r : RowNo) (judged : Bool), Good s → s.array = .sweepRead r judged →
    let row := decayedRow (s.row r) d
    let rows := fun y => if y = r then row else s.row y
    let k := itemOfRow r
    let e := s.item k
    let fault := sweepFault k e.copies[copyOfRow r] row
    ∃ t, exec (.sweepRead d) s = .next t ∧ EngineLeaves s t ∧ SameArbiter s t ∧ t.committedFreeze = s.committedFreeze ∧
      t.wornRows = s.wornRows ∧
      (judged = false →
        ArrayTurnsTo (programOf s.engine) s.sweep rows t ∧ t.copyMap = s.copyMap ∧ t.ports = s.ports ∧
        Enqueued [] s t) ∧
      (judged = true →
        ArrayTurnsTo (programOf s.engine) (sweptRow s.sweep r fault) rows t ∧
        (∀ j, t.item j =
          if j = k ∧ fault.isSome = true ∧ e.copies[copyOfRow r] ≠ .worn then
            { e with copies := e.copies.set (copyOfRow r) .bad }
          else s.item j) ∧
        Raised s t (match fault with
          | none => 0
          | some (false, _) => Flag.storeCorrected.mask
          | some (true, _) => Flag.storeUncorrectable.mask) ∧
        Enqueued (if fault.isSome = true ∧ e.copies[copyOfRow r] ≠ .worn then [k] else []) s t)

/-- R84 and R85, with the angle sets of R4. For a zone whose bounds meet their condition: a position is within between the
bounds of an ABSOLUTE zone, and where its angle is one of the angles from start forward to end for a PERIODIC zone; it is
held within the bounds widened by hysteresis counts either way; with hysteresis 0 held is within, and within is always held.
A span touches an ABSOLUTE zone where they overlap, and a PERIODIC zone where the span is a whole revolution or an angle of
its arc lies in the zone's set; and a zone that the final position is within is touched by every span that holds the
position. -/
def Obligations.ZoneTestsJudgeByCounts : Prop :=
  (∀ (lower upper f : ExtPos) (h : BitVec 12), boundsOk (.absolute lower upper) h = true →
    (Bounds.contains (.absolute lower upper) f = true ↔ lower.counts ≤ f.counts ∧ f.counts ≤ upper.counts) ∧
    (Bounds.holds (.absolute lower upper) h f = true ↔
      max (lower.counts - h.toNat) (-2048 * 65536) ≤ f.counts ∧
      f.counts ≤ min (upper.counts + h.toNat) (2047 * 65536 + 65535))) ∧
  (∀ (start stop : Angle) (f : ExtPos) (h : BitVec 12), boundsOk (.periodic start stop) h = true →
    (Bounds.contains (.periodic start stop) f = true ↔
      ∃ i, i ≤ (stop - start).toNat ∧ f.angle = start + BitVec.ofNat 16 i) ∧
    (Bounds.holds (.periodic start stop) h f = true ↔
      ∃ i, i ≤ (stop - start).toNat + 2 * h.toNat ∧ f.angle = start - h.setWidth 16 + BitVec.ofNat 16 i)) ∧
  (∀ (b : Bounds) (f : ExtPos), b.holds 0 f = b.contains f) ∧
  (∀ (b : Bounds) (h : BitVec 12) (f : ExtPos), boundsOk b h = true → b.contains f = true → b.holds h f = true) ∧
  (∀ (lower upper : ExtPos) (x : Span), Bounds.touched (.absolute lower upper) x = true ↔
    x.lowest.counts ≤ upper.counts ∧ lower.counts ≤ x.highest.counts) ∧
  (∀ (start stop : Angle) (x : Span), x.lowest.counts ≤ x.highest.counts →
    (Bounds.touched (.periodic start stop) x = true ↔
      65536 ≤ x.highest.counts - x.lowest.counts ∨
      ∃ k : Nat, (k : Int) ≤ x.highest.counts - x.lowest.counts ∧
        Bounds.contains (.periodic start stop) ⟨0, x.lowest.angle + BitVec.ofNat 16 k⟩ = true)) ∧
  (∀ (b : Bounds) (x : Span) (f : ExtPos), x.lowest.counts ≤ f.counts → f.counts ≤ x.highest.counts →
    b.contains f = true → b.touched x = true)

/-- R102, of every line of a part that is RUNNING. The driving handle is that of the zone in the line's driving set (R100) with
the highest priority, and of those that share it the one with the lowest slot number; the count is the number of zones in
the set; an empty set has no driving handle and the count 0; and the pin depends on whether the set is empty alone (R101). -/
def Obligations.LinesReportTheirDrivingSet : Prop :=
  ∀ (s : State) (l : LineNo), LinesOk s → s.device = .running →
    let inSet : SlotNo → Zone → Prop := fun i z =>
      s.zone i = some z ∧ z.line = some l ∧ (z.occupancy = .inside ∨ z.occupancy = .tripped)
    (∀ h, (s.line l).driving = some h ↔ ∃ z, inSet h.slot z ∧ h.incarnation = z.incarnation ∧
      ∀ j y, inSet j y → y.priority < z.priority ∨ (y.priority = z.priority ∧ h.slot ≤ j)) ∧
    ((s.line l).driving = none ↔ ∀ j y, ¬inSet j y) ∧
    (∃ slots : List SlotNo, slots.Nodup ∧ (∀ i, i ∈ slots ↔ ∃ z, inSet i z) ∧ (s.line l).count = slots.length ∧
      (s.line l).count ≤ 96) ∧
    ((s.line l).active = true ↔ s.lineConfig[l].enabled = true ∧ ∃ j y, inSet j y) ∧
    (s.line l).pin = (match s.lineConfig[l].polarity, (s.line l).active with
      | .activeHigh, true => .high
      | .activeHigh, false => .low
      | .activeLow, true => .low
      | .activeLow, false => .high)

/-- The attention lines (R113, R114) and the status byte (R169, 11.1). A port's line is active for a response that waits, where
attention on DONE is set; for a change set that is not empty, where the subscription is not NONE; and for a fault flag that
its mask names; by the defaults of the PORTS record while the device is STARTING. The status byte's bits say the device
state, the slot's state, the last frame's fate, and whether there are changes, faults and attention. -/
def Obligations.AttentionAndTheStatusByte : Prop :=
  ∀ (s : State) (p : Port),
    let c : PortConfig := match s.device with
      | .starting => ⟨.own, BitVec.allOnes 11, true⟩
      | .running => s.portConfig.get p
    (attention s p = true ↔
      ((∃ r, (s.port p).slot = .done r) ∧ c.attentionOnDone = true) ∨
      ((∃ i : SlotNo, (s.port p).changes[i] ≠ 0) ∧ c.subscription ≠ .none) ∨
      ∃ i : Fin 11, (s.port p).faults.getLsbD i = true ∧ c.mask.getLsbD i = true) ∧
    ((statusByte s p).getLsbD 7 = true ↔ s.device = .starting) ∧
    (statusByte s p).extractLsb' 5 2 = (match (s.port p).slot with
      | .empty => 0
      | .queued _ _ _ => 1
      | .waiting _ => 2
      | .done _ => 3) ∧
    (statusByte s p).extractLsb' 3 2 = (match (s.port p).lastFrame with
      | .none => 0
      | .accepted => 1
      | .refusedBusy => 2
      | .refusedFormat => 3) ∧
    ((statusByte s p).getLsbD 2 = true ↔ ∃ i : SlotNo, (s.port p).changes[i] ≠ 0) ∧
    ((statusByte s p).getLsbD 1 = true ↔ (s.port p).faults ≠ 0) ∧
    (statusByte s p).getLsbD 0 = attention s p

/-- Every step keeps the zones and the dwell timers as the rules let them be: incarnations, bounds, trip marks and occupancies
(R2, R4, R5, R7, R77), and a dwell timer held exactly by a QUALIFYING zone (R90, R92). -/
def Obligations.StepsKeepTheZones : Prop :=
  ∀ s t : State, Good s → step s = .next t → ZonesOk t ∧ DwellsOk t

/-- Every step keeps the lists exact and in order (R8, R9), the LIVE zones exclusive (R10), and every line as its driving set
gives it (R99, R101 to R103). -/
def Obligations.StepsKeepTheTableAndTheLines : Prop :=
  ∀ s t : State, Good s → step s = .next t → TableOk t ∧ LinesOk t

/-- Every step keeps the trackers' records consistent with their state (R65 to R71), the conditions of each axis in alternation
from the table's copy to the tracker's view (R69, R80), passes pending only on axes with a position (R79), the AXIS records
in their ranges (R158), and a part that is STARTING at rest (R14, R78, R139, R140). -/
def Obligations.StepsKeepTheAxesAndTheDevice : Prop :=
  ∀ s t : State, Good s → step s = .next t → AxesOk t ∧ RangesOk t ∧ DeviceOk t

/-- Every step keeps the record store consistent: each item queued at most once, the engine and the array agreed on the program
in hand, the row of every WORN copy worn and reading UNCORRECTABLE, the sweep agreed with the array on its read, and a SYNC
waiting exactly while a mark of its port remains (R117, R120, R122, R128, R130 to R133, R135, R153, R156). That a row is worn
beyond the full reset that discards the copy map is the model's way to keep R117 and R138 (log entry 22). -/
def Obligations.StepsKeepTheStore : Prop :=
  ∀ s t : State, Good s → step s = .next t → StoreOk t ∧ WearOk t ∧ SweepOk t ∧ ∀ p, SyncOk t p

/-- While the device runs, a TRIPPED zone stays LIVE and TRIPPED until a CLEAR of it is granted (R97): nothing but that grant
and a full reset ends a trip. -/
def Obligations.TripsStayUntilCleared : Prop :=
  ∀ (s t : State) (i : SlotNo) (z : Zone), Good s → s.device = .running → step s = .next t →
    s.zone i = some z → z.occupancy = .tripped →
    (∃ y, t.zone i = some y ∧ y.incarnation = z.incarnation ∧ y.occupancy = .tripped) ∨
    t.device = .starting ∨
    ∃ p, s.pending.head? = some (.clear p) ∧ ClearGranted s p ⟨i, z.incarnation⟩

/-- What owners and freeze levels protect. The grant of a command to one port leaves a zone that belongs to the other port as it
is (R6). While the device runs with its freeze level at LAYOUT or FIXED, no step makes, ends or redefines a zone, and none
changes an AXIS or the LINES record; at FIXED none arms or disarms a zone; and no step lowers the level (R165 to R167). -/
def Obligations.OwnersAndFreezeLevelsProtect : Prop :=
  (∀ (s t : State) (p : Port) (c : TableCommand) (tag : Byte) (payload : List Byte) (i : SlotNo) (z : Zone),
    Good s → Due s p c tag payload → exec (grantOf p c) s = .next t → s.zone i = some z → z.owner = ownerOf p.other →
    t.slot i = s.slot i) ∧
  (∀ s t : State, Good s → s.device = .running → step s = .next t → t.device = .running →
    s.freezeLevel.rank ≤ t.freezeLevel.rank ∧
    (s.freezeLevel ≠ .opened →
      t.axes = s.axes ∧ t.lineConfig = s.lineConfig ∧
      ∀ i, (s.zone i = none → t.slot i = s.slot i) ∧
        ∀ z, s.zone i = some z → ∃ y, t.zone i = some y ∧ SameDefinition z y ∧
          (s.freezeLevel = .fixed → y.armed = z.armed)))

/-- Decode and encode agree on host frames (R168, R170, R171, R175, R186): the bytes of the transaction that a well-formed host
command is are judged, when CS rises, as that command, with every operand at every value a frame admits; a FETCH, whose
reading ends with any bit, is told by the whole bytes clocked after it. -/
def Obligations.HostFramesDecodeAsEncoded : Prop :=
  ∀ (c : Instr) (p : Port) (bytes : List Byte) (x : Circumstance), c.wf = true → transactionOf c = some (p, bytes, x) →
    (∀ p' tag clocked, c = .fetch p' tag (.ends clocked) → clocked % 8 = 0) →
    hostCommandOf p bytes x = some c

/-- Decode and encode agree on stored images (R187): the image of a proper content is 32 bytes long, carries its generation, and
is well formed for its item; it decodes to that content, a zone as the load restores it. -/
def Obligations.ImagesDecodeAsEncoded : Prop :=
  ∀ (k : ItemNo) (g : Byte) (c : Content), ProperContent k c →
    (encodeImage k g c).length = 32 ∧ imageGeneration (encodeImage k g c) = g ∧ imageWf k (encodeImage k g c) = true ∧
    decodeImage k (encodeImage k g c) = some (match c with
      | .live z => .live (restored z)
      | c => c)
end

