-- ==== Sys2Proof/Laws/State.lean ====
section
/-! SUPPORT. Sys2Proof/Laws/State.lean: one lemma per field and per read for each update of State, so that no proof unfolds
a record update. -/

namespace Sys2Proof.Machine

/-! ### Pairs and marks of the two ports -/

@[simp] theorem PerPort.get_set_same {α : Type} (x : PerPort α) (p : Port) (v : α) : (x.set p v).get p = v := by
  cases p <;> rfl
theorem PerPort.get_set {α : Type} (x : PerPort α) (p q : Port) (v : α) :
    (x.set p v).get q = if q = p then v else x.get q := by
  cases p <;> cases q <;> rfl
@[simp] theorem PerPort.get_set_other {α : Type} (x : PerPort α) (p : Port) (v : α) :
    (x.set p v).get p.other = x.get p.other := by
  cases p <;> rfl
@[simp] theorem PerPort.set_set {α : Type} (x : PerPort α) (p : Port) (v w : α) : (x.set p v).set p w = x.set p w := by
  cases p <;> rfl
@[simp] theorem PerPort.set_get {α : Type} (x : PerPort α) (p : Port) : x.set p (x.get p) = x := by
  cases p <;> rfl
@[simp] theorem Marks.get_set_same (m : Marks) (p : Port) (v : Bool) : (m.set p v).get p = v := by
  cases p <;> rfl
@[simp] theorem Marks.get_set_other (m : Marks) (p : Port) (v : Bool) : (m.set p v).get p.other = m.get p.other := by
  cases p <;> rfl
@[simp] theorem Marks.get_clear (p : Port) : Marks.clear.get p = false := by
  cases p <;> rfl
@[simp] theorem Marks.get_union (m n : Marks) (p : Port) : (m.union n).get p = (m.get p || n.get p) := by
  cases p <;> rfl
@[simp] theorem Port.other_other (p : Port) : p.other.other = p := by
  cases p <;> rfl
theorem Port.other_ne (p : Port) : p.other ≠ p := by
  cases p <;> decide

namespace State

/-! ### setPending -/

@[simp] theorem setPending_pending (s : State) (v : List Instr) : (s.setPending v).pending = v := rfl
@[simp] theorem setPending_now (s : State) (v : List Instr) : (s.setPending v).now = s.now := rfl
@[simp] theorem setPending_device (s : State) (v : List Instr) : (s.setPending v).device = s.device := rfl
@[simp] theorem setPending_supplyValid (s : State) (v : List Instr) : (s.setPending v).supplyValid = s.supplyValid := rfl
@[simp] theorem setPending_resetN (s : State) (v : List Instr) : (s.setPending v).resetN = s.resetN := rfl
@[simp] theorem setPending_load (s : State) (v : List Instr) : (s.setPending v).load = s.load := rfl
@[simp] theorem setPending_slots (s : State) (v : List Instr) : (s.setPending v).slots = s.slots := rfl
@[simp] theorem setPending_absolute (s : State) (v : List Instr) : (s.setPending v).absolute = s.absolute := rfl
@[simp] theorem setPending_periodic (s : State) (v : List Instr) : (s.setPending v).periodic = s.periodic := rfl
@[simp] theorem setPending_available (s : State) (v : List Instr) : (s.setPending v).available = s.available := rfl
@[simp] theorem setPending_axes (s : State) (v : List Instr) : (s.setPending v).axes = s.axes := rfl
@[simp] theorem setPending_lineConfig (s : State) (v : List Instr) : (s.setPending v).lineConfig = s.lineConfig := rfl
@[simp] theorem setPending_portConfig (s : State) (v : List Instr) : (s.setPending v).portConfig = s.portConfig := rfl
@[simp] theorem setPending_freezeLevel (s : State) (v : List Instr) : (s.setPending v).freezeLevel = s.freezeLevel := rfl
@[simp] theorem setPending_pointer (s : State) (v : List Instr) : (s.setPending v).pointer = s.pointer := rfl
@[simp] theorem setPending_running (s : State) (v : List Instr) : (s.setPending v).running = s.running := rfl
@[simp] theorem setPending_passes (s : State) (v : List Instr) : (s.setPending v).passes = s.passes := rfl
@[simp] theorem setPending_conditions (s : State) (v : List Instr) : (s.setPending v).conditions = s.conditions := rfl
@[simp] theorem setPending_dwells (s : State) (v : List Instr) : (s.setPending v).dwells = s.dwells := rfl
@[simp] theorem setPending_trackers (s : State) (v : List Instr) : (s.setPending v).trackers = s.trackers := rfl
@[simp] theorem setPending_lines (s : State) (v : List Instr) : (s.setPending v).lines = s.lines := rfl
@[simp] theorem setPending_ports (s : State) (v : List Instr) : (s.setPending v).ports = s.ports := rfl
@[simp] theorem setPending_rows (s : State) (v : List Instr) : (s.setPending v).rows = s.rows := rfl
@[simp] theorem setPending_wornRows (s : State) (v : List Instr) : (s.setPending v).wornRows = s.wornRows := rfl
@[simp] theorem setPending_copyMap (s : State) (v : List Instr) : (s.setPending v).copyMap = s.copyMap := rfl
@[simp] theorem setPending_queue (s : State) (v : List Instr) : (s.setPending v).queue = s.queue := rfl
@[simp] theorem setPending_engine (s : State) (v : List Instr) : (s.setPending v).engine = s.engine := rfl
@[simp] theorem setPending_array (s : State) (v : List Instr) : (s.setPending v).array = s.array := rfl
@[simp] theorem setPending_committedFreeze (s : State) (v : List Instr) : (s.setPending v).committedFreeze = s.committedFreeze := rfl
@[simp] theorem setPending_sweep (s : State) (v : List Instr) : (s.setPending v).sweep = s.sweep := rfl
@[simp] theorem setPending_get_held (s : State) (v : List Instr) :
    (s.setPending v).held = s.held := rfl
@[simp] theorem setPending_get_inService (s : State) (v : List Instr) :
    (s.setPending v).inService = s.inService := rfl
@[simp] theorem setPending_get_slot (s : State) (v : List Instr) (j : SlotNo) :
    (s.setPending v).slot j = s.slot j := rfl
@[simp] theorem setPending_get_zone (s : State) (v : List Instr) (j : SlotNo) :
    (s.setPending v).zone j = s.zone j := rfl
@[simp] theorem setPending_get_zoneList (s : State) (v : List Instr) (m : Axis) (d : Kind) :
    (s.setPending v).zoneList m d = s.zoneList m d := rfl
@[simp] theorem setPending_get_tracker (s : State) (v : List Instr) (m : Axis) :
    (s.setPending v).tracker m = s.tracker m := rfl
@[simp] theorem setPending_get_axisConfig (s : State) (v : List Instr) (m : Axis) :
    (s.setPending v).axisConfig m = s.axisConfig m := rfl
@[simp] theorem setPending_get_pendingPass (s : State) (v : List Instr) (m : Axis) :
    (s.setPending v).pendingPass m = s.pendingPass m := rfl
@[simp] theorem setPending_get_pendingConditions (s : State) (v : List Instr) (m : Axis) :
    (s.setPending v).pendingConditions m = s.pendingConditions m := rfl
@[simp] theorem setPending_get_dwell (s : State) (v : List Instr) (j : SlotNo) :
    (s.setPending v).dwell j = s.dwell j := rfl
@[simp] theorem setPending_get_line (s : State) (v : List Instr) (m : LineNo) :
    (s.setPending v).line m = s.line m := rfl
@[simp] theorem setPending_get_port (s : State) (v : List Instr) (q : Port) :
    (s.setPending v).port q = s.port q := rfl
@[simp] theorem setPending_get_row (s : State) (v : List Instr) (q : RowNo) :
    (s.setPending v).row q = s.row q := rfl
@[simp] theorem setPending_get_worn (s : State) (v : List Instr) (q : RowNo) :
    (s.setPending v).worn q = s.worn q := rfl
@[simp] theorem setPending_get_item (s : State) (v : List Instr) (q : ItemNo) :
    (s.setPending v).item q = s.item q := rfl

/-! ### setNow -/

@[simp] theorem setNow_pending (s : State) (v : Nat) : (s.setNow v).pending = s.pending := rfl
@[simp] theorem setNow_now (s : State) (v : Nat) : (s.setNow v).now = v := rfl
@[simp] theorem setNow_device (s : State) (v : Nat) : (s.setNow v).device = s.device := rfl
@[simp] theorem setNow_supplyValid (s : State) (v : Nat) : (s.setNow v).supplyValid = s.supplyValid := rfl
@[simp] theorem setNow_resetN (s : State) (v : Nat) : (s.setNow v).resetN = s.resetN := rfl
@[simp] theorem setNow_load (s : State) (v : Nat) : (s.setNow v).load = s.load := rfl
@[simp] theorem setNow_slots (s : State) (v : Nat) : (s.setNow v).slots = s.slots := rfl
@[simp] theorem setNow_absolute (s : State) (v : Nat) : (s.setNow v).absolute = s.absolute := rfl
@[simp] theorem setNow_periodic (s : State) (v : Nat) : (s.setNow v).periodic = s.periodic := rfl
@[simp] theorem setNow_available (s : State) (v : Nat) : (s.setNow v).available = s.available := rfl
@[simp] theorem setNow_axes (s : State) (v : Nat) : (s.setNow v).axes = s.axes := rfl
@[simp] theorem setNow_lineConfig (s : State) (v : Nat) : (s.setNow v).lineConfig = s.lineConfig := rfl
@[simp] theorem setNow_portConfig (s : State) (v : Nat) : (s.setNow v).portConfig = s.portConfig := rfl
@[simp] theorem setNow_freezeLevel (s : State) (v : Nat) : (s.setNow v).freezeLevel = s.freezeLevel := rfl
@[simp] theorem setNow_pointer (s : State) (v : Nat) : (s.setNow v).pointer = s.pointer := rfl
@[simp] theorem setNow_running (s : State) (v : Nat) : (s.setNow v).running = s.running := rfl
@[simp] theorem setNow_passes (s : State) (v : Nat) : (s.setNow v).passes = s.passes := rfl
@[simp] theorem setNow_conditions (s : State) (v : Nat) : (s.setNow v).conditions = s.conditions := rfl
@[simp] theorem setNow_dwells (s : State) (v : Nat) : (s.setNow v).dwells = s.dwells := rfl
@[simp] theorem setNow_trackers (s : State) (v : Nat) : (s.setNow v).trackers = s.trackers := rfl
@[simp] theorem setNow_lines (s : State) (v : Nat) : (s.setNow v).lines = s.lines := rfl
@[simp] theorem setNow_ports (s : State) (v : Nat) : (s.setNow v).ports = s.ports := rfl
@[simp] theorem setNow_rows (s : State) (v : Nat) : (s.setNow v).rows = s.rows := rfl
@[simp] theorem setNow_wornRows (s : State) (v : Nat) : (s.setNow v).wornRows = s.wornRows := rfl
@[simp] theorem setNow_copyMap (s : State) (v : Nat) : (s.setNow v).copyMap = s.copyMap := rfl
@[simp] theorem setNow_queue (s : State) (v : Nat) : (s.setNow v).queue = s.queue := rfl
@[simp] theorem setNow_engine (s : State) (v : Nat) : (s.setNow v).engine = s.engine := rfl
@[simp] theorem setNow_array (s : State) (v : Nat) : (s.setNow v).array = s.array := rfl
@[simp] theorem setNow_committedFreeze (s : State) (v : Nat) : (s.setNow v).committedFreeze = s.committedFreeze := rfl
@[simp] theorem setNow_sweep (s : State) (v : Nat) : (s.setNow v).sweep = s.sweep := rfl
@[simp] theorem setNow_get_held (s : State) (v : Nat) :
    (s.setNow v).held = s.held := rfl
@[simp] theorem setNow_get_inService (s : State) (v : Nat) :
    (s.setNow v).inService = s.inService := rfl
@[simp] theorem setNow_get_slot (s : State) (v : Nat) (j : SlotNo) :
    (s.setNow v).slot j = s.slot j := rfl
@[simp] theorem setNow_get_zone (s : State) (v : Nat) (j : SlotNo) :
    (s.setNow v).zone j = s.zone j := rfl
@[simp] theorem setNow_get_zoneList (s : State) (v : Nat) (m : Axis) (d : Kind) :
    (s.setNow v).zoneList m d = s.zoneList m d := rfl
@[simp] theorem setNow_get_tracker (s : State) (v : Nat) (m : Axis) :
    (s.setNow v).tracker m = s.tracker m := rfl
@[simp] theorem setNow_get_axisConfig (s : State) (v : Nat) (m : Axis) :
    (s.setNow v).axisConfig m = s.axisConfig m := rfl
@[simp] theorem setNow_get_pendingPass (s : State) (v : Nat) (m : Axis) :
    (s.setNow v).pendingPass m = s.pendingPass m := rfl
@[simp] theorem setNow_get_pendingConditions (s : State) (v : Nat) (m : Axis) :
    (s.setNow v).pendingConditions m = s.pendingConditions m := rfl
@[simp] theorem setNow_get_dwell (s : State) (v : Nat) (j : SlotNo) :
    (s.setNow v).dwell j = s.dwell j := rfl
@[simp] theorem setNow_get_line (s : State) (v : Nat) (m : LineNo) :
    (s.setNow v).line m = s.line m := rfl
@[simp] theorem setNow_get_port (s : State) (v : Nat) (q : Port) :
    (s.setNow v).port q = s.port q := rfl
@[simp] theorem setNow_get_row (s : State) (v : Nat) (q : RowNo) :
    (s.setNow v).row q = s.row q := rfl
@[simp] theorem setNow_get_worn (s : State) (v : Nat) (q : RowNo) :
    (s.setNow v).worn q = s.worn q := rfl
@[simp] theorem setNow_get_item (s : State) (v : Nat) (q : ItemNo) :
    (s.setNow v).item q = s.item q := rfl

/-! ### setDevice -/

@[simp] theorem setDevice_pending (s : State) (v : DeviceState) : (s.setDevice v).pending = s.pending := rfl
@[simp] theorem setDevice_now (s : State) (v : DeviceState) : (s.setDevice v).now = s.now := rfl
@[simp] theorem setDevice_device (s : State) (v : DeviceState) : (s.setDevice v).device = v := rfl
@[simp] theorem setDevice_supplyValid (s : State) (v : DeviceState) : (s.setDevice v).supplyValid = s.supplyValid := rfl
@[simp] theorem setDevice_resetN (s : State) (v : DeviceState) : (s.setDevice v).resetN = s.resetN := rfl
@[simp] theorem setDevice_load (s : State) (v : DeviceState) : (s.setDevice v).load = s.load := rfl
@[simp] theorem setDevice_slots (s : State) (v : DeviceState) : (s.setDevice v).slots = s.slots := rfl
@[simp] theorem setDevice_absolute (s : State) (v : DeviceState) : (s.setDevice v).absolute = s.absolute := rfl
@[simp] theorem setDevice_periodic (s : State) (v : DeviceState) : (s.setDevice v).periodic = s.periodic := rfl
@[simp] theorem setDevice_available (s : State) (v : DeviceState) : (s.setDevice v).available = s.available := rfl
@[simp] theorem setDevice_axes (s : State) (v : DeviceState) : (s.setDevice v).axes = s.axes := rfl
@[simp] theorem setDevice_lineConfig (s : State) (v : DeviceState) : (s.setDevice v).lineConfig = s.lineConfig := rfl
@[simp] theorem setDevice_portConfig (s : State) (v : DeviceState) : (s.setDevice v).portConfig = s.portConfig := rfl
@[simp] theorem setDevice_freezeLevel (s : State) (v : DeviceState) : (s.setDevice v).freezeLevel = s.freezeLevel := rfl
@[simp] theorem setDevice_pointer (s : State) (v : DeviceState) : (s.setDevice v).pointer = s.pointer := rfl
@[simp] theorem setDevice_running (s : State) (v : DeviceState) : (s.setDevice v).running = s.running := rfl
@[simp] theorem setDevice_passes (s : State) (v : DeviceState) : (s.setDevice v).passes = s.passes := rfl
@[simp] theorem setDevice_conditions (s : State) (v : DeviceState) : (s.setDevice v).conditions = s.conditions := rfl
@[simp] theorem setDevice_dwells (s : State) (v : DeviceState) : (s.setDevice v).dwells = s.dwells := rfl
@[simp] theorem setDevice_trackers (s : State) (v : DeviceState) : (s.setDevice v).trackers = s.trackers := rfl
@[simp] theorem setDevice_lines (s : State) (v : DeviceState) : (s.setDevice v).lines = s.lines := rfl
@[simp] theorem setDevice_ports (s : State) (v : DeviceState) : (s.setDevice v).ports = s.ports := rfl
@[simp] theorem setDevice_rows (s : State) (v : DeviceState) : (s.setDevice v).rows = s.rows := rfl
@[simp] theorem setDevice_wornRows (s : State) (v : DeviceState) : (s.setDevice v).wornRows = s.wornRows := rfl
@[simp] theorem setDevice_copyMap (s : State) (v : DeviceState) : (s.setDevice v).copyMap = s.copyMap := rfl
@[simp] theorem setDevice_queue (s : State) (v : DeviceState) : (s.setDevice v).queue = s.queue := rfl
@[simp] theorem setDevice_engine (s : State) (v : DeviceState) : (s.setDevice v).engine = s.engine := rfl
@[simp] theorem setDevice_array (s : State) (v : DeviceState) : (s.setDevice v).array = s.array := rfl
@[simp] theorem setDevice_committedFreeze (s : State) (v : DeviceState) : (s.setDevice v).committedFreeze = s.committedFreeze := rfl
@[simp] theorem setDevice_sweep (s : State) (v : DeviceState) : (s.setDevice v).sweep = s.sweep := rfl
@[simp] theorem setDevice_get_held (s : State) (v : DeviceState) :
    (s.setDevice v).held = s.held := rfl
@[simp] theorem setDevice_get_slot (s : State) (v : DeviceState) (j : SlotNo) :
    (s.setDevice v).slot j = s.slot j := rfl
@[simp] theorem setDevice_get_zone (s : State) (v : DeviceState) (j : SlotNo) :
    (s.setDevice v).zone j = s.zone j := rfl
@[simp] theorem setDevice_get_zoneList (s : State) (v : DeviceState) (m : Axis) (d : Kind) :
    (s.setDevice v).zoneList m d = s.zoneList m d := rfl
@[simp] theorem setDevice_get_tracker (s : State) (v : DeviceState) (m : Axis) :
    (s.setDevice v).tracker m = s.tracker m := rfl
@[simp] theorem setDevice_get_axisConfig (s : State) (v : DeviceState) (m : Axis) :
    (s.setDevice v).axisConfig m = s.axisConfig m := rfl
@[simp] theorem setDevice_get_pendingPass (s : State) (v : DeviceState) (m : Axis) :
    (s.setDevice v).pendingPass m = s.pendingPass m := rfl
@[simp] theorem setDevice_get_pendingConditions (s : State) (v : DeviceState) (m : Axis) :
    (s.setDevice v).pendingConditions m = s.pendingConditions m := rfl
@[simp] theorem setDevice_get_dwell (s : State) (v : DeviceState) (j : SlotNo) :
    (s.setDevice v).dwell j = s.dwell j := rfl
@[simp] theorem setDevice_get_line (s : State) (v : DeviceState) (m : LineNo) :
    (s.setDevice v).line m = s.line m := rfl
@[simp] theorem setDevice_get_port (s : State) (v : DeviceState) (q : Port) :
    (s.setDevice v).port q = s.port q := rfl
@[simp] theorem setDevice_get_row (s : State) (v : DeviceState) (q : RowNo) :
    (s.setDevice v).row q = s.row q := rfl
@[simp] theorem setDevice_get_worn (s : State) (v : DeviceState) (q : RowNo) :
    (s.setDevice v).worn q = s.worn q := rfl
@[simp] theorem setDevice_get_item (s : State) (v : DeviceState) (q : ItemNo) :
    (s.setDevice v).item q = s.item q := rfl

/-! ### setSupply -/

@[simp] theorem setSupply_pending (s : State) (v w : Bool) : (s.setSupply v w).pending = s.pending := rfl
@[simp] theorem setSupply_now (s : State) (v w : Bool) : (s.setSupply v w).now = s.now := rfl
@[simp] theorem setSupply_device (s : State) (v w : Bool) : (s.setSupply v w).device = s.device := rfl
@[simp] theorem setSupply_supplyValid (s : State) (v w : Bool) : (s.setSupply v w).supplyValid = v := rfl
@[simp] theorem setSupply_resetN (s : State) (v w : Bool) : (s.setSupply v w).resetN = w := rfl
@[simp] theorem setSupply_load (s : State) (v w : Bool) : (s.setSupply v w).load = s.load := rfl
@[simp] theorem setSupply_slots (s : State) (v w : Bool) : (s.setSupply v w).slots = s.slots := rfl
@[simp] theorem setSupply_absolute (s : State) (v w : Bool) : (s.setSupply v w).absolute = s.absolute := rfl
@[simp] theorem setSupply_periodic (s : State) (v w : Bool) : (s.setSupply v w).periodic = s.periodic := rfl
@[simp] theorem setSupply_available (s : State) (v w : Bool) : (s.setSupply v w).available = s.available := rfl
@[simp] theorem setSupply_axes (s : State) (v w : Bool) : (s.setSupply v w).axes = s.axes := rfl
@[simp] theorem setSupply_lineConfig (s : State) (v w : Bool) : (s.setSupply v w).lineConfig = s.lineConfig := rfl
@[simp] theorem setSupply_portConfig (s : State) (v w : Bool) : (s.setSupply v w).portConfig = s.portConfig := rfl
@[simp] theorem setSupply_freezeLevel (s : State) (v w : Bool) : (s.setSupply v w).freezeLevel = s.freezeLevel := rfl
@[simp] theorem setSupply_pointer (s : State) (v w : Bool) : (s.setSupply v w).pointer = s.pointer := rfl
@[simp] theorem setSupply_running (s : State) (v w : Bool) : (s.setSupply v w).running = s.running := rfl
@[simp] theorem setSupply_passes (s : State) (v w : Bool) : (s.setSupply v w).passes = s.passes := rfl
@[simp] theorem setSupply_conditions (s : State) (v w : Bool) : (s.setSupply v w).conditions = s.conditions := rfl
@[simp] theorem setSupply_dwells (s : State) (v w : Bool) : (s.setSupply v w).dwells = s.dwells := rfl
@[simp] theorem setSupply_trackers (s : State) (v w : Bool) : (s.setSupply v w).trackers = s.trackers := rfl
@[simp] theorem setSupply_lines (s : State) (v w : Bool) : (s.setSupply v w).lines = s.lines := rfl
@[simp] theorem setSupply_ports (s : State) (v w : Bool) : (s.setSupply v w).ports = s.ports := rfl
@[simp] theorem setSupply_rows (s : State) (v w : Bool) : (s.setSupply v w).rows = s.rows := rfl
@[simp] theorem setSupply_wornRows (s : State) (v w : Bool) : (s.setSupply v w).wornRows = s.wornRows := rfl
@[simp] theorem setSupply_copyMap (s : State) (v w : Bool) : (s.setSupply v w).copyMap = s.copyMap := rfl
@[simp] theorem setSupply_queue (s : State) (v w : Bool) : (s.setSupply v w).queue = s.queue := rfl
@[simp] theorem setSupply_engine (s : State) (v w : Bool) : (s.setSupply v w).engine = s.engine := rfl
@[simp] theorem setSupply_array (s : State) (v w : Bool) : (s.setSupply v w).array = s.array := rfl
@[simp] theorem setSupply_committedFreeze (s : State) (v w : Bool) : (s.setSupply v w).committedFreeze = s.committedFreeze := rfl
@[simp] theorem setSupply_sweep (s : State) (v w : Bool) : (s.setSupply v w).sweep = s.sweep := rfl
@[simp] theorem setSupply_get_slot (s : State) (v w : Bool) (j : SlotNo) :
    (s.setSupply v w).slot j = s.slot j := rfl
@[simp] theorem setSupply_get_zone (s : State) (v w : Bool) (j : SlotNo) :
    (s.setSupply v w).zone j = s.zone j := rfl
@[simp] theorem setSupply_get_zoneList (s : State) (v w : Bool) (m : Axis) (d : Kind) :
    (s.setSupply v w).zoneList m d = s.zoneList m d := rfl
@[simp] theorem setSupply_get_tracker (s : State) (v w : Bool) (m : Axis) :
    (s.setSupply v w).tracker m = s.tracker m := rfl
@[simp] theorem setSupply_get_axisConfig (s : State) (v w : Bool) (m : Axis) :
    (s.setSupply v w).axisConfig m = s.axisConfig m := rfl
@[simp] theorem setSupply_get_pendingPass (s : State) (v w : Bool) (m : Axis) :
    (s.setSupply v w).pendingPass m = s.pendingPass m := rfl
@[simp] theorem setSupply_get_pendingConditions (s : State) (v w : Bool) (m : Axis) :
    (s.setSupply v w).pendingConditions m = s.pendingConditions m := rfl
@[simp] theorem setSupply_get_dwell (s : State) (v w : Bool) (j : SlotNo) :
    (s.setSupply v w).dwell j = s.dwell j := rfl
@[simp] theorem setSupply_get_line (s : State) (v w : Bool) (m : LineNo) :
    (s.setSupply v w).line m = s.line m := rfl
@[simp] theorem setSupply_get_port (s : State) (v w : Bool) (q : Port) :
    (s.setSupply v w).port q = s.port q := rfl
@[simp] theorem setSupply_get_row (s : State) (v w : Bool) (q : RowNo) :
    (s.setSupply v w).row q = s.row q := rfl
@[simp] theorem setSupply_get_worn (s : State) (v w : Bool) (q : RowNo) :
    (s.setSupply v w).worn q = s.worn q := rfl
@[simp] theorem setSupply_get_item (s : State) (v w : Bool) (q : ItemNo) :
    (s.setSupply v w).item q = s.item q := rfl

/-! ### setLoad -/

@[simp] theorem setLoad_pending (s : State) (v : Load) : (s.setLoad v).pending = s.pending := rfl
@[simp] theorem setLoad_now (s : State) (v : Load) : (s.setLoad v).now = s.now := rfl
@[simp] theorem setLoad_device (s : State) (v : Load) : (s.setLoad v).device = s.device := rfl
@[simp] theorem setLoad_supplyValid (s : State) (v : Load) : (s.setLoad v).supplyValid = s.supplyValid := rfl
@[simp] theorem setLoad_resetN (s : State) (v : Load) : (s.setLoad v).resetN = s.resetN := rfl
@[simp] theorem setLoad_load (s : State) (v : Load) : (s.setLoad v).load = v := rfl
@[simp] theorem setLoad_slots (s : State) (v : Load) : (s.setLoad v).slots = s.slots := rfl
@[simp] theorem setLoad_absolute (s : State) (v : Load) : (s.setLoad v).absolute = s.absolute := rfl
@[simp] theorem setLoad_periodic (s : State) (v : Load) : (s.setLoad v).periodic = s.periodic := rfl
@[simp] theorem setLoad_available (s : State) (v : Load) : (s.setLoad v).available = s.available := rfl
@[simp] theorem setLoad_axes (s : State) (v : Load) : (s.setLoad v).axes = s.axes := rfl
@[simp] theorem setLoad_lineConfig (s : State) (v : Load) : (s.setLoad v).lineConfig = s.lineConfig := rfl
@[simp] theorem setLoad_portConfig (s : State) (v : Load) : (s.setLoad v).portConfig = s.portConfig := rfl
@[simp] theorem setLoad_freezeLevel (s : State) (v : Load) : (s.setLoad v).freezeLevel = s.freezeLevel := rfl
@[simp] theorem setLoad_pointer (s : State) (v : Load) : (s.setLoad v).pointer = s.pointer := rfl
@[simp] theorem setLoad_running (s : State) (v : Load) : (s.setLoad v).running = s.running := rfl
@[simp] theorem setLoad_passes (s : State) (v : Load) : (s.setLoad v).passes = s.passes := rfl
@[simp] theorem setLoad_conditions (s : State) (v : Load) : (s.setLoad v).conditions = s.conditions := rfl
@[simp] theorem setLoad_dwells (s : State) (v : Load) : (s.setLoad v).dwells = s.dwells := rfl
@[simp] theorem setLoad_trackers (s : State) (v : Load) : (s.setLoad v).trackers = s.trackers := rfl
@[simp] theorem setLoad_lines (s : State) (v : Load) : (s.setLoad v).lines = s.lines := rfl
@[simp] theorem setLoad_ports (s : State) (v : Load) : (s.setLoad v).ports = s.ports := rfl
@[simp] theorem setLoad_rows (s : State) (v : Load) : (s.setLoad v).rows = s.rows := rfl
@[simp] theorem setLoad_wornRows (s : State) (v : Load) : (s.setLoad v).wornRows = s.wornRows := rfl
@[simp] theorem setLoad_copyMap (s : State) (v : Load) : (s.setLoad v).copyMap = s.copyMap := rfl
@[simp] theorem setLoad_queue (s : State) (v : Load) : (s.setLoad v).queue = s.queue := rfl
@[simp] theorem setLoad_engine (s : State) (v : Load) : (s.setLoad v).engine = s.engine := rfl
@[simp] theorem setLoad_array (s : State) (v : Load) : (s.setLoad v).array = s.array := rfl
@[simp] theorem setLoad_committedFreeze (s : State) (v : Load) : (s.setLoad v).committedFreeze = s.committedFreeze := rfl
@[simp] theorem setLoad_sweep (s : State) (v : Load) : (s.setLoad v).sweep = s.sweep := rfl
@[simp] theorem setLoad_get_held (s : State) (v : Load) :
    (s.setLoad v).held = s.held := rfl
@[simp] theorem setLoad_get_inService (s : State) (v : Load) :
    (s.setLoad v).inService = s.inService := rfl
@[simp] theorem setLoad_get_slot (s : State) (v : Load) (j : SlotNo) :
    (s.setLoad v).slot j = s.slot j := rfl
@[simp] theorem setLoad_get_zone (s : State) (v : Load) (j : SlotNo) :
    (s.setLoad v).zone j = s.zone j := rfl
@[simp] theorem setLoad_get_zoneList (s : State) (v : Load) (m : Axis) (d : Kind) :
    (s.setLoad v).zoneList m d = s.zoneList m d := rfl
@[simp] theorem setLoad_get_tracker (s : State) (v : Load) (m : Axis) :
    (s.setLoad v).tracker m = s.tracker m := rfl
@[simp] theorem setLoad_get_axisConfig (s : State) (v : Load) (m : Axis) :
    (s.setLoad v).axisConfig m = s.axisConfig m := rfl
@[simp] theorem setLoad_get_pendingPass (s : State) (v : Load) (m : Axis) :
    (s.setLoad v).pendingPass m = s.pendingPass m := rfl
@[simp] theorem setLoad_get_pendingConditions (s : State) (v : Load) (m : Axis) :
    (s.setLoad v).pendingConditions m = s.pendingConditions m := rfl
@[simp] theorem setLoad_get_dwell (s : State) (v : Load) (j : SlotNo) :
    (s.setLoad v).dwell j = s.dwell j := rfl
@[simp] theorem setLoad_get_line (s : State) (v : Load) (m : LineNo) :
    (s.setLoad v).line m = s.line m := rfl
@[simp] theorem setLoad_get_port (s : State) (v : Load) (q : Port) :
    (s.setLoad v).port q = s.port q := rfl
@[simp] theorem setLoad_get_row (s : State) (v : Load) (q : RowNo) :
    (s.setLoad v).row q = s.row q := rfl
@[simp] theorem setLoad_get_worn (s : State) (v : Load) (q : RowNo) :
    (s.setLoad v).worn q = s.worn q := rfl
@[simp] theorem setLoad_get_item (s : State) (v : Load) (q : ItemNo) :
    (s.setLoad v).item q = s.item q := rfl

/-! ### setSlot -/

@[simp] theorem setSlot_pending (s : State) (i : SlotNo) (v : Slot) : (s.setSlot i v).pending = s.pending := rfl
@[simp] theorem setSlot_now (s : State) (i : SlotNo) (v : Slot) : (s.setSlot i v).now = s.now := rfl
@[simp] theorem setSlot_device (s : State) (i : SlotNo) (v : Slot) : (s.setSlot i v).device = s.device := rfl
@[simp] theorem setSlot_supplyValid (s : State) (i : SlotNo) (v : Slot) : (s.setSlot i v).supplyValid = s.supplyValid := rfl
@[simp] theorem setSlot_resetN (s : State) (i : SlotNo) (v : Slot) : (s.setSlot i v).resetN = s.resetN := rfl
@[simp] theorem setSlot_load (s : State) (i : SlotNo) (v : Slot) : (s.setSlot i v).load = s.load := rfl
@[simp] theorem setSlot_slots (s : State) (i : SlotNo) (v : Slot) : (s.setSlot i v).slots = s.slots.set i v := rfl
@[simp] theorem setSlot_absolute (s : State) (i : SlotNo) (v : Slot) : (s.setSlot i v).absolute = s.absolute := rfl
@[simp] theorem setSlot_periodic (s : State) (i : SlotNo) (v : Slot) : (s.setSlot i v).periodic = s.periodic := rfl
@[simp] theorem setSlot_available (s : State) (i : SlotNo) (v : Slot) : (s.setSlot i v).available = s.available := rfl
@[simp] theorem setSlot_axes (s : State) (i : SlotNo) (v : Slot) : (s.setSlot i v).axes = s.axes := rfl
@[simp] theorem setSlot_lineConfig (s : State) (i : SlotNo) (v : Slot) : (s.setSlot i v).lineConfig = s.lineConfig := rfl
@[simp] theorem setSlot_portConfig (s : State) (i : SlotNo) (v : Slot) : (s.setSlot i v).portConfig = s.portConfig := rfl
@[simp] theorem setSlot_freezeLevel (s : State) (i : SlotNo) (v : Slot) : (s.setSlot i v).freezeLevel = s.freezeLevel := rfl
@[simp] theorem setSlot_pointer (s : State) (i : SlotNo) (v : Slot) : (s.setSlot i v).pointer = s.pointer := rfl
@[simp] theorem setSlot_running (s : State) (i : SlotNo) (v : Slot) : (s.setSlot i v).running = s.running := rfl
@[simp] theorem setSlot_passes (s : State) (i : SlotNo) (v : Slot) : (s.setSlot i v).passes = s.passes := rfl
@[simp] theorem setSlot_conditions (s : State) (i : SlotNo) (v : Slot) : (s.setSlot i v).conditions = s.conditions := rfl
@[simp] theorem setSlot_dwells (s : State) (i : SlotNo) (v : Slot) : (s.setSlot i v).dwells = s.dwells := rfl
@[simp] theorem setSlot_trackers (s : State) (i : SlotNo) (v : Slot) : (s.setSlot i v).trackers = s.trackers := rfl
@[simp] theorem setSlot_lines (s : State) (i : SlotNo) (v : Slot) : (s.setSlot i v).lines = s.lines := rfl
@[simp] theorem setSlot_ports (s : State) (i : SlotNo) (v : Slot) : (s.setSlot i v).ports = s.ports := rfl
@[simp] theorem setSlot_rows (s : State) (i : SlotNo) (v : Slot) : (s.setSlot i v).rows = s.rows := rfl
@[simp] theorem setSlot_wornRows (s : State) (i : SlotNo) (v : Slot) : (s.setSlot i v).wornRows = s.wornRows := rfl
@[simp] theorem setSlot_copyMap (s : State) (i : SlotNo) (v : Slot) : (s.setSlot i v).copyMap = s.copyMap := rfl
@[simp] theorem setSlot_queue (s : State) (i : SlotNo) (v : Slot) : (s.setSlot i v).queue = s.queue := rfl
@[simp] theorem setSlot_engine (s : State) (i : SlotNo) (v : Slot) : (s.setSlot i v).engine = s.engine := rfl
@[simp] theorem setSlot_array (s : State) (i : SlotNo) (v : Slot) : (s.setSlot i v).array = s.array := rfl
@[simp] theorem setSlot_committedFreeze (s : State) (i : SlotNo) (v : Slot) : (s.setSlot i v).committedFreeze = s.committedFreeze := rfl
@[simp] theorem setSlot_sweep (s : State) (i : SlotNo) (v : Slot) : (s.setSlot i v).sweep = s.sweep := rfl
@[simp] theorem setSlot_get_held (s : State) (i : SlotNo) (v : Slot) :
    (s.setSlot i v).held = s.held := rfl
@[simp] theorem setSlot_get_inService (s : State) (i : SlotNo) (v : Slot) :
    (s.setSlot i v).inService = s.inService := rfl
@[simp] theorem setSlot_get_zoneList (s : State) (i : SlotNo) (v : Slot) (m : Axis) (d : Kind) :
    (s.setSlot i v).zoneList m d = s.zoneList m d := rfl
@[simp] theorem setSlot_get_tracker (s : State) (i : SlotNo) (v : Slot) (m : Axis) :
    (s.setSlot i v).tracker m = s.tracker m := rfl
@[simp] theorem setSlot_get_axisConfig (s : State) (i : SlotNo) (v : Slot) (m : Axis) :
    (s.setSlot i v).axisConfig m = s.axisConfig m := rfl
@[simp] theorem setSlot_get_pendingPass (s : State) (i : SlotNo) (v : Slot) (m : Axis) :
    (s.setSlot i v).pendingPass m = s.pendingPass m := rfl
@[simp] theorem setSlot_get_pendingConditions (s : State) (i : SlotNo) (v : Slot) (m : Axis) :
    (s.setSlot i v).pendingConditions m = s.pendingConditions m := rfl
@[simp] theorem setSlot_get_dwell (s : State) (i : SlotNo) (v : Slot) (j : SlotNo) :
    (s.setSlot i v).dwell j = s.dwell j := rfl
@[simp] theorem setSlot_get_line (s : State) (i : SlotNo) (v : Slot) (m : LineNo) :
    (s.setSlot i v).line m = s.line m := rfl
@[simp] theorem setSlot_get_port (s : State) (i : SlotNo) (v : Slot) (q : Port) :
    (s.setSlot i v).port q = s.port q := rfl
@[simp] theorem setSlot_get_row (s : State) (i : SlotNo) (v : Slot) (q : RowNo) :
    (s.setSlot i v).row q = s.row q := rfl
@[simp] theorem setSlot_get_worn (s : State) (i : SlotNo) (v : Slot) (q : RowNo) :
    (s.setSlot i v).worn q = s.worn q := rfl
@[simp] theorem setSlot_get_item (s : State) (i : SlotNo) (v : Slot) (q : ItemNo) :
    (s.setSlot i v).item q = s.item q := rfl
@[simp] theorem setSlot_same (s : State) (i : SlotNo) (v : Slot) : (s.setSlot i v).slot i = v := by
  simp [setSlot, slot]
theorem setSlot_at (s : State) (i : SlotNo) (v : Slot) (j : SlotNo) : (s.setSlot i v).slot j = if j = i then v else s.slot j := by
  simp only [setSlot, slot, Fin.getElem_fin, Vector.getElem_set, Fin.ext_iff, eq_comm]
theorem setSlot_zone (s : State) (i : SlotNo) (v : Slot) (j : SlotNo) :
    (s.setSlot i v).zone j = if j = i then (match v with | .live z => some z | .vacant _ | .quarantined => none) else s.zone j := by
  simp only [setSlot, zone, Fin.getElem_fin, Vector.getElem_set, Fin.ext_iff, eq_comm]
  split <;> rfl
@[simp] theorem setSlot_live_zone (s : State) (i : SlotNo) (z : Zone) : (s.setSlot i (.live z)).zone i = some z := by
  simp [setSlot_zone]

/-! ### setAbsolute -/

@[simp] theorem setAbsolute_pending (s : State) (n : Axis) (v : List SlotNo) : (s.setAbsolute n v).pending = s.pending := rfl
@[simp] theorem setAbsolute_now (s : State) (n : Axis) (v : List SlotNo) : (s.setAbsolute n v).now = s.now := rfl
@[simp] theorem setAbsolute_device (s : State) (n : Axis) (v : List SlotNo) : (s.setAbsolute n v).device = s.device := rfl
@[simp] theorem setAbsolute_supplyValid (s : State) (n : Axis) (v : List SlotNo) : (s.setAbsolute n v).supplyValid = s.supplyValid := rfl
@[simp] theorem setAbsolute_resetN (s : State) (n : Axis) (v : List SlotNo) : (s.setAbsolute n v).resetN = s.resetN := rfl
@[simp] theorem setAbsolute_load (s : State) (n : Axis) (v : List SlotNo) : (s.setAbsolute n v).load = s.load := rfl
@[simp] theorem setAbsolute_slots (s : State) (n : Axis) (v : List SlotNo) : (s.setAbsolute n v).slots = s.slots := rfl
@[simp] theorem setAbsolute_absolute (s : State) (n : Axis) (v : List SlotNo) : (s.setAbsolute n v).absolute = s.absolute.set n v := rfl
@[simp] theorem setAbsolute_periodic (s : State) (n : Axis) (v : List SlotNo) : (s.setAbsolute n v).periodic = s.periodic := rfl
@[simp] theorem setAbsolute_available (s : State) (n : Axis) (v : List SlotNo) : (s.setAbsolute n v).available = s.available := rfl
@[simp] theorem setAbsolute_axes (s : State) (n : Axis) (v : List SlotNo) : (s.setAbsolute n v).axes = s.axes := rfl
@[simp] theorem setAbsolute_lineConfig (s : State) (n : Axis) (v : List SlotNo) : (s.setAbsolute n v).lineConfig = s.lineConfig := rfl
@[simp] theorem setAbsolute_portConfig (s : State) (n : Axis) (v : List SlotNo) : (s.setAbsolute n v).portConfig = s.portConfig := rfl
@[simp] theorem setAbsolute_freezeLevel (s : State) (n : Axis) (v : List SlotNo) : (s.setAbsolute n v).freezeLevel = s.freezeLevel := rfl
@[simp] theorem setAbsolute_pointer (s : State) (n : Axis) (v : List SlotNo) : (s.setAbsolute n v).pointer = s.pointer := rfl
@[simp] theorem setAbsolute_running (s : State) (n : Axis) (v : List SlotNo) : (s.setAbsolute n v).running = s.running := rfl
@[simp] theorem setAbsolute_passes (s : State) (n : Axis) (v : List SlotNo) : (s.setAbsolute n v).passes = s.passes := rfl
@[simp] theorem setAbsolute_conditions (s : State) (n : Axis) (v : List SlotNo) : (s.setAbsolute n v).conditions = s.conditions := rfl
@[simp] theorem setAbsolute_dwells (s : State) (n : Axis) (v : List SlotNo) : (s.setAbsolute n v).dwells = s.dwells := rfl
@[simp] theorem setAbsolute_trackers (s : State) (n : Axis) (v : List SlotNo) : (s.setAbsolute n v).trackers = s.trackers := rfl
@[simp] theorem setAbsolute_lines (s : State) (n : Axis) (v : List SlotNo) : (s.setAbsolute n v).lines = s.lines := rfl
@[simp] theorem setAbsolute_ports (s : State) (n : Axis) (v : List SlotNo) : (s.setAbsolute n v).ports = s.ports := rfl
@[simp] theorem setAbsolute_rows (s : State) (n : Axis) (v : List SlotNo) : (s.setAbsolute n v).rows = s.rows := rfl
@[simp] theorem setAbsolute_wornRows (s : State) (n : Axis) (v : List SlotNo) : (s.setAbsolute n v).wornRows = s.wornRows := rfl
@[simp] theorem setAbsolute_copyMap (s : State) (n : Axis) (v : List SlotNo) : (s.setAbsolute n v).copyMap = s.copyMap := rfl
@[simp] theorem setAbsolute_queue (s : State) (n : Axis) (v : List SlotNo) : (s.setAbsolute n v).queue = s.queue := rfl
@[simp] theorem setAbsolute_engine (s : State) (n : Axis) (v : List SlotNo) : (s.setAbsolute n v).engine = s.engine := rfl
@[simp] theorem setAbsolute_array (s : State) (n : Axis) (v : List SlotNo) : (s.setAbsolute n v).array = s.array := rfl
@[simp] theorem setAbsolute_committedFreeze (s : State) (n : Axis) (v : List SlotNo) : (s.setAbsolute n v).committedFreeze = s.committedFreeze := rfl
@[simp] theorem setAbsolute_sweep (s : State) (n : Axis) (v : List SlotNo) : (s.setAbsolute n v).sweep = s.sweep := rfl
@[simp] theorem setAbsolute_get_held (s : State) (n : Axis) (v : List SlotNo) :
    (s.setAbsolute n v).held = s.held := rfl
@[simp] theorem setAbsolute_get_inService (s : State) (n : Axis) (v : List SlotNo) :
    (s.setAbsolute n v).inService = s.inService := rfl
@[simp] theorem setAbsolute_get_slot (s : State) (n : Axis) (v : List SlotNo) (j : SlotNo) :
    (s.setAbsolute n v).slot j = s.slot j := rfl
@[simp] theorem setAbsolute_get_zone (s : State) (n : Axis) (v : List SlotNo) (j : SlotNo) :
    (s.setAbsolute n v).zone j = s.zone j := rfl
@[simp] theorem setAbsolute_get_tracker (s : State) (n : Axis) (v : List SlotNo) (m : Axis) :
    (s.setAbsolute n v).tracker m = s.tracker m := rfl
@[simp] theorem setAbsolute_get_axisConfig (s : State) (n : Axis) (v : List SlotNo) (m : Axis) :
    (s.setAbsolute n v).axisConfig m = s.axisConfig m := rfl
@[simp] theorem setAbsolute_get_pendingPass (s : State) (n : Axis) (v : List SlotNo) (m : Axis) :
    (s.setAbsolute n v).pendingPass m = s.pendingPass m := rfl
@[simp] theorem setAbsolute_get_pendingConditions (s : State) (n : Axis) (v : List SlotNo) (m : Axis) :
    (s.setAbsolute n v).pendingConditions m = s.pendingConditions m := rfl
@[simp] theorem setAbsolute_get_dwell (s : State) (n : Axis) (v : List SlotNo) (j : SlotNo) :
    (s.setAbsolute n v).dwell j = s.dwell j := rfl
@[simp] theorem setAbsolute_get_line (s : State) (n : Axis) (v : List SlotNo) (m : LineNo) :
    (s.setAbsolute n v).line m = s.line m := rfl
@[simp] theorem setAbsolute_get_port (s : State) (n : Axis) (v : List SlotNo) (q : Port) :
    (s.setAbsolute n v).port q = s.port q := rfl
@[simp] theorem setAbsolute_get_row (s : State) (n : Axis) (v : List SlotNo) (q : RowNo) :
    (s.setAbsolute n v).row q = s.row q := rfl
@[simp] theorem setAbsolute_get_worn (s : State) (n : Axis) (v : List SlotNo) (q : RowNo) :
    (s.setAbsolute n v).worn q = s.worn q := rfl
@[simp] theorem setAbsolute_get_item (s : State) (n : Axis) (v : List SlotNo) (q : ItemNo) :
    (s.setAbsolute n v).item q = s.item q := rfl
theorem setAbsolute_zoneList (s : State) (n : Axis) (v : List SlotNo) (m : Axis) :
    (s.setAbsolute n v).zoneList m .absolute = if m = n then v else s.zoneList m .absolute := by
  simp only [setAbsolute, zoneList, Fin.getElem_fin, Vector.getElem_set, Fin.ext_iff, eq_comm]
@[simp] theorem setAbsolute_zoneList_other (s : State) (n : Axis) (v : List SlotNo) (m : Axis) :
    (s.setAbsolute n v).zoneList m .periodic = s.zoneList m .periodic := rfl

/-! ### setPeriodic -/

@[simp] theorem setPeriodic_pending (s : State) (n : Axis) (v : List SlotNo) : (s.setPeriodic n v).pending = s.pending := rfl
@[simp] theorem setPeriodic_now (s : State) (n : Axis) (v : List SlotNo) : (s.setPeriodic n v).now = s.now := rfl
@[simp] theorem setPeriodic_device (s : State) (n : Axis) (v : List SlotNo) : (s.setPeriodic n v).device = s.device := rfl
@[simp] theorem setPeriodic_supplyValid (s : State) (n : Axis) (v : List SlotNo) : (s.setPeriodic n v).supplyValid = s.supplyValid := rfl
@[simp] theorem setPeriodic_resetN (s : State) (n : Axis) (v : List SlotNo) : (s.setPeriodic n v).resetN = s.resetN := rfl
@[simp] theorem setPeriodic_load (s : State) (n : Axis) (v : List SlotNo) : (s.setPeriodic n v).load = s.load := rfl
@[simp] theorem setPeriodic_slots (s : State) (n : Axis) (v : List SlotNo) : (s.setPeriodic n v).slots = s.slots := rfl
@[simp] theorem setPeriodic_absolute (s : State) (n : Axis) (v : List SlotNo) : (s.setPeriodic n v).absolute = s.absolute := rfl
@[simp] theorem setPeriodic_periodic (s : State) (n : Axis) (v : List SlotNo) : (s.setPeriodic n v).periodic = s.periodic.set n v := rfl
@[simp] theorem setPeriodic_available (s : State) (n : Axis) (v : List SlotNo) : (s.setPeriodic n v).available = s.available := rfl
@[simp] theorem setPeriodic_axes (s : State) (n : Axis) (v : List SlotNo) : (s.setPeriodic n v).axes = s.axes := rfl
@[simp] theorem setPeriodic_lineConfig (s : State) (n : Axis) (v : List SlotNo) : (s.setPeriodic n v).lineConfig = s.lineConfig := rfl
@[simp] theorem setPeriodic_portConfig (s : State) (n : Axis) (v : List SlotNo) : (s.setPeriodic n v).portConfig = s.portConfig := rfl
@[simp] theorem setPeriodic_freezeLevel (s : State) (n : Axis) (v : List SlotNo) : (s.setPeriodic n v).freezeLevel = s.freezeLevel := rfl
@[simp] theorem setPeriodic_pointer (s : State) (n : Axis) (v : List SlotNo) : (s.setPeriodic n v).pointer = s.pointer := rfl
@[simp] theorem setPeriodic_running (s : State) (n : Axis) (v : List SlotNo) : (s.setPeriodic n v).running = s.running := rfl
@[simp] theorem setPeriodic_passes (s : State) (n : Axis) (v : List SlotNo) : (s.setPeriodic n v).passes = s.passes := rfl
@[simp] theorem setPeriodic_conditions (s : State) (n : Axis) (v : List SlotNo) : (s.setPeriodic n v).conditions = s.conditions := rfl
@[simp] theorem setPeriodic_dwells (s : State) (n : Axis) (v : List SlotNo) : (s.setPeriodic n v).dwells = s.dwells := rfl
@[simp] theorem setPeriodic_trackers (s : State) (n : Axis) (v : List SlotNo) : (s.setPeriodic n v).trackers = s.trackers := rfl
@[simp] theorem setPeriodic_lines (s : State) (n : Axis) (v : List SlotNo) : (s.setPeriodic n v).lines = s.lines := rfl
@[simp] theorem setPeriodic_ports (s : State) (n : Axis) (v : List SlotNo) : (s.setPeriodic n v).ports = s.ports := rfl
@[simp] theorem setPeriodic_rows (s : State) (n : Axis) (v : List SlotNo) : (s.setPeriodic n v).rows = s.rows := rfl
@[simp] theorem setPeriodic_wornRows (s : State) (n : Axis) (v : List SlotNo) : (s.setPeriodic n v).wornRows = s.wornRows := rfl
@[simp] theorem setPeriodic_copyMap (s : State) (n : Axis) (v : List SlotNo) : (s.setPeriodic n v).copyMap = s.copyMap := rfl
@[simp] theorem setPeriodic_queue (s : State) (n : Axis) (v : List SlotNo) : (s.setPeriodic n v).queue = s.queue := rfl
@[simp] theorem setPeriodic_engine (s : State) (n : Axis) (v : List SlotNo) : (s.setPeriodic n v).engine = s.engine := rfl
@[simp] theorem setPeriodic_array (s : State) (n : Axis) (v : List SlotNo) : (s.setPeriodic n v).array = s.array := rfl
@[simp] theorem setPeriodic_committedFreeze (s : State) (n : Axis) (v : List SlotNo) : (s.setPeriodic n v).committedFreeze = s.committedFreeze := rfl
@[simp] theorem setPeriodic_sweep (s : State) (n : Axis) (v : List SlotNo) : (s.setPeriodic n v).sweep = s.sweep := rfl
@[simp] theorem setPeriodic_get_held (s : State) (n : Axis) (v : List SlotNo) :
    (s.setPeriodic n v).held = s.held := rfl
@[simp] theorem setPeriodic_get_inService (s : State) (n : Axis) (v : List SlotNo) :
    (s.setPeriodic n v).inService = s.inService := rfl
@[simp] theorem setPeriodic_get_slot (s : State) (n : Axis) (v : List SlotNo) (j : SlotNo) :
    (s.setPeriodic n v).slot j = s.slot j := rfl
@[simp] theorem setPeriodic_get_zone (s : State) (n : Axis) (v : List SlotNo) (j : SlotNo) :
    (s.setPeriodic n v).zone j = s.zone j := rfl
@[simp] theorem setPeriodic_get_tracker (s : State) (n : Axis) (v : List SlotNo) (m : Axis) :
    (s.setPeriodic n v).tracker m = s.tracker m := rfl
@[simp] theorem setPeriodic_get_axisConfig (s : State) (n : Axis) (v : List SlotNo) (m : Axis) :
    (s.setPeriodic n v).axisConfig m = s.axisConfig m := rfl
@[simp] theorem setPeriodic_get_pendingPass (s : State) (n : Axis) (v : List SlotNo) (m : Axis) :
    (s.setPeriodic n v).pendingPass m = s.pendingPass m := rfl
@[simp] theorem setPeriodic_get_pendingConditions (s : State) (n : Axis) (v : List SlotNo) (m : Axis) :
    (s.setPeriodic n v).pendingConditions m = s.pendingConditions m := rfl
@[simp] theorem setPeriodic_get_dwell (s : State) (n : Axis) (v : List SlotNo) (j : SlotNo) :
    (s.setPeriodic n v).dwell j = s.dwell j := rfl
@[simp] theorem setPeriodic_get_line (s : State) (n : Axis) (v : List SlotNo) (m : LineNo) :
    (s.setPeriodic n v).line m = s.line m := rfl
@[simp] theorem setPeriodic_get_port (s : State) (n : Axis) (v : List SlotNo) (q : Port) :
    (s.setPeriodic n v).port q = s.port q := rfl
@[simp] theorem setPeriodic_get_row (s : State) (n : Axis) (v : List SlotNo) (q : RowNo) :
    (s.setPeriodic n v).row q = s.row q := rfl
@[simp] theorem setPeriodic_get_worn (s : State) (n : Axis) (v : List SlotNo) (q : RowNo) :
    (s.setPeriodic n v).worn q = s.worn q := rfl
@[simp] theorem setPeriodic_get_item (s : State) (n : Axis) (v : List SlotNo) (q : ItemNo) :
    (s.setPeriodic n v).item q = s.item q := rfl
theorem setPeriodic_zoneList (s : State) (n : Axis) (v : List SlotNo) (m : Axis) :
    (s.setPeriodic n v).zoneList m .periodic = if m = n then v else s.zoneList m .periodic := by
  simp only [setPeriodic, zoneList, Fin.getElem_fin, Vector.getElem_set, Fin.ext_iff, eq_comm]
@[simp] theorem setPeriodic_zoneList_other (s : State) (n : Axis) (v : List SlotNo) (m : Axis) :
    (s.setPeriodic n v).zoneList m .absolute = s.zoneList m .absolute := rfl

/-! ### setAvailable -/

@[simp] theorem setAvailable_pending (s : State) (n : Axis) (v : Bool) : (s.setAvailable n v).pending = s.pending := rfl
@[simp] theorem setAvailable_now (s : State) (n : Axis) (v : Bool) : (s.setAvailable n v).now = s.now := rfl
@[simp] theorem setAvailable_device (s : State) (n : Axis) (v : Bool) : (s.setAvailable n v).device = s.device := rfl
@[simp] theorem setAvailable_supplyValid (s : State) (n : Axis) (v : Bool) : (s.setAvailable n v).supplyValid = s.supplyValid := rfl
@[simp] theorem setAvailable_resetN (s : State) (n : Axis) (v : Bool) : (s.setAvailable n v).resetN = s.resetN := rfl
@[simp] theorem setAvailable_load (s : State) (n : Axis) (v : Bool) : (s.setAvailable n v).load = s.load := rfl
@[simp] theorem setAvailable_slots (s : State) (n : Axis) (v : Bool) : (s.setAvailable n v).slots = s.slots := rfl
@[simp] theorem setAvailable_absolute (s : State) (n : Axis) (v : Bool) : (s.setAvailable n v).absolute = s.absolute := rfl
@[simp] theorem setAvailable_periodic (s : State) (n : Axis) (v : Bool) : (s.setAvailable n v).periodic = s.periodic := rfl
@[simp] theorem setAvailable_available (s : State) (n : Axis) (v : Bool) : (s.setAvailable n v).available = s.available.set n v := rfl
@[simp] theorem setAvailable_axes (s : State) (n : Axis) (v : Bool) : (s.setAvailable n v).axes = s.axes := rfl
@[simp] theorem setAvailable_lineConfig (s : State) (n : Axis) (v : Bool) : (s.setAvailable n v).lineConfig = s.lineConfig := rfl
@[simp] theorem setAvailable_portConfig (s : State) (n : Axis) (v : Bool) : (s.setAvailable n v).portConfig = s.portConfig := rfl
@[simp] theorem setAvailable_freezeLevel (s : State) (n : Axis) (v : Bool) : (s.setAvailable n v).freezeLevel = s.freezeLevel := rfl
@[simp] theorem setAvailable_pointer (s : State) (n : Axis) (v : Bool) : (s.setAvailable n v).pointer = s.pointer := rfl
@[simp] theorem setAvailable_running (s : State) (n : Axis) (v : Bool) : (s.setAvailable n v).running = s.running := rfl
@[simp] theorem setAvailable_passes (s : State) (n : Axis) (v : Bool) : (s.setAvailable n v).passes = s.passes := rfl
@[simp] theorem setAvailable_conditions (s : State) (n : Axis) (v : Bool) : (s.setAvailable n v).conditions = s.conditions := rfl
@[simp] theorem setAvailable_dwells (s : State) (n : Axis) (v : Bool) : (s.setAvailable n v).dwells = s.dwells := rfl
@[simp] theorem setAvailable_trackers (s : State) (n : Axis) (v : Bool) : (s.setAvailable n v).trackers = s.trackers := rfl
@[simp] theorem setAvailable_lines (s : State) (n : Axis) (v : Bool) : (s.setAvailable n v).lines = s.lines := rfl
@[simp] theorem setAvailable_ports (s : State) (n : Axis) (v : Bool) : (s.setAvailable n v).ports = s.ports := rfl
@[simp] theorem setAvailable_rows (s : State) (n : Axis) (v : Bool) : (s.setAvailable n v).rows = s.rows := rfl
@[simp] theorem setAvailable_wornRows (s : State) (n : Axis) (v : Bool) : (s.setAvailable n v).wornRows = s.wornRows := rfl
@[simp] theorem setAvailable_copyMap (s : State) (n : Axis) (v : Bool) : (s.setAvailable n v).copyMap = s.copyMap := rfl
@[simp] theorem setAvailable_queue (s : State) (n : Axis) (v : Bool) : (s.setAvailable n v).queue = s.queue := rfl
@[simp] theorem setAvailable_engine (s : State) (n : Axis) (v : Bool) : (s.setAvailable n v).engine = s.engine := rfl
@[simp] theorem setAvailable_array (s : State) (n : Axis) (v : Bool) : (s.setAvailable n v).array = s.array := rfl
@[simp] theorem setAvailable_committedFreeze (s : State) (n : Axis) (v : Bool) : (s.setAvailable n v).committedFreeze = s.committedFreeze := rfl
@[simp] theorem setAvailable_sweep (s : State) (n : Axis) (v : Bool) : (s.setAvailable n v).sweep = s.sweep := rfl
@[simp] theorem setAvailable_get_held (s : State) (n : Axis) (v : Bool) :
    (s.setAvailable n v).held = s.held := rfl
@[simp] theorem setAvailable_get_inService (s : State) (n : Axis) (v : Bool) :
    (s.setAvailable n v).inService = s.inService := rfl
@[simp] theorem setAvailable_get_slot (s : State) (n : Axis) (v : Bool) (j : SlotNo) :
    (s.setAvailable n v).slot j = s.slot j := rfl
@[simp] theorem setAvailable_get_zone (s : State) (n : Axis) (v : Bool) (j : SlotNo) :
    (s.setAvailable n v).zone j = s.zone j := rfl
@[simp] theorem setAvailable_get_zoneList (s : State) (n : Axis) (v : Bool) (m : Axis) (d : Kind) :
    (s.setAvailable n v).zoneList m d = s.zoneList m d := rfl
@[simp] theorem setAvailable_get_tracker (s : State) (n : Axis) (v : Bool) (m : Axis) :
    (s.setAvailable n v).tracker m = s.tracker m := rfl
@[simp] theorem setAvailable_get_axisConfig (s : State) (n : Axis) (v : Bool) (m : Axis) :
    (s.setAvailable n v).axisConfig m = s.axisConfig m := rfl
@[simp] theorem setAvailable_get_pendingPass (s : State) (n : Axis) (v : Bool) (m : Axis) :
    (s.setAvailable n v).pendingPass m = s.pendingPass m := rfl
@[simp] theorem setAvailable_get_pendingConditions (s : State) (n : Axis) (v : Bool) (m : Axis) :
    (s.setAvailable n v).pendingConditions m = s.pendingConditions m := rfl
@[simp] theorem setAvailable_get_dwell (s : State) (n : Axis) (v : Bool) (j : SlotNo) :
    (s.setAvailable n v).dwell j = s.dwell j := rfl
@[simp] theorem setAvailable_get_line (s : State) (n : Axis) (v : Bool) (m : LineNo) :
    (s.setAvailable n v).line m = s.line m := rfl
@[simp] theorem setAvailable_get_port (s : State) (n : Axis) (v : Bool) (q : Port) :
    (s.setAvailable n v).port q = s.port q := rfl
@[simp] theorem setAvailable_get_row (s : State) (n : Axis) (v : Bool) (q : RowNo) :
    (s.setAvailable n v).row q = s.row q := rfl
@[simp] theorem setAvailable_get_worn (s : State) (n : Axis) (v : Bool) (q : RowNo) :
    (s.setAvailable n v).worn q = s.worn q := rfl
@[simp] theorem setAvailable_get_item (s : State) (n : Axis) (v : Bool) (q : ItemNo) :
    (s.setAvailable n v).item q = s.item q := rfl
theorem setAvailable_at (s : State) (n : Axis) (v : Bool) (m : Axis) :
    (s.setAvailable n v).available[m] = if m = n then v else s.available[m] := by
  simp only [setAvailable, Fin.getElem_fin, Vector.getElem_set, Fin.ext_iff, eq_comm]

/-! ### setAxisConfig -/

@[simp] theorem setAxisConfig_pending (s : State) (n : Axis) (v : AxisConfig) : (s.setAxisConfig n v).pending = s.pending := rfl
@[simp] theorem setAxisConfig_now (s : State) (n : Axis) (v : AxisConfig) : (s.setAxisConfig n v).now = s.now := rfl
@[simp] theorem setAxisConfig_device (s : State) (n : Axis) (v : AxisConfig) : (s.setAxisConfig n v).device = s.device := rfl
@[simp] theorem setAxisConfig_supplyValid (s : State) (n : Axis) (v : AxisConfig) : (s.setAxisConfig n v).supplyValid = s.supplyValid := rfl
@[simp] theorem setAxisConfig_resetN (s : State) (n : Axis) (v : AxisConfig) : (s.setAxisConfig n v).resetN = s.resetN := rfl
@[simp] theorem setAxisConfig_load (s : State) (n : Axis) (v : AxisConfig) : (s.setAxisConfig n v).load = s.load := rfl
@[simp] theorem setAxisConfig_slots (s : State) (n : Axis) (v : AxisConfig) : (s.setAxisConfig n v).slots = s.slots := rfl
@[simp] theorem setAxisConfig_absolute (s : State) (n : Axis) (v : AxisConfig) : (s.setAxisConfig n v).absolute = s.absolute := rfl
@[simp] theorem setAxisConfig_periodic (s : State) (n : Axis) (v : AxisConfig) : (s.setAxisConfig n v).periodic = s.periodic := rfl
@[simp] theorem setAxisConfig_available (s : State) (n : Axis) (v : AxisConfig) : (s.setAxisConfig n v).available = s.available := rfl
@[simp] theorem setAxisConfig_axes (s : State) (n : Axis) (v : AxisConfig) : (s.setAxisConfig n v).axes = s.axes.set n v := rfl
@[simp] theorem setAxisConfig_lineConfig (s : State) (n : Axis) (v : AxisConfig) : (s.setAxisConfig n v).lineConfig = s.lineConfig := rfl
@[simp] theorem setAxisConfig_portConfig (s : State) (n : Axis) (v : AxisConfig) : (s.setAxisConfig n v).portConfig = s.portConfig := rfl
@[simp] theorem setAxisConfig_freezeLevel (s : State) (n : Axis) (v : AxisConfig) : (s.setAxisConfig n v).freezeLevel = s.freezeLevel := rfl
@[simp] theorem setAxisConfig_pointer (s : State) (n : Axis) (v : AxisConfig) : (s.setAxisConfig n v).pointer = s.pointer := rfl
@[simp] theorem setAxisConfig_running (s : State) (n : Axis) (v : AxisConfig) : (s.setAxisConfig n v).running = s.running := rfl
@[simp] theorem setAxisConfig_passes (s : State) (n : Axis) (v : AxisConfig) : (s.setAxisConfig n v).passes = s.passes := rfl
@[simp] theorem setAxisConfig_conditions (s : State) (n : Axis) (v : AxisConfig) : (s.setAxisConfig n v).conditions = s.conditions := rfl
@[simp] theorem setAxisConfig_dwells (s : State) (n : Axis) (v : AxisConfig) : (s.setAxisConfig n v).dwells = s.dwells := rfl
@[simp] theorem setAxisConfig_trackers (s : State) (n : Axis) (v : AxisConfig) : (s.setAxisConfig n v).trackers = s.trackers := rfl
@[simp] theorem setAxisConfig_lines (s : State) (n : Axis) (v : AxisConfig) : (s.setAxisConfig n v).lines = s.lines := rfl
@[simp] theorem setAxisConfig_ports (s : State) (n : Axis) (v : AxisConfig) : (s.setAxisConfig n v).ports = s.ports := rfl
@[simp] theorem setAxisConfig_rows (s : State) (n : Axis) (v : AxisConfig) : (s.setAxisConfig n v).rows = s.rows := rfl
@[simp] theorem setAxisConfig_wornRows (s : State) (n : Axis) (v : AxisConfig) : (s.setAxisConfig n v).wornRows = s.wornRows := rfl
@[simp] theorem setAxisConfig_copyMap (s : State) (n : Axis) (v : AxisConfig) : (s.setAxisConfig n v).copyMap = s.copyMap := rfl
@[simp] theorem setAxisConfig_queue (s : State) (n : Axis) (v : AxisConfig) : (s.setAxisConfig n v).queue = s.queue := rfl
@[simp] theorem setAxisConfig_engine (s : State) (n : Axis) (v : AxisConfig) : (s.setAxisConfig n v).engine = s.engine := rfl
@[simp] theorem setAxisConfig_array (s : State) (n : Axis) (v : AxisConfig) : (s.setAxisConfig n v).array = s.array := rfl
@[simp] theorem setAxisConfig_committedFreeze (s : State) (n : Axis) (v : AxisConfig) : (s.setAxisConfig n v).committedFreeze = s.committedFreeze := rfl
@[simp] theorem setAxisConfig_sweep (s : State) (n : Axis) (v : AxisConfig) : (s.setAxisConfig n v).sweep = s.sweep := rfl
@[simp] theorem setAxisConfig_get_held (s : State) (n : Axis) (v : AxisConfig) :
    (s.setAxisConfig n v).held = s.held := rfl
@[simp] theorem setAxisConfig_get_inService (s : State) (n : Axis) (v : AxisConfig) :
    (s.setAxisConfig n v).inService = s.inService := rfl
@[simp] theorem setAxisConfig_get_slot (s : State) (n : Axis) (v : AxisConfig) (j : SlotNo) :
    (s.setAxisConfig n v).slot j = s.slot j := rfl
@[simp] theorem setAxisConfig_get_zone (s : State) (n : Axis) (v : AxisConfig) (j : SlotNo) :
    (s.setAxisConfig n v).zone j = s.zone j := rfl
@[simp] theorem setAxisConfig_get_zoneList (s : State) (n : Axis) (v : AxisConfig) (m : Axis) (d : Kind) :
    (s.setAxisConfig n v).zoneList m d = s.zoneList m d := rfl
@[simp] theorem setAxisConfig_get_tracker (s : State) (n : Axis) (v : AxisConfig) (m : Axis) :
    (s.setAxisConfig n v).tracker m = s.tracker m := rfl
@[simp] theorem setAxisConfig_get_pendingPass (s : State) (n : Axis) (v : AxisConfig) (m : Axis) :
    (s.setAxisConfig n v).pendingPass m = s.pendingPass m := rfl
@[simp] theorem setAxisConfig_get_pendingConditions (s : State) (n : Axis) (v : AxisConfig) (m : Axis) :
    (s.setAxisConfig n v).pendingConditions m = s.pendingConditions m := rfl
@[simp] theorem setAxisConfig_get_dwell (s : State) (n : Axis) (v : AxisConfig) (j : SlotNo) :
    (s.setAxisConfig n v).dwell j = s.dwell j := rfl
@[simp] theorem setAxisConfig_get_line (s : State) (n : Axis) (v : AxisConfig) (m : LineNo) :
    (s.setAxisConfig n v).line m = s.line m := rfl
@[simp] theorem setAxisConfig_get_port (s : State) (n : Axis) (v : AxisConfig) (q : Port) :
    (s.setAxisConfig n v).port q = s.port q := rfl
@[simp] theorem setAxisConfig_get_row (s : State) (n : Axis) (v : AxisConfig) (q : RowNo) :
    (s.setAxisConfig n v).row q = s.row q := rfl
@[simp] theorem setAxisConfig_get_worn (s : State) (n : Axis) (v : AxisConfig) (q : RowNo) :
    (s.setAxisConfig n v).worn q = s.worn q := rfl
@[simp] theorem setAxisConfig_get_item (s : State) (n : Axis) (v : AxisConfig) (q : ItemNo) :
    (s.setAxisConfig n v).item q = s.item q := rfl
@[simp] theorem setAxisConfig_same (s : State) (n : Axis) (v : AxisConfig) : (s.setAxisConfig n v).axisConfig n = v := by
  simp [setAxisConfig, axisConfig]
theorem setAxisConfig_at (s : State) (n : Axis) (v : AxisConfig) (j : Axis) : (s.setAxisConfig n v).axisConfig j = if j = n then v else s.axisConfig j := by
  simp only [setAxisConfig, axisConfig, Fin.getElem_fin, Vector.getElem_set, Fin.ext_iff, eq_comm]

/-! ### setLineConfig -/

@[simp] theorem setLineConfig_pending (s : State) (v : Vector LineConfig 8) : (s.setLineConfig v).pending = s.pending := rfl
@[simp] theorem setLineConfig_now (s : State) (v : Vector LineConfig 8) : (s.setLineConfig v).now = s.now := rfl
@[simp] theorem setLineConfig_device (s : State) (v : Vector LineConfig 8) : (s.setLineConfig v).device = s.device := rfl
@[simp] theorem setLineConfig_supplyValid (s : State) (v : Vector LineConfig 8) : (s.setLineConfig v).supplyValid = s.supplyValid := rfl
@[simp] theorem setLineConfig_resetN (s : State) (v : Vector LineConfig 8) : (s.setLineConfig v).resetN = s.resetN := rfl
@[simp] theorem setLineConfig_load (s : State) (v : Vector LineConfig 8) : (s.setLineConfig v).load = s.load := rfl
@[simp] theorem setLineConfig_slots (s : State) (v : Vector LineConfig 8) : (s.setLineConfig v).slots = s.slots := rfl
@[simp] theorem setLineConfig_absolute (s : State) (v : Vector LineConfig 8) : (s.setLineConfig v).absolute = s.absolute := rfl
@[simp] theorem setLineConfig_periodic (s : State) (v : Vector LineConfig 8) : (s.setLineConfig v).periodic = s.periodic := rfl
@[simp] theorem setLineConfig_available (s : State) (v : Vector LineConfig 8) : (s.setLineConfig v).available = s.available := rfl
@[simp] theorem setLineConfig_axes (s : State) (v : Vector LineConfig 8) : (s.setLineConfig v).axes = s.axes := rfl
@[simp] theorem setLineConfig_lineConfig (s : State) (v : Vector LineConfig 8) : (s.setLineConfig v).lineConfig = v := rfl
@[simp] theorem setLineConfig_portConfig (s : State) (v : Vector LineConfig 8) : (s.setLineConfig v).portConfig = s.portConfig := rfl
@[simp] theorem setLineConfig_freezeLevel (s : State) (v : Vector LineConfig 8) : (s.setLineConfig v).freezeLevel = s.freezeLevel := rfl
@[simp] theorem setLineConfig_pointer (s : State) (v : Vector LineConfig 8) : (s.setLineConfig v).pointer = s.pointer := rfl
@[simp] theorem setLineConfig_running (s : State) (v : Vector LineConfig 8) : (s.setLineConfig v).running = s.running := rfl
@[simp] theorem setLineConfig_passes (s : State) (v : Vector LineConfig 8) : (s.setLineConfig v).passes = s.passes := rfl
@[simp] theorem setLineConfig_conditions (s : State) (v : Vector LineConfig 8) : (s.setLineConfig v).conditions = s.conditions := rfl
@[simp] theorem setLineConfig_dwells (s : State) (v : Vector LineConfig 8) : (s.setLineConfig v).dwells = s.dwells := rfl
@[simp] theorem setLineConfig_trackers (s : State) (v : Vector LineConfig 8) : (s.setLineConfig v).trackers = s.trackers := rfl
@[simp] theorem setLineConfig_lines (s : State) (v : Vector LineConfig 8) : (s.setLineConfig v).lines = s.lines := rfl
@[simp] theorem setLineConfig_ports (s : State) (v : Vector LineConfig 8) : (s.setLineConfig v).ports = s.ports := rfl
@[simp] theorem setLineConfig_rows (s : State) (v : Vector LineConfig 8) : (s.setLineConfig v).rows = s.rows := rfl
@[simp] theorem setLineConfig_wornRows (s : State) (v : Vector LineConfig 8) : (s.setLineConfig v).wornRows = s.wornRows := rfl
@[simp] theorem setLineConfig_copyMap (s : State) (v : Vector LineConfig 8) : (s.setLineConfig v).copyMap = s.copyMap := rfl
@[simp] theorem setLineConfig_queue (s : State) (v : Vector LineConfig 8) : (s.setLineConfig v).queue = s.queue := rfl
@[simp] theorem setLineConfig_engine (s : State) (v : Vector LineConfig 8) : (s.setLineConfig v).engine = s.engine := rfl
@[simp] theorem setLineConfig_array (s : State) (v : Vector LineConfig 8) : (s.setLineConfig v).array = s.array := rfl
@[simp] theorem setLineConfig_committedFreeze (s : State) (v : Vector LineConfig 8) : (s.setLineConfig v).committedFreeze = s.committedFreeze := rfl
@[simp] theorem setLineConfig_sweep (s : State) (v : Vector LineConfig 8) : (s.setLineConfig v).sweep = s.sweep := rfl
@[simp] theorem setLineConfig_get_held (s : State) (v : Vector LineConfig 8) :
    (s.setLineConfig v).held = s.held := rfl
@[simp] theorem setLineConfig_get_inService (s : State) (v : Vector LineConfig 8) :
    (s.setLineConfig v).inService = s.inService := rfl
@[simp] theorem setLineConfig_get_slot (s : State) (v : Vector LineConfig 8) (j : SlotNo) :
    (s.setLineConfig v).slot j = s.slot j := rfl
@[simp] theorem setLineConfig_get_zone (s : State) (v : Vector LineConfig 8) (j : SlotNo) :
    (s.setLineConfig v).zone j = s.zone j := rfl
@[simp] theorem setLineConfig_get_zoneList (s : State) (v : Vector LineConfig 8) (m : Axis) (d : Kind) :
    (s.setLineConfig v).zoneList m d = s.zoneList m d := rfl
@[simp] theorem setLineConfig_get_tracker (s : State) (v : Vector LineConfig 8) (m : Axis) :
    (s.setLineConfig v).tracker m = s.tracker m := rfl
@[simp] theorem setLineConfig_get_axisConfig (s : State) (v : Vector LineConfig 8) (m : Axis) :
    (s.setLineConfig v).axisConfig m = s.axisConfig m := rfl
@[simp] theorem setLineConfig_get_pendingPass (s : State) (v : Vector LineConfig 8) (m : Axis) :
    (s.setLineConfig v).pendingPass m = s.pendingPass m := rfl
@[simp] theorem setLineConfig_get_pendingConditions (s : State) (v : Vector LineConfig 8) (m : Axis) :
    (s.setLineConfig v).pendingConditions m = s.pendingConditions m := rfl
@[simp] theorem setLineConfig_get_dwell (s : State) (v : Vector LineConfig 8) (j : SlotNo) :
    (s.setLineConfig v).dwell j = s.dwell j := rfl
@[simp] theorem setLineConfig_get_line (s : State) (v : Vector LineConfig 8) (m : LineNo) :
    (s.setLineConfig v).line m = s.line m := rfl
@[simp] theorem setLineConfig_get_port (s : State) (v : Vector LineConfig 8) (q : Port) :
    (s.setLineConfig v).port q = s.port q := rfl
@[simp] theorem setLineConfig_get_row (s : State) (v : Vector LineConfig 8) (q : RowNo) :
    (s.setLineConfig v).row q = s.row q := rfl
@[simp] theorem setLineConfig_get_worn (s : State) (v : Vector LineConfig 8) (q : RowNo) :
    (s.setLineConfig v).worn q = s.worn q := rfl
@[simp] theorem setLineConfig_get_item (s : State) (v : Vector LineConfig 8) (q : ItemNo) :
    (s.setLineConfig v).item q = s.item q := rfl

/-! ### setPortConfig -/

@[simp] theorem setPortConfig_pending (s : State) (v : PerPort PortConfig) : (s.setPortConfig v).pending = s.pending := rfl
@[simp] theorem setPortConfig_now (s : State) (v : PerPort PortConfig) : (s.setPortConfig v).now = s.now := rfl
@[simp] theorem setPortConfig_device (s : State) (v : PerPort PortConfig) : (s.setPortConfig v).device = s.device := rfl
@[simp] theorem setPortConfig_supplyValid (s : State) (v : PerPort PortConfig) : (s.setPortConfig v).supplyValid = s.supplyValid := rfl
@[simp] theorem setPortConfig_resetN (s : State) (v : PerPort PortConfig) : (s.setPortConfig v).resetN = s.resetN := rfl
@[simp] theorem setPortConfig_load (s : State) (v : PerPort PortConfig) : (s.setPortConfig v).load = s.load := rfl
@[simp] theorem setPortConfig_slots (s : State) (v : PerPort PortConfig) : (s.setPortConfig v).slots = s.slots := rfl
@[simp] theorem setPortConfig_absolute (s : State) (v : PerPort PortConfig) : (s.setPortConfig v).absolute = s.absolute := rfl
@[simp] theorem setPortConfig_periodic (s : State) (v : PerPort PortConfig) : (s.setPortConfig v).periodic = s.periodic := rfl
@[simp] theorem setPortConfig_available (s : State) (v : PerPort PortConfig) : (s.setPortConfig v).available = s.available := rfl
@[simp] theorem setPortConfig_axes (s : State) (v : PerPort PortConfig) : (s.setPortConfig v).axes = s.axes := rfl
@[simp] theorem setPortConfig_lineConfig (s : State) (v : PerPort PortConfig) : (s.setPortConfig v).lineConfig = s.lineConfig := rfl
@[simp] theorem setPortConfig_portConfig (s : State) (v : PerPort PortConfig) : (s.setPortConfig v).portConfig = v := rfl
@[simp] theorem setPortConfig_freezeLevel (s : State) (v : PerPort PortConfig) : (s.setPortConfig v).freezeLevel = s.freezeLevel := rfl
@[simp] theorem setPortConfig_pointer (s : State) (v : PerPort PortConfig) : (s.setPortConfig v).pointer = s.pointer := rfl
@[simp] theorem setPortConfig_running (s : State) (v : PerPort PortConfig) : (s.setPortConfig v).running = s.running := rfl
@[simp] theorem setPortConfig_passes (s : State) (v : PerPort PortConfig) : (s.setPortConfig v).passes = s.passes := rfl
@[simp] theorem setPortConfig_conditions (s : State) (v : PerPort PortConfig) : (s.setPortConfig v).conditions = s.conditions := rfl
@[simp] theorem setPortConfig_dwells (s : State) (v : PerPort PortConfig) : (s.setPortConfig v).dwells = s.dwells := rfl
@[simp] theorem setPortConfig_trackers (s : State) (v : PerPort PortConfig) : (s.setPortConfig v).trackers = s.trackers := rfl
@[simp] theorem setPortConfig_lines (s : State) (v : PerPort PortConfig) : (s.setPortConfig v).lines = s.lines := rfl
@[simp] theorem setPortConfig_ports (s : State) (v : PerPort PortConfig) : (s.setPortConfig v).ports = s.ports := rfl
@[simp] theorem setPortConfig_rows (s : State) (v : PerPort PortConfig) : (s.setPortConfig v).rows = s.rows := rfl
@[simp] theorem setPortConfig_wornRows (s : State) (v : PerPort PortConfig) : (s.setPortConfig v).wornRows = s.wornRows := rfl
@[simp] theorem setPortConfig_copyMap (s : State) (v : PerPort PortConfig) : (s.setPortConfig v).copyMap = s.copyMap := rfl
@[simp] theorem setPortConfig_queue (s : State) (v : PerPort PortConfig) : (s.setPortConfig v).queue = s.queue := rfl
@[simp] theorem setPortConfig_engine (s : State) (v : PerPort PortConfig) : (s.setPortConfig v).engine = s.engine := rfl
@[simp] theorem setPortConfig_array (s : State) (v : PerPort PortConfig) : (s.setPortConfig v).array = s.array := rfl
@[simp] theorem setPortConfig_committedFreeze (s : State) (v : PerPort PortConfig) : (s.setPortConfig v).committedFreeze = s.committedFreeze := rfl
@[simp] theorem setPortConfig_sweep (s : State) (v : PerPort PortConfig) : (s.setPortConfig v).sweep = s.sweep := rfl
@[simp] theorem setPortConfig_get_held (s : State) (v : PerPort PortConfig) :
    (s.setPortConfig v).held = s.held := rfl
@[simp] theorem setPortConfig_get_inService (s : State) (v : PerPort PortConfig) :
    (s.setPortConfig v).inService = s.inService := rfl
@[simp] theorem setPortConfig_get_slot (s : State) (v : PerPort PortConfig) (j : SlotNo) :
    (s.setPortConfig v).slot j = s.slot j := rfl
@[simp] theorem setPortConfig_get_zone (s : State) (v : PerPort PortConfig) (j : SlotNo) :
    (s.setPortConfig v).zone j = s.zone j := rfl
@[simp] theorem setPortConfig_get_zoneList (s : State) (v : PerPort PortConfig) (m : Axis) (d : Kind) :
    (s.setPortConfig v).zoneList m d = s.zoneList m d := rfl
@[simp] theorem setPortConfig_get_tracker (s : State) (v : PerPort PortConfig) (m : Axis) :
    (s.setPortConfig v).tracker m = s.tracker m := rfl
@[simp] theorem setPortConfig_get_axisConfig (s : State) (v : PerPort PortConfig) (m : Axis) :
    (s.setPortConfig v).axisConfig m = s.axisConfig m := rfl
@[simp] theorem setPortConfig_get_pendingPass (s : State) (v : PerPort PortConfig) (m : Axis) :
    (s.setPortConfig v).pendingPass m = s.pendingPass m := rfl
@[simp] theorem setPortConfig_get_pendingConditions (s : State) (v : PerPort PortConfig) (m : Axis) :
    (s.setPortConfig v).pendingConditions m = s.pendingConditions m := rfl
@[simp] theorem setPortConfig_get_dwell (s : State) (v : PerPort PortConfig) (j : SlotNo) :
    (s.setPortConfig v).dwell j = s.dwell j := rfl
@[simp] theorem setPortConfig_get_line (s : State) (v : PerPort PortConfig) (m : LineNo) :
    (s.setPortConfig v).line m = s.line m := rfl
@[simp] theorem setPortConfig_get_port (s : State) (v : PerPort PortConfig) (q : Port) :
    (s.setPortConfig v).port q = s.port q := rfl
@[simp] theorem setPortConfig_get_row (s : State) (v : PerPort PortConfig) (q : RowNo) :
    (s.setPortConfig v).row q = s.row q := rfl
@[simp] theorem setPortConfig_get_worn (s : State) (v : PerPort PortConfig) (q : RowNo) :
    (s.setPortConfig v).worn q = s.worn q := rfl
@[simp] theorem setPortConfig_get_item (s : State) (v : PerPort PortConfig) (q : ItemNo) :
    (s.setPortConfig v).item q = s.item q := rfl

/-! ### setFreeze -/

@[simp] theorem setFreeze_pending (s : State) (v : FreezeLevel) : (s.setFreeze v).pending = s.pending := rfl
@[simp] theorem setFreeze_now (s : State) (v : FreezeLevel) : (s.setFreeze v).now = s.now := rfl
@[simp] theorem setFreeze_device (s : State) (v : FreezeLevel) : (s.setFreeze v).device = s.device := rfl
@[simp] theorem setFreeze_supplyValid (s : State) (v : FreezeLevel) : (s.setFreeze v).supplyValid = s.supplyValid := rfl
@[simp] theorem setFreeze_resetN (s : State) (v : FreezeLevel) : (s.setFreeze v).resetN = s.resetN := rfl
@[simp] theorem setFreeze_load (s : State) (v : FreezeLevel) : (s.setFreeze v).load = s.load := rfl
@[simp] theorem setFreeze_slots (s : State) (v : FreezeLevel) : (s.setFreeze v).slots = s.slots := rfl
@[simp] theorem setFreeze_absolute (s : State) (v : FreezeLevel) : (s.setFreeze v).absolute = s.absolute := rfl
@[simp] theorem setFreeze_periodic (s : State) (v : FreezeLevel) : (s.setFreeze v).periodic = s.periodic := rfl
@[simp] theorem setFreeze_available (s : State) (v : FreezeLevel) : (s.setFreeze v).available = s.available := rfl
@[simp] theorem setFreeze_axes (s : State) (v : FreezeLevel) : (s.setFreeze v).axes = s.axes := rfl
@[simp] theorem setFreeze_lineConfig (s : State) (v : FreezeLevel) : (s.setFreeze v).lineConfig = s.lineConfig := rfl
@[simp] theorem setFreeze_portConfig (s : State) (v : FreezeLevel) : (s.setFreeze v).portConfig = s.portConfig := rfl
@[simp] theorem setFreeze_freezeLevel (s : State) (v : FreezeLevel) : (s.setFreeze v).freezeLevel = v := rfl
@[simp] theorem setFreeze_pointer (s : State) (v : FreezeLevel) : (s.setFreeze v).pointer = s.pointer := rfl
@[simp] theorem setFreeze_running (s : State) (v : FreezeLevel) : (s.setFreeze v).running = s.running := rfl
@[simp] theorem setFreeze_passes (s : State) (v : FreezeLevel) : (s.setFreeze v).passes = s.passes := rfl
@[simp] theorem setFreeze_conditions (s : State) (v : FreezeLevel) : (s.setFreeze v).conditions = s.conditions := rfl
@[simp] theorem setFreeze_dwells (s : State) (v : FreezeLevel) : (s.setFreeze v).dwells = s.dwells := rfl
@[simp] theorem setFreeze_trackers (s : State) (v : FreezeLevel) : (s.setFreeze v).trackers = s.trackers := rfl
@[simp] theorem setFreeze_lines (s : State) (v : FreezeLevel) : (s.setFreeze v).lines = s.lines := rfl
@[simp] theorem setFreeze_ports (s : State) (v : FreezeLevel) : (s.setFreeze v).ports = s.ports := rfl
@[simp] theorem setFreeze_rows (s : State) (v : FreezeLevel) : (s.setFreeze v).rows = s.rows := rfl
@[simp] theorem setFreeze_wornRows (s : State) (v : FreezeLevel) : (s.setFreeze v).wornRows = s.wornRows := rfl
@[simp] theorem setFreeze_copyMap (s : State) (v : FreezeLevel) : (s.setFreeze v).copyMap = s.copyMap := rfl
@[simp] theorem setFreeze_queue (s : State) (v : FreezeLevel) : (s.setFreeze v).queue = s.queue := rfl
@[simp] theorem setFreeze_engine (s : State) (v : FreezeLevel) : (s.setFreeze v).engine = s.engine := rfl
@[simp] theorem setFreeze_array (s : State) (v : FreezeLevel) : (s.setFreeze v).array = s.array := rfl
@[simp] theorem setFreeze_committedFreeze (s : State) (v : FreezeLevel) : (s.setFreeze v).committedFreeze = s.committedFreeze := rfl
@[simp] theorem setFreeze_sweep (s : State) (v : FreezeLevel) : (s.setFreeze v).sweep = s.sweep := rfl
@[simp] theorem setFreeze_get_held (s : State) (v : FreezeLevel) :
    (s.setFreeze v).held = s.held := rfl
@[simp] theorem setFreeze_get_inService (s : State) (v : FreezeLevel) :
    (s.setFreeze v).inService = s.inService := rfl
@[simp] theorem setFreeze_get_slot (s : State) (v : FreezeLevel) (j : SlotNo) :
    (s.setFreeze v).slot j = s.slot j := rfl
@[simp] theorem setFreeze_get_zone (s : State) (v : FreezeLevel) (j : SlotNo) :
    (s.setFreeze v).zone j = s.zone j := rfl
@[simp] theorem setFreeze_get_zoneList (s : State) (v : FreezeLevel) (m : Axis) (d : Kind) :
    (s.setFreeze v).zoneList m d = s.zoneList m d := rfl
@[simp] theorem setFreeze_get_tracker (s : State) (v : FreezeLevel) (m : Axis) :
    (s.setFreeze v).tracker m = s.tracker m := rfl
@[simp] theorem setFreeze_get_axisConfig (s : State) (v : FreezeLevel) (m : Axis) :
    (s.setFreeze v).axisConfig m = s.axisConfig m := rfl
@[simp] theorem setFreeze_get_pendingPass (s : State) (v : FreezeLevel) (m : Axis) :
    (s.setFreeze v).pendingPass m = s.pendingPass m := rfl
@[simp] theorem setFreeze_get_pendingConditions (s : State) (v : FreezeLevel) (m : Axis) :
    (s.setFreeze v).pendingConditions m = s.pendingConditions m := rfl
@[simp] theorem setFreeze_get_dwell (s : State) (v : FreezeLevel) (j : SlotNo) :
    (s.setFreeze v).dwell j = s.dwell j := rfl
@[simp] theorem setFreeze_get_line (s : State) (v : FreezeLevel) (m : LineNo) :
    (s.setFreeze v).line m = s.line m := rfl
@[simp] theorem setFreeze_get_port (s : State) (v : FreezeLevel) (q : Port) :
    (s.setFreeze v).port q = s.port q := rfl
@[simp] theorem setFreeze_get_row (s : State) (v : FreezeLevel) (q : RowNo) :
    (s.setFreeze v).row q = s.row q := rfl
@[simp] theorem setFreeze_get_worn (s : State) (v : FreezeLevel) (q : RowNo) :
    (s.setFreeze v).worn q = s.worn q := rfl
@[simp] theorem setFreeze_get_item (s : State) (v : FreezeLevel) (q : ItemNo) :
    (s.setFreeze v).item q = s.item q := rfl

/-! ### setPointer -/

@[simp] theorem setPointer_pending (s : State) (v : Claimant) : (s.setPointer v).pending = s.pending := rfl
@[simp] theorem setPointer_now (s : State) (v : Claimant) : (s.setPointer v).now = s.now := rfl
@[simp] theorem setPointer_device (s : State) (v : Claimant) : (s.setPointer v).device = s.device := rfl
@[simp] theorem setPointer_supplyValid (s : State) (v : Claimant) : (s.setPointer v).supplyValid = s.supplyValid := rfl
@[simp] theorem setPointer_resetN (s : State) (v : Claimant) : (s.setPointer v).resetN = s.resetN := rfl
@[simp] theorem setPointer_load (s : State) (v : Claimant) : (s.setPointer v).load = s.load := rfl
@[simp] theorem setPointer_slots (s : State) (v : Claimant) : (s.setPointer v).slots = s.slots := rfl
@[simp] theorem setPointer_absolute (s : State) (v : Claimant) : (s.setPointer v).absolute = s.absolute := rfl
@[simp] theorem setPointer_periodic (s : State) (v : Claimant) : (s.setPointer v).periodic = s.periodic := rfl
@[simp] theorem setPointer_available (s : State) (v : Claimant) : (s.setPointer v).available = s.available := rfl
@[simp] theorem setPointer_axes (s : State) (v : Claimant) : (s.setPointer v).axes = s.axes := rfl
@[simp] theorem setPointer_lineConfig (s : State) (v : Claimant) : (s.setPointer v).lineConfig = s.lineConfig := rfl
@[simp] theorem setPointer_portConfig (s : State) (v : Claimant) : (s.setPointer v).portConfig = s.portConfig := rfl
@[simp] theorem setPointer_freezeLevel (s : State) (v : Claimant) : (s.setPointer v).freezeLevel = s.freezeLevel := rfl
@[simp] theorem setPointer_pointer (s : State) (v : Claimant) : (s.setPointer v).pointer = v := rfl
@[simp] theorem setPointer_running (s : State) (v : Claimant) : (s.setPointer v).running = s.running := rfl
@[simp] theorem setPointer_passes (s : State) (v : Claimant) : (s.setPointer v).passes = s.passes := rfl
@[simp] theorem setPointer_conditions (s : State) (v : Claimant) : (s.setPointer v).conditions = s.conditions := rfl
@[simp] theorem setPointer_dwells (s : State) (v : Claimant) : (s.setPointer v).dwells = s.dwells := rfl
@[simp] theorem setPointer_trackers (s : State) (v : Claimant) : (s.setPointer v).trackers = s.trackers := rfl
@[simp] theorem setPointer_lines (s : State) (v : Claimant) : (s.setPointer v).lines = s.lines := rfl
@[simp] theorem setPointer_ports (s : State) (v : Claimant) : (s.setPointer v).ports = s.ports := rfl
@[simp] theorem setPointer_rows (s : State) (v : Claimant) : (s.setPointer v).rows = s.rows := rfl
@[simp] theorem setPointer_wornRows (s : State) (v : Claimant) : (s.setPointer v).wornRows = s.wornRows := rfl
@[simp] theorem setPointer_copyMap (s : State) (v : Claimant) : (s.setPointer v).copyMap = s.copyMap := rfl
@[simp] theorem setPointer_queue (s : State) (v : Claimant) : (s.setPointer v).queue = s.queue := rfl
@[simp] theorem setPointer_engine (s : State) (v : Claimant) : (s.setPointer v).engine = s.engine := rfl
@[simp] theorem setPointer_array (s : State) (v : Claimant) : (s.setPointer v).array = s.array := rfl
@[simp] theorem setPointer_committedFreeze (s : State) (v : Claimant) : (s.setPointer v).committedFreeze = s.committedFreeze := rfl
@[simp] theorem setPointer_sweep (s : State) (v : Claimant) : (s.setPointer v).sweep = s.sweep := rfl
@[simp] theorem setPointer_get_held (s : State) (v : Claimant) :
    (s.setPointer v).held = s.held := rfl
@[simp] theorem setPointer_get_inService (s : State) (v : Claimant) :
    (s.setPointer v).inService = s.inService := rfl
@[simp] theorem setPointer_get_slot (s : State) (v : Claimant) (j : SlotNo) :
    (s.setPointer v).slot j = s.slot j := rfl
@[simp] theorem setPointer_get_zone (s : State) (v : Claimant) (j : SlotNo) :
    (s.setPointer v).zone j = s.zone j := rfl
@[simp] theorem setPointer_get_zoneList (s : State) (v : Claimant) (m : Axis) (d : Kind) :
    (s.setPointer v).zoneList m d = s.zoneList m d := rfl
@[simp] theorem setPointer_get_tracker (s : State) (v : Claimant) (m : Axis) :
    (s.setPointer v).tracker m = s.tracker m := rfl
@[simp] theorem setPointer_get_axisConfig (s : State) (v : Claimant) (m : Axis) :
    (s.setPointer v).axisConfig m = s.axisConfig m := rfl
@[simp] theorem setPointer_get_pendingPass (s : State) (v : Claimant) (m : Axis) :
    (s.setPointer v).pendingPass m = s.pendingPass m := rfl
@[simp] theorem setPointer_get_pendingConditions (s : State) (v : Claimant) (m : Axis) :
    (s.setPointer v).pendingConditions m = s.pendingConditions m := rfl
@[simp] theorem setPointer_get_dwell (s : State) (v : Claimant) (j : SlotNo) :
    (s.setPointer v).dwell j = s.dwell j := rfl
@[simp] theorem setPointer_get_line (s : State) (v : Claimant) (m : LineNo) :
    (s.setPointer v).line m = s.line m := rfl
@[simp] theorem setPointer_get_port (s : State) (v : Claimant) (q : Port) :
    (s.setPointer v).port q = s.port q := rfl
@[simp] theorem setPointer_get_row (s : State) (v : Claimant) (q : RowNo) :
    (s.setPointer v).row q = s.row q := rfl
@[simp] theorem setPointer_get_worn (s : State) (v : Claimant) (q : RowNo) :
    (s.setPointer v).worn q = s.worn q := rfl
@[simp] theorem setPointer_get_item (s : State) (v : Claimant) (q : ItemNo) :
    (s.setPointer v).item q = s.item q := rfl

/-! ### setRunning -/

@[simp] theorem setRunning_pending (s : State) (v : Option RunningGrant) : (s.setRunning v).pending = s.pending := rfl
@[simp] theorem setRunning_now (s : State) (v : Option RunningGrant) : (s.setRunning v).now = s.now := rfl
@[simp] theorem setRunning_device (s : State) (v : Option RunningGrant) : (s.setRunning v).device = s.device := rfl
@[simp] theorem setRunning_supplyValid (s : State) (v : Option RunningGrant) : (s.setRunning v).supplyValid = s.supplyValid := rfl
@[simp] theorem setRunning_resetN (s : State) (v : Option RunningGrant) : (s.setRunning v).resetN = s.resetN := rfl
@[simp] theorem setRunning_load (s : State) (v : Option RunningGrant) : (s.setRunning v).load = s.load := rfl
@[simp] theorem setRunning_slots (s : State) (v : Option RunningGrant) : (s.setRunning v).slots = s.slots := rfl
@[simp] theorem setRunning_absolute (s : State) (v : Option RunningGrant) : (s.setRunning v).absolute = s.absolute := rfl
@[simp] theorem setRunning_periodic (s : State) (v : Option RunningGrant) : (s.setRunning v).periodic = s.periodic := rfl
@[simp] theorem setRunning_available (s : State) (v : Option RunningGrant) : (s.setRunning v).available = s.available := rfl
@[simp] theorem setRunning_axes (s : State) (v : Option RunningGrant) : (s.setRunning v).axes = s.axes := rfl
@[simp] theorem setRunning_lineConfig (s : State) (v : Option RunningGrant) : (s.setRunning v).lineConfig = s.lineConfig := rfl
@[simp] theorem setRunning_portConfig (s : State) (v : Option RunningGrant) : (s.setRunning v).portConfig = s.portConfig := rfl
@[simp] theorem setRunning_freezeLevel (s : State) (v : Option RunningGrant) : (s.setRunning v).freezeLevel = s.freezeLevel := rfl
@[simp] theorem setRunning_pointer (s : State) (v : Option RunningGrant) : (s.setRunning v).pointer = s.pointer := rfl
@[simp] theorem setRunning_running (s : State) (v : Option RunningGrant) : (s.setRunning v).running = v := rfl
@[simp] theorem setRunning_passes (s : State) (v : Option RunningGrant) : (s.setRunning v).passes = s.passes := rfl
@[simp] theorem setRunning_conditions (s : State) (v : Option RunningGrant) : (s.setRunning v).conditions = s.conditions := rfl
@[simp] theorem setRunning_dwells (s : State) (v : Option RunningGrant) : (s.setRunning v).dwells = s.dwells := rfl
@[simp] theorem setRunning_trackers (s : State) (v : Option RunningGrant) : (s.setRunning v).trackers = s.trackers := rfl
@[simp] theorem setRunning_lines (s : State) (v : Option RunningGrant) : (s.setRunning v).lines = s.lines := rfl
@[simp] theorem setRunning_ports (s : State) (v : Option RunningGrant) : (s.setRunning v).ports = s.ports := rfl
@[simp] theorem setRunning_rows (s : State) (v : Option RunningGrant) : (s.setRunning v).rows = s.rows := rfl
@[simp] theorem setRunning_wornRows (s : State) (v : Option RunningGrant) : (s.setRunning v).wornRows = s.wornRows := rfl
@[simp] theorem setRunning_copyMap (s : State) (v : Option RunningGrant) : (s.setRunning v).copyMap = s.copyMap := rfl
@[simp] theorem setRunning_queue (s : State) (v : Option RunningGrant) : (s.setRunning v).queue = s.queue := rfl
@[simp] theorem setRunning_engine (s : State) (v : Option RunningGrant) : (s.setRunning v).engine = s.engine := rfl
@[simp] theorem setRunning_array (s : State) (v : Option RunningGrant) : (s.setRunning v).array = s.array := rfl
@[simp] theorem setRunning_committedFreeze (s : State) (v : Option RunningGrant) : (s.setRunning v).committedFreeze = s.committedFreeze := rfl
@[simp] theorem setRunning_sweep (s : State) (v : Option RunningGrant) : (s.setRunning v).sweep = s.sweep := rfl
@[simp] theorem setRunning_get_held (s : State) (v : Option RunningGrant) :
    (s.setRunning v).held = s.held := rfl
@[simp] theorem setRunning_get_inService (s : State) (v : Option RunningGrant) :
    (s.setRunning v).inService = s.inService := rfl
@[simp] theorem setRunning_get_slot (s : State) (v : Option RunningGrant) (j : SlotNo) :
    (s.setRunning v).slot j = s.slot j := rfl
@[simp] theorem setRunning_get_zone (s : State) (v : Option RunningGrant) (j : SlotNo) :
    (s.setRunning v).zone j = s.zone j := rfl
@[simp] theorem setRunning_get_zoneList (s : State) (v : Option RunningGrant) (m : Axis) (d : Kind) :
    (s.setRunning v).zoneList m d = s.zoneList m d := rfl
@[simp] theorem setRunning_get_tracker (s : State) (v : Option RunningGrant) (m : Axis) :
    (s.setRunning v).tracker m = s.tracker m := rfl
@[simp] theorem setRunning_get_axisConfig (s : State) (v : Option RunningGrant) (m : Axis) :
    (s.setRunning v).axisConfig m = s.axisConfig m := rfl
@[simp] theorem setRunning_get_pendingPass (s : State) (v : Option RunningGrant) (m : Axis) :
    (s.setRunning v).pendingPass m = s.pendingPass m := rfl
@[simp] theorem setRunning_get_pendingConditions (s : State) (v : Option RunningGrant) (m : Axis) :
    (s.setRunning v).pendingConditions m = s.pendingConditions m := rfl
@[simp] theorem setRunning_get_dwell (s : State) (v : Option RunningGrant) (j : SlotNo) :
    (s.setRunning v).dwell j = s.dwell j := rfl
@[simp] theorem setRunning_get_line (s : State) (v : Option RunningGrant) (m : LineNo) :
    (s.setRunning v).line m = s.line m := rfl
@[simp] theorem setRunning_get_port (s : State) (v : Option RunningGrant) (q : Port) :
    (s.setRunning v).port q = s.port q := rfl
@[simp] theorem setRunning_get_row (s : State) (v : Option RunningGrant) (q : RowNo) :
    (s.setRunning v).row q = s.row q := rfl
@[simp] theorem setRunning_get_worn (s : State) (v : Option RunningGrant) (q : RowNo) :
    (s.setRunning v).worn q = s.worn q := rfl
@[simp] theorem setRunning_get_item (s : State) (v : Option RunningGrant) (q : ItemNo) :
    (s.setRunning v).item q = s.item q := rfl

/-! ### setPass -/

@[simp] theorem setPass_pending (s : State) (n : Axis) (v : Option Nat) : (s.setPass n v).pending = s.pending := rfl
@[simp] theorem setPass_now (s : State) (n : Axis) (v : Option Nat) : (s.setPass n v).now = s.now := rfl
@[simp] theorem setPass_device (s : State) (n : Axis) (v : Option Nat) : (s.setPass n v).device = s.device := rfl
@[simp] theorem setPass_supplyValid (s : State) (n : Axis) (v : Option Nat) : (s.setPass n v).supplyValid = s.supplyValid := rfl
@[simp] theorem setPass_resetN (s : State) (n : Axis) (v : Option Nat) : (s.setPass n v).resetN = s.resetN := rfl
@[simp] theorem setPass_load (s : State) (n : Axis) (v : Option Nat) : (s.setPass n v).load = s.load := rfl
@[simp] theorem setPass_slots (s : State) (n : Axis) (v : Option Nat) : (s.setPass n v).slots = s.slots := rfl
@[simp] theorem setPass_absolute (s : State) (n : Axis) (v : Option Nat) : (s.setPass n v).absolute = s.absolute := rfl
@[simp] theorem setPass_periodic (s : State) (n : Axis) (v : Option Nat) : (s.setPass n v).periodic = s.periodic := rfl
@[simp] theorem setPass_available (s : State) (n : Axis) (v : Option Nat) : (s.setPass n v).available = s.available := rfl
@[simp] theorem setPass_axes (s : State) (n : Axis) (v : Option Nat) : (s.setPass n v).axes = s.axes := rfl
@[simp] theorem setPass_lineConfig (s : State) (n : Axis) (v : Option Nat) : (s.setPass n v).lineConfig = s.lineConfig := rfl
@[simp] theorem setPass_portConfig (s : State) (n : Axis) (v : Option Nat) : (s.setPass n v).portConfig = s.portConfig := rfl
@[simp] theorem setPass_freezeLevel (s : State) (n : Axis) (v : Option Nat) : (s.setPass n v).freezeLevel = s.freezeLevel := rfl
@[simp] theorem setPass_pointer (s : State) (n : Axis) (v : Option Nat) : (s.setPass n v).pointer = s.pointer := rfl
@[simp] theorem setPass_running (s : State) (n : Axis) (v : Option Nat) : (s.setPass n v).running = s.running := rfl
@[simp] theorem setPass_passes (s : State) (n : Axis) (v : Option Nat) : (s.setPass n v).passes = s.passes.set n v := rfl
@[simp] theorem setPass_conditions (s : State) (n : Axis) (v : Option Nat) : (s.setPass n v).conditions = s.conditions := rfl
@[simp] theorem setPass_dwells (s : State) (n : Axis) (v : Option Nat) : (s.setPass n v).dwells = s.dwells := rfl
@[simp] theorem setPass_trackers (s : State) (n : Axis) (v : Option Nat) : (s.setPass n v).trackers = s.trackers := rfl
@[simp] theorem setPass_lines (s : State) (n : Axis) (v : Option Nat) : (s.setPass n v).lines = s.lines := rfl
@[simp] theorem setPass_ports (s : State) (n : Axis) (v : Option Nat) : (s.setPass n v).ports = s.ports := rfl
@[simp] theorem setPass_rows (s : State) (n : Axis) (v : Option Nat) : (s.setPass n v).rows = s.rows := rfl
@[simp] theorem setPass_wornRows (s : State) (n : Axis) (v : Option Nat) : (s.setPass n v).wornRows = s.wornRows := rfl
@[simp] theorem setPass_copyMap (s : State) (n : Axis) (v : Option Nat) : (s.setPass n v).copyMap = s.copyMap := rfl
@[simp] theorem setPass_queue (s : State) (n : Axis) (v : Option Nat) : (s.setPass n v).queue = s.queue := rfl
@[simp] theorem setPass_engine (s : State) (n : Axis) (v : Option Nat) : (s.setPass n v).engine = s.engine := rfl
@[simp] theorem setPass_array (s : State) (n : Axis) (v : Option Nat) : (s.setPass n v).array = s.array := rfl
@[simp] theorem setPass_committedFreeze (s : State) (n : Axis) (v : Option Nat) : (s.setPass n v).committedFreeze = s.committedFreeze := rfl
@[simp] theorem setPass_sweep (s : State) (n : Axis) (v : Option Nat) : (s.setPass n v).sweep = s.sweep := rfl
@[simp] theorem setPass_get_held (s : State) (n : Axis) (v : Option Nat) :
    (s.setPass n v).held = s.held := rfl
@[simp] theorem setPass_get_inService (s : State) (n : Axis) (v : Option Nat) :
    (s.setPass n v).inService = s.inService := rfl
@[simp] theorem setPass_get_slot (s : State) (n : Axis) (v : Option Nat) (j : SlotNo) :
    (s.setPass n v).slot j = s.slot j := rfl
@[simp] theorem setPass_get_zone (s : State) (n : Axis) (v : Option Nat) (j : SlotNo) :
    (s.setPass n v).zone j = s.zone j := rfl
@[simp] theorem setPass_get_zoneList (s : State) (n : Axis) (v : Option Nat) (m : Axis) (d : Kind) :
    (s.setPass n v).zoneList m d = s.zoneList m d := rfl
@[simp] theorem setPass_get_tracker (s : State) (n : Axis) (v : Option Nat) (m : Axis) :
    (s.setPass n v).tracker m = s.tracker m := rfl
@[simp] theorem setPass_get_axisConfig (s : State) (n : Axis) (v : Option Nat) (m : Axis) :
    (s.setPass n v).axisConfig m = s.axisConfig m := rfl
@[simp] theorem setPass_get_pendingConditions (s : State) (n : Axis) (v : Option Nat) (m : Axis) :
    (s.setPass n v).pendingConditions m = s.pendingConditions m := rfl
@[simp] theorem setPass_get_dwell (s : State) (n : Axis) (v : Option Nat) (j : SlotNo) :
    (s.setPass n v).dwell j = s.dwell j := rfl
@[simp] theorem setPass_get_line (s : State) (n : Axis) (v : Option Nat) (m : LineNo) :
    (s.setPass n v).line m = s.line m := rfl
@[simp] theorem setPass_get_port (s : State) (n : Axis) (v : Option Nat) (q : Port) :
    (s.setPass n v).port q = s.port q := rfl
@[simp] theorem setPass_get_row (s : State) (n : Axis) (v : Option Nat) (q : RowNo) :
    (s.setPass n v).row q = s.row q := rfl
@[simp] theorem setPass_get_worn (s : State) (n : Axis) (v : Option Nat) (q : RowNo) :
    (s.setPass n v).worn q = s.worn q := rfl
@[simp] theorem setPass_get_item (s : State) (n : Axis) (v : Option Nat) (q : ItemNo) :
    (s.setPass n v).item q = s.item q := rfl
@[simp] theorem setPass_same (s : State) (n : Axis) (v : Option Nat) : (s.setPass n v).pendingPass n = v := by
  simp [setPass, pendingPass]
theorem setPass_at (s : State) (n : Axis) (v : Option Nat) (j : Axis) : (s.setPass n v).pendingPass j = if j = n then v else s.pendingPass j := by
  simp only [setPass, pendingPass, Fin.getElem_fin, Vector.getElem_set, Fin.ext_iff, eq_comm]

/-! ### setConditions -/

@[simp] theorem setConditions_pending (s : State) (n : Axis) (v : List Condition) : (s.setConditions n v).pending = s.pending := rfl
@[simp] theorem setConditions_now (s : State) (n : Axis) (v : List Condition) : (s.setConditions n v).now = s.now := rfl
@[simp] theorem setConditions_device (s : State) (n : Axis) (v : List Condition) : (s.setConditions n v).device = s.device := rfl
@[simp] theorem setConditions_supplyValid (s : State) (n : Axis) (v : List Condition) : (s.setConditions n v).supplyValid = s.supplyValid := rfl
@[simp] theorem setConditions_resetN (s : State) (n : Axis) (v : List Condition) : (s.setConditions n v).resetN = s.resetN := rfl
@[simp] theorem setConditions_load (s : State) (n : Axis) (v : List Condition) : (s.setConditions n v).load = s.load := rfl
@[simp] theorem setConditions_slots (s : State) (n : Axis) (v : List Condition) : (s.setConditions n v).slots = s.slots := rfl
@[simp] theorem setConditions_absolute (s : State) (n : Axis) (v : List Condition) : (s.setConditions n v).absolute = s.absolute := rfl
@[simp] theorem setConditions_periodic (s : State) (n : Axis) (v : List Condition) : (s.setConditions n v).periodic = s.periodic := rfl
@[simp] theorem setConditions_available (s : State) (n : Axis) (v : List Condition) : (s.setConditions n v).available = s.available := rfl
@[simp] theorem setConditions_axes (s : State) (n : Axis) (v : List Condition) : (s.setConditions n v).axes = s.axes := rfl
@[simp] theorem setConditions_lineConfig (s : State) (n : Axis) (v : List Condition) : (s.setConditions n v).lineConfig = s.lineConfig := rfl
@[simp] theorem setConditions_portConfig (s : State) (n : Axis) (v : List Condition) : (s.setConditions n v).portConfig = s.portConfig := rfl
@[simp] theorem setConditions_freezeLevel (s : State) (n : Axis) (v : List Condition) : (s.setConditions n v).freezeLevel = s.freezeLevel := rfl
@[simp] theorem setConditions_pointer (s : State) (n : Axis) (v : List Condition) : (s.setConditions n v).pointer = s.pointer := rfl
@[simp] theorem setConditions_running (s : State) (n : Axis) (v : List Condition) : (s.setConditions n v).running = s.running := rfl
@[simp] theorem setConditions_passes (s : State) (n : Axis) (v : List Condition) : (s.setConditions n v).passes = s.passes := rfl
@[simp] theorem setConditions_conditions (s : State) (n : Axis) (v : List Condition) : (s.setConditions n v).conditions = s.conditions.set n v := rfl
@[simp] theorem setConditions_dwells (s : State) (n : Axis) (v : List Condition) : (s.setConditions n v).dwells = s.dwells := rfl
@[simp] theorem setConditions_trackers (s : State) (n : Axis) (v : List Condition) : (s.setConditions n v).trackers = s.trackers := rfl
@[simp] theorem setConditions_lines (s : State) (n : Axis) (v : List Condition) : (s.setConditions n v).lines = s.lines := rfl
@[simp] theorem setConditions_ports (s : State) (n : Axis) (v : List Condition) : (s.setConditions n v).ports = s.ports := rfl
@[simp] theorem setConditions_rows (s : State) (n : Axis) (v : List Condition) : (s.setConditions n v).rows = s.rows := rfl
@[simp] theorem setConditions_wornRows (s : State) (n : Axis) (v : List Condition) : (s.setConditions n v).wornRows = s.wornRows := rfl
@[simp] theorem setConditions_copyMap (s : State) (n : Axis) (v : List Condition) : (s.setConditions n v).copyMap = s.copyMap := rfl
@[simp] theorem setConditions_queue (s : State) (n : Axis) (v : List Condition) : (s.setConditions n v).queue = s.queue := rfl
@[simp] theorem setConditions_engine (s : State) (n : Axis) (v : List Condition) : (s.setConditions n v).engine = s.engine := rfl
@[simp] theorem setConditions_array (s : State) (n : Axis) (v : List Condition) : (s.setConditions n v).array = s.array := rfl
@[simp] theorem setConditions_committedFreeze (s : State) (n : Axis) (v : List Condition) : (s.setConditions n v).committedFreeze = s.committedFreeze := rfl
@[simp] theorem setConditions_sweep (s : State) (n : Axis) (v : List Condition) : (s.setConditions n v).sweep = s.sweep := rfl
@[simp] theorem setConditions_get_held (s : State) (n : Axis) (v : List Condition) :
    (s.setConditions n v).held = s.held := rfl
@[simp] theorem setConditions_get_inService (s : State) (n : Axis) (v : List Condition) :
    (s.setConditions n v).inService = s.inService := rfl
@[simp] theorem setConditions_get_slot (s : State) (n : Axis) (v : List Condition) (j : SlotNo) :
    (s.setConditions n v).slot j = s.slot j := rfl
@[simp] theorem setConditions_get_zone (s : State) (n : Axis) (v : List Condition) (j : SlotNo) :
    (s.setConditions n v).zone j = s.zone j := rfl
@[simp] theorem setConditions_get_zoneList (s : State) (n : Axis) (v : List Condition) (m : Axis) (d : Kind) :
    (s.setConditions n v).zoneList m d = s.zoneList m d := rfl
@[simp] theorem setConditions_get_tracker (s : State) (n : Axis) (v : List Condition) (m : Axis) :
    (s.setConditions n v).tracker m = s.tracker m := rfl
@[simp] theorem setConditions_get_axisConfig (s : State) (n : Axis) (v : List Condition) (m : Axis) :
    (s.setConditions n v).axisConfig m = s.axisConfig m := rfl
@[simp] theorem setConditions_get_pendingPass (s : State) (n : Axis) (v : List Condition) (m : Axis) :
    (s.setConditions n v).pendingPass m = s.pendingPass m := rfl
@[simp] theorem setConditions_get_dwell (s : State) (n : Axis) (v : List Condition) (j : SlotNo) :
    (s.setConditions n v).dwell j = s.dwell j := rfl
@[simp] theorem setConditions_get_line (s : State) (n : Axis) (v : List Condition) (m : LineNo) :
    (s.setConditions n v).line m = s.line m := rfl
@[simp] theorem setConditions_get_port (s : State) (n : Axis) (v : List Condition) (q : Port) :
    (s.setConditions n v).port q = s.port q := rfl
@[simp] theorem setConditions_get_row (s : State) (n : Axis) (v : List Condition) (q : RowNo) :
    (s.setConditions n v).row q = s.row q := rfl
@[simp] theorem setConditions_get_worn (s : State) (n : Axis) (v : List Condition) (q : RowNo) :
    (s.setConditions n v).worn q = s.worn q := rfl
@[simp] theorem setConditions_get_item (s : State) (n : Axis) (v : List Condition) (q : ItemNo) :
    (s.setConditions n v).item q = s.item q := rfl
@[simp] theorem setConditions_same (s : State) (n : Axis) (v : List Condition) : (s.setConditions n v).pendingConditions n = v := by
  simp [setConditions, pendingConditions]
theorem setConditions_at (s : State) (n : Axis) (v : List Condition) (j : Axis) : (s.setConditions n v).pendingConditions j = if j = n then v else s.pendingConditions j := by
  simp only [setConditions, pendingConditions, Fin.getElem_fin, Vector.getElem_set, Fin.ext_iff, eq_comm]

/-! ### setDwell -/

@[simp] theorem setDwell_pending (s : State) (i : SlotNo) (v : Option DwellTimer) : (s.setDwell i v).pending = s.pending := rfl
@[simp] theorem setDwell_now (s : State) (i : SlotNo) (v : Option DwellTimer) : (s.setDwell i v).now = s.now := rfl
@[simp] theorem setDwell_device (s : State) (i : SlotNo) (v : Option DwellTimer) : (s.setDwell i v).device = s.device := rfl
@[simp] theorem setDwell_supplyValid (s : State) (i : SlotNo) (v : Option DwellTimer) : (s.setDwell i v).supplyValid = s.supplyValid := rfl
@[simp] theorem setDwell_resetN (s : State) (i : SlotNo) (v : Option DwellTimer) : (s.setDwell i v).resetN = s.resetN := rfl
@[simp] theorem setDwell_load (s : State) (i : SlotNo) (v : Option DwellTimer) : (s.setDwell i v).load = s.load := rfl
@[simp] theorem setDwell_slots (s : State) (i : SlotNo) (v : Option DwellTimer) : (s.setDwell i v).slots = s.slots := rfl
@[simp] theorem setDwell_absolute (s : State) (i : SlotNo) (v : Option DwellTimer) : (s.setDwell i v).absolute = s.absolute := rfl
@[simp] theorem setDwell_periodic (s : State) (i : SlotNo) (v : Option DwellTimer) : (s.setDwell i v).periodic = s.periodic := rfl
@[simp] theorem setDwell_available (s : State) (i : SlotNo) (v : Option DwellTimer) : (s.setDwell i v).available = s.available := rfl
@[simp] theorem setDwell_axes (s : State) (i : SlotNo) (v : Option DwellTimer) : (s.setDwell i v).axes = s.axes := rfl
@[simp] theorem setDwell_lineConfig (s : State) (i : SlotNo) (v : Option DwellTimer) : (s.setDwell i v).lineConfig = s.lineConfig := rfl
@[simp] theorem setDwell_portConfig (s : State) (i : SlotNo) (v : Option DwellTimer) : (s.setDwell i v).portConfig = s.portConfig := rfl
@[simp] theorem setDwell_freezeLevel (s : State) (i : SlotNo) (v : Option DwellTimer) : (s.setDwell i v).freezeLevel = s.freezeLevel := rfl
@[simp] theorem setDwell_pointer (s : State) (i : SlotNo) (v : Option DwellTimer) : (s.setDwell i v).pointer = s.pointer := rfl
@[simp] theorem setDwell_running (s : State) (i : SlotNo) (v : Option DwellTimer) : (s.setDwell i v).running = s.running := rfl
@[simp] theorem setDwell_passes (s : State) (i : SlotNo) (v : Option DwellTimer) : (s.setDwell i v).passes = s.passes := rfl
@[simp] theorem setDwell_conditions (s : State) (i : SlotNo) (v : Option DwellTimer) : (s.setDwell i v).conditions = s.conditions := rfl
@[simp] theorem setDwell_dwells (s : State) (i : SlotNo) (v : Option DwellTimer) : (s.setDwell i v).dwells = s.dwells.set i v := rfl
@[simp] theorem setDwell_trackers (s : State) (i : SlotNo) (v : Option DwellTimer) : (s.setDwell i v).trackers = s.trackers := rfl
@[simp] theorem setDwell_lines (s : State) (i : SlotNo) (v : Option DwellTimer) : (s.setDwell i v).lines = s.lines := rfl
@[simp] theorem setDwell_ports (s : State) (i : SlotNo) (v : Option DwellTimer) : (s.setDwell i v).ports = s.ports := rfl
@[simp] theorem setDwell_rows (s : State) (i : SlotNo) (v : Option DwellTimer) : (s.setDwell i v).rows = s.rows := rfl
@[simp] theorem setDwell_wornRows (s : State) (i : SlotNo) (v : Option DwellTimer) : (s.setDwell i v).wornRows = s.wornRows := rfl
@[simp] theorem setDwell_copyMap (s : State) (i : SlotNo) (v : Option DwellTimer) : (s.setDwell i v).copyMap = s.copyMap := rfl
@[simp] theorem setDwell_queue (s : State) (i : SlotNo) (v : Option DwellTimer) : (s.setDwell i v).queue = s.queue := rfl
@[simp] theorem setDwell_engine (s : State) (i : SlotNo) (v : Option DwellTimer) : (s.setDwell i v).engine = s.engine := rfl
@[simp] theorem setDwell_array (s : State) (i : SlotNo) (v : Option DwellTimer) : (s.setDwell i v).array = s.array := rfl
@[simp] theorem setDwell_committedFreeze (s : State) (i : SlotNo) (v : Option DwellTimer) : (s.setDwell i v).committedFreeze = s.committedFreeze := rfl
@[simp] theorem setDwell_sweep (s : State) (i : SlotNo) (v : Option DwellTimer) : (s.setDwell i v).sweep = s.sweep := rfl
@[simp] theorem setDwell_get_held (s : State) (i : SlotNo) (v : Option DwellTimer) :
    (s.setDwell i v).held = s.held := rfl
@[simp] theorem setDwell_get_inService (s : State) (i : SlotNo) (v : Option DwellTimer) :
    (s.setDwell i v).inService = s.inService := rfl
@[simp] theorem setDwell_get_slot (s : State) (i : SlotNo) (v : Option DwellTimer) (j : SlotNo) :
    (s.setDwell i v).slot j = s.slot j := rfl
@[simp] theorem setDwell_get_zone (s : State) (i : SlotNo) (v : Option DwellTimer) (j : SlotNo) :
    (s.setDwell i v).zone j = s.zone j := rfl
@[simp] theorem setDwell_get_zoneList (s : State) (i : SlotNo) (v : Option DwellTimer) (m : Axis) (d : Kind) :
    (s.setDwell i v).zoneList m d = s.zoneList m d := rfl
@[simp] theorem setDwell_get_tracker (s : State) (i : SlotNo) (v : Option DwellTimer) (m : Axis) :
    (s.setDwell i v).tracker m = s.tracker m := rfl
@[simp] theorem setDwell_get_axisConfig (s : State) (i : SlotNo) (v : Option DwellTimer) (m : Axis) :
    (s.setDwell i v).axisConfig m = s.axisConfig m := rfl
@[simp] theorem setDwell_get_pendingPass (s : State) (i : SlotNo) (v : Option DwellTimer) (m : Axis) :
    (s.setDwell i v).pendingPass m = s.pendingPass m := rfl
@[simp] theorem setDwell_get_pendingConditions (s : State) (i : SlotNo) (v : Option DwellTimer) (m : Axis) :
    (s.setDwell i v).pendingConditions m = s.pendingConditions m := rfl
@[simp] theorem setDwell_get_line (s : State) (i : SlotNo) (v : Option DwellTimer) (m : LineNo) :
    (s.setDwell i v).line m = s.line m := rfl
@[simp] theorem setDwell_get_port (s : State) (i : SlotNo) (v : Option DwellTimer) (q : Port) :
    (s.setDwell i v).port q = s.port q := rfl
@[simp] theorem setDwell_get_row (s : State) (i : SlotNo) (v : Option DwellTimer) (q : RowNo) :
    (s.setDwell i v).row q = s.row q := rfl
@[simp] theorem setDwell_get_worn (s : State) (i : SlotNo) (v : Option DwellTimer) (q : RowNo) :
    (s.setDwell i v).worn q = s.worn q := rfl
@[simp] theorem setDwell_get_item (s : State) (i : SlotNo) (v : Option DwellTimer) (q : ItemNo) :
    (s.setDwell i v).item q = s.item q := rfl
@[simp] theorem setDwell_same (s : State) (i : SlotNo) (v : Option DwellTimer) : (s.setDwell i v).dwell i = v := by
  simp [setDwell, dwell]
theorem setDwell_at (s : State) (i : SlotNo) (v : Option DwellTimer) (j : SlotNo) : (s.setDwell i v).dwell j = if j = i then v else s.dwell j := by
  simp only [setDwell, dwell, Fin.getElem_fin, Vector.getElem_set, Fin.ext_iff, eq_comm]

/-! ### setTracker -/

@[simp] theorem setTracker_pending (s : State) (n : Axis) (v : Tracker) : (s.setTracker n v).pending = s.pending := rfl
@[simp] theorem setTracker_now (s : State) (n : Axis) (v : Tracker) : (s.setTracker n v).now = s.now := rfl
@[simp] theorem setTracker_device (s : State) (n : Axis) (v : Tracker) : (s.setTracker n v).device = s.device := rfl
@[simp] theorem setTracker_supplyValid (s : State) (n : Axis) (v : Tracker) : (s.setTracker n v).supplyValid = s.supplyValid := rfl
@[simp] theorem setTracker_resetN (s : State) (n : Axis) (v : Tracker) : (s.setTracker n v).resetN = s.resetN := rfl
@[simp] theorem setTracker_load (s : State) (n : Axis) (v : Tracker) : (s.setTracker n v).load = s.load := rfl
@[simp] theorem setTracker_slots (s : State) (n : Axis) (v : Tracker) : (s.setTracker n v).slots = s.slots := rfl
@[simp] theorem setTracker_absolute (s : State) (n : Axis) (v : Tracker) : (s.setTracker n v).absolute = s.absolute := rfl
@[simp] theorem setTracker_periodic (s : State) (n : Axis) (v : Tracker) : (s.setTracker n v).periodic = s.periodic := rfl
@[simp] theorem setTracker_available (s : State) (n : Axis) (v : Tracker) : (s.setTracker n v).available = s.available := rfl
@[simp] theorem setTracker_axes (s : State) (n : Axis) (v : Tracker) : (s.setTracker n v).axes = s.axes := rfl
@[simp] theorem setTracker_lineConfig (s : State) (n : Axis) (v : Tracker) : (s.setTracker n v).lineConfig = s.lineConfig := rfl
@[simp] theorem setTracker_portConfig (s : State) (n : Axis) (v : Tracker) : (s.setTracker n v).portConfig = s.portConfig := rfl
@[simp] theorem setTracker_freezeLevel (s : State) (n : Axis) (v : Tracker) : (s.setTracker n v).freezeLevel = s.freezeLevel := rfl
@[simp] theorem setTracker_pointer (s : State) (n : Axis) (v : Tracker) : (s.setTracker n v).pointer = s.pointer := rfl
@[simp] theorem setTracker_running (s : State) (n : Axis) (v : Tracker) : (s.setTracker n v).running = s.running := rfl
@[simp] theorem setTracker_passes (s : State) (n : Axis) (v : Tracker) : (s.setTracker n v).passes = s.passes := rfl
@[simp] theorem setTracker_conditions (s : State) (n : Axis) (v : Tracker) : (s.setTracker n v).conditions = s.conditions := rfl
@[simp] theorem setTracker_dwells (s : State) (n : Axis) (v : Tracker) : (s.setTracker n v).dwells = s.dwells := rfl
@[simp] theorem setTracker_trackers (s : State) (n : Axis) (v : Tracker) : (s.setTracker n v).trackers = s.trackers.set n v := rfl
@[simp] theorem setTracker_lines (s : State) (n : Axis) (v : Tracker) : (s.setTracker n v).lines = s.lines := rfl
@[simp] theorem setTracker_ports (s : State) (n : Axis) (v : Tracker) : (s.setTracker n v).ports = s.ports := rfl
@[simp] theorem setTracker_rows (s : State) (n : Axis) (v : Tracker) : (s.setTracker n v).rows = s.rows := rfl
@[simp] theorem setTracker_wornRows (s : State) (n : Axis) (v : Tracker) : (s.setTracker n v).wornRows = s.wornRows := rfl
@[simp] theorem setTracker_copyMap (s : State) (n : Axis) (v : Tracker) : (s.setTracker n v).copyMap = s.copyMap := rfl
@[simp] theorem setTracker_queue (s : State) (n : Axis) (v : Tracker) : (s.setTracker n v).queue = s.queue := rfl
@[simp] theorem setTracker_engine (s : State) (n : Axis) (v : Tracker) : (s.setTracker n v).engine = s.engine := rfl
@[simp] theorem setTracker_array (s : State) (n : Axis) (v : Tracker) : (s.setTracker n v).array = s.array := rfl
@[simp] theorem setTracker_committedFreeze (s : State) (n : Axis) (v : Tracker) : (s.setTracker n v).committedFreeze = s.committedFreeze := rfl
@[simp] theorem setTracker_sweep (s : State) (n : Axis) (v : Tracker) : (s.setTracker n v).sweep = s.sweep := rfl
@[simp] theorem setTracker_get_held (s : State) (n : Axis) (v : Tracker) :
    (s.setTracker n v).held = s.held := rfl
@[simp] theorem setTracker_get_inService (s : State) (n : Axis) (v : Tracker) :
    (s.setTracker n v).inService = s.inService := rfl
@[simp] theorem setTracker_get_slot (s : State) (n : Axis) (v : Tracker) (j : SlotNo) :
    (s.setTracker n v).slot j = s.slot j := rfl
@[simp] theorem setTracker_get_zone (s : State) (n : Axis) (v : Tracker) (j : SlotNo) :
    (s.setTracker n v).zone j = s.zone j := rfl
@[simp] theorem setTracker_get_zoneList (s : State) (n : Axis) (v : Tracker) (m : Axis) (d : Kind) :
    (s.setTracker n v).zoneList m d = s.zoneList m d := rfl
@[simp] theorem setTracker_get_axisConfig (s : State) (n : Axis) (v : Tracker) (m : Axis) :
    (s.setTracker n v).axisConfig m = s.axisConfig m := rfl
@[simp] theorem setTracker_get_pendingPass (s : State) (n : Axis) (v : Tracker) (m : Axis) :
    (s.setTracker n v).pendingPass m = s.pendingPass m := rfl
@[simp] theorem setTracker_get_pendingConditions (s : State) (n : Axis) (v : Tracker) (m : Axis) :
    (s.setTracker n v).pendingConditions m = s.pendingConditions m := rfl
@[simp] theorem setTracker_get_dwell (s : State) (n : Axis) (v : Tracker) (j : SlotNo) :
    (s.setTracker n v).dwell j = s.dwell j := rfl
@[simp] theorem setTracker_get_line (s : State) (n : Axis) (v : Tracker) (m : LineNo) :
    (s.setTracker n v).line m = s.line m := rfl
@[simp] theorem setTracker_get_port (s : State) (n : Axis) (v : Tracker) (q : Port) :
    (s.setTracker n v).port q = s.port q := rfl
@[simp] theorem setTracker_get_row (s : State) (n : Axis) (v : Tracker) (q : RowNo) :
    (s.setTracker n v).row q = s.row q := rfl
@[simp] theorem setTracker_get_worn (s : State) (n : Axis) (v : Tracker) (q : RowNo) :
    (s.setTracker n v).worn q = s.worn q := rfl
@[simp] theorem setTracker_get_item (s : State) (n : Axis) (v : Tracker) (q : ItemNo) :
    (s.setTracker n v).item q = s.item q := rfl
@[simp] theorem setTracker_same (s : State) (n : Axis) (v : Tracker) : (s.setTracker n v).tracker n = v := by
  simp [setTracker, tracker]
theorem setTracker_at (s : State) (n : Axis) (v : Tracker) (j : Axis) : (s.setTracker n v).tracker j = if j = n then v else s.tracker j := by
  simp only [setTracker, tracker, Fin.getElem_fin, Vector.getElem_set, Fin.ext_iff, eq_comm]

/-! ### setLine -/

@[simp] theorem setLine_pending (s : State) (l : LineNo) (v : LineRecord) : (s.setLine l v).pending = s.pending := rfl
@[simp] theorem setLine_now (s : State) (l : LineNo) (v : LineRecord) : (s.setLine l v).now = s.now := rfl
@[simp] theorem setLine_device (s : State) (l : LineNo) (v : LineRecord) : (s.setLine l v).device = s.device := rfl
@[simp] theorem setLine_supplyValid (s : State) (l : LineNo) (v : LineRecord) : (s.setLine l v).supplyValid = s.supplyValid := rfl
@[simp] theorem setLine_resetN (s : State) (l : LineNo) (v : LineRecord) : (s.setLine l v).resetN = s.resetN := rfl
@[simp] theorem setLine_load (s : State) (l : LineNo) (v : LineRecord) : (s.setLine l v).load = s.load := rfl
@[simp] theorem setLine_slots (s : State) (l : LineNo) (v : LineRecord) : (s.setLine l v).slots = s.slots := rfl
@[simp] theorem setLine_absolute (s : State) (l : LineNo) (v : LineRecord) : (s.setLine l v).absolute = s.absolute := rfl
@[simp] theorem setLine_periodic (s : State) (l : LineNo) (v : LineRecord) : (s.setLine l v).periodic = s.periodic := rfl
@[simp] theorem setLine_available (s : State) (l : LineNo) (v : LineRecord) : (s.setLine l v).available = s.available := rfl
@[simp] theorem setLine_axes (s : State) (l : LineNo) (v : LineRecord) : (s.setLine l v).axes = s.axes := rfl
@[simp] theorem setLine_lineConfig (s : State) (l : LineNo) (v : LineRecord) : (s.setLine l v).lineConfig = s.lineConfig := rfl
@[simp] theorem setLine_portConfig (s : State) (l : LineNo) (v : LineRecord) : (s.setLine l v).portConfig = s.portConfig := rfl
@[simp] theorem setLine_freezeLevel (s : State) (l : LineNo) (v : LineRecord) : (s.setLine l v).freezeLevel = s.freezeLevel := rfl
@[simp] theorem setLine_pointer (s : State) (l : LineNo) (v : LineRecord) : (s.setLine l v).pointer = s.pointer := rfl
@[simp] theorem setLine_running (s : State) (l : LineNo) (v : LineRecord) : (s.setLine l v).running = s.running := rfl
@[simp] theorem setLine_passes (s : State) (l : LineNo) (v : LineRecord) : (s.setLine l v).passes = s.passes := rfl
@[simp] theorem setLine_conditions (s : State) (l : LineNo) (v : LineRecord) : (s.setLine l v).conditions = s.conditions := rfl
@[simp] theorem setLine_dwells (s : State) (l : LineNo) (v : LineRecord) : (s.setLine l v).dwells = s.dwells := rfl
@[simp] theorem setLine_trackers (s : State) (l : LineNo) (v : LineRecord) : (s.setLine l v).trackers = s.trackers := rfl
@[simp] theorem setLine_lines (s : State) (l : LineNo) (v : LineRecord) : (s.setLine l v).lines = s.lines.set l v := rfl
@[simp] theorem setLine_ports (s : State) (l : LineNo) (v : LineRecord) : (s.setLine l v).ports = s.ports := rfl
@[simp] theorem setLine_rows (s : State) (l : LineNo) (v : LineRecord) : (s.setLine l v).rows = s.rows := rfl
@[simp] theorem setLine_wornRows (s : State) (l : LineNo) (v : LineRecord) : (s.setLine l v).wornRows = s.wornRows := rfl
@[simp] theorem setLine_copyMap (s : State) (l : LineNo) (v : LineRecord) : (s.setLine l v).copyMap = s.copyMap := rfl
@[simp] theorem setLine_queue (s : State) (l : LineNo) (v : LineRecord) : (s.setLine l v).queue = s.queue := rfl
@[simp] theorem setLine_engine (s : State) (l : LineNo) (v : LineRecord) : (s.setLine l v).engine = s.engine := rfl
@[simp] theorem setLine_array (s : State) (l : LineNo) (v : LineRecord) : (s.setLine l v).array = s.array := rfl
@[simp] theorem setLine_committedFreeze (s : State) (l : LineNo) (v : LineRecord) : (s.setLine l v).committedFreeze = s.committedFreeze := rfl
@[simp] theorem setLine_sweep (s : State) (l : LineNo) (v : LineRecord) : (s.setLine l v).sweep = s.sweep := rfl
@[simp] theorem setLine_get_held (s : State) (l : LineNo) (v : LineRecord) :
    (s.setLine l v).held = s.held := rfl
@[simp] theorem setLine_get_inService (s : State) (l : LineNo) (v : LineRecord) :
    (s.setLine l v).inService = s.inService := rfl
@[simp] theorem setLine_get_slot (s : State) (l : LineNo) (v : LineRecord) (j : SlotNo) :
    (s.setLine l v).slot j = s.slot j := rfl
@[simp] theorem setLine_get_zone (s : State) (l : LineNo) (v : LineRecord) (j : SlotNo) :
    (s.setLine l v).zone j = s.zone j := rfl
@[simp] theorem setLine_get_zoneList (s : State) (l : LineNo) (v : LineRecord) (m : Axis) (d : Kind) :
    (s.setLine l v).zoneList m d = s.zoneList m d := rfl
@[simp] theorem setLine_get_tracker (s : State) (l : LineNo) (v : LineRecord) (m : Axis) :
    (s.setLine l v).tracker m = s.tracker m := rfl
@[simp] theorem setLine_get_axisConfig (s : State) (l : LineNo) (v : LineRecord) (m : Axis) :
    (s.setLine l v).axisConfig m = s.axisConfig m := rfl
@[simp] theorem setLine_get_pendingPass (s : State) (l : LineNo) (v : LineRecord) (m : Axis) :
    (s.setLine l v).pendingPass m = s.pendingPass m := rfl
@[simp] theorem setLine_get_pendingConditions (s : State) (l : LineNo) (v : LineRecord) (m : Axis) :
    (s.setLine l v).pendingConditions m = s.pendingConditions m := rfl
@[simp] theorem setLine_get_dwell (s : State) (l : LineNo) (v : LineRecord) (j : SlotNo) :
    (s.setLine l v).dwell j = s.dwell j := rfl
@[simp] theorem setLine_get_port (s : State) (l : LineNo) (v : LineRecord) (q : Port) :
    (s.setLine l v).port q = s.port q := rfl
@[simp] theorem setLine_get_row (s : State) (l : LineNo) (v : LineRecord) (q : RowNo) :
    (s.setLine l v).row q = s.row q := rfl
@[simp] theorem setLine_get_worn (s : State) (l : LineNo) (v : LineRecord) (q : RowNo) :
    (s.setLine l v).worn q = s.worn q := rfl
@[simp] theorem setLine_get_item (s : State) (l : LineNo) (v : LineRecord) (q : ItemNo) :
    (s.setLine l v).item q = s.item q := rfl
@[simp] theorem setLine_same (s : State) (l : LineNo) (v : LineRecord) : (s.setLine l v).line l = v := by
  simp [setLine, line]
theorem setLine_at (s : State) (l : LineNo) (v : LineRecord) (j : LineNo) : (s.setLine l v).line j = if j = l then v else s.line j := by
  simp only [setLine, line, Fin.getElem_fin, Vector.getElem_set, Fin.ext_iff, eq_comm]

/-! ### setPort -/

@[simp] theorem setPort_pending (s : State) (p : Port) (v : PortState) : (s.setPort p v).pending = s.pending := rfl
@[simp] theorem setPort_now (s : State) (p : Port) (v : PortState) : (s.setPort p v).now = s.now := rfl
@[simp] theorem setPort_device (s : State) (p : Port) (v : PortState) : (s.setPort p v).device = s.device := rfl
@[simp] theorem setPort_supplyValid (s : State) (p : Port) (v : PortState) : (s.setPort p v).supplyValid = s.supplyValid := rfl
@[simp] theorem setPort_resetN (s : State) (p : Port) (v : PortState) : (s.setPort p v).resetN = s.resetN := rfl
@[simp] theorem setPort_load (s : State) (p : Port) (v : PortState) : (s.setPort p v).load = s.load := rfl
@[simp] theorem setPort_slots (s : State) (p : Port) (v : PortState) : (s.setPort p v).slots = s.slots := rfl
@[simp] theorem setPort_absolute (s : State) (p : Port) (v : PortState) : (s.setPort p v).absolute = s.absolute := rfl
@[simp] theorem setPort_periodic (s : State) (p : Port) (v : PortState) : (s.setPort p v).periodic = s.periodic := rfl
@[simp] theorem setPort_available (s : State) (p : Port) (v : PortState) : (s.setPort p v).available = s.available := rfl
@[simp] theorem setPort_axes (s : State) (p : Port) (v : PortState) : (s.setPort p v).axes = s.axes := rfl
@[simp] theorem setPort_lineConfig (s : State) (p : Port) (v : PortState) : (s.setPort p v).lineConfig = s.lineConfig := rfl
@[simp] theorem setPort_portConfig (s : State) (p : Port) (v : PortState) : (s.setPort p v).portConfig = s.portConfig := rfl
@[simp] theorem setPort_freezeLevel (s : State) (p : Port) (v : PortState) : (s.setPort p v).freezeLevel = s.freezeLevel := rfl
@[simp] theorem setPort_pointer (s : State) (p : Port) (v : PortState) : (s.setPort p v).pointer = s.pointer := rfl
@[simp] theorem setPort_running (s : State) (p : Port) (v : PortState) : (s.setPort p v).running = s.running := rfl
@[simp] theorem setPort_passes (s : State) (p : Port) (v : PortState) : (s.setPort p v).passes = s.passes := rfl
@[simp] theorem setPort_conditions (s : State) (p : Port) (v : PortState) : (s.setPort p v).conditions = s.conditions := rfl
@[simp] theorem setPort_dwells (s : State) (p : Port) (v : PortState) : (s.setPort p v).dwells = s.dwells := rfl
@[simp] theorem setPort_trackers (s : State) (p : Port) (v : PortState) : (s.setPort p v).trackers = s.trackers := rfl
@[simp] theorem setPort_lines (s : State) (p : Port) (v : PortState) : (s.setPort p v).lines = s.lines := rfl
@[simp] theorem setPort_ports (s : State) (p : Port) (v : PortState) : (s.setPort p v).ports = s.ports.set p v := rfl
@[simp] theorem setPort_rows (s : State) (p : Port) (v : PortState) : (s.setPort p v).rows = s.rows := rfl
@[simp] theorem setPort_wornRows (s : State) (p : Port) (v : PortState) : (s.setPort p v).wornRows = s.wornRows := rfl
@[simp] theorem setPort_copyMap (s : State) (p : Port) (v : PortState) : (s.setPort p v).copyMap = s.copyMap := rfl
@[simp] theorem setPort_queue (s : State) (p : Port) (v : PortState) : (s.setPort p v).queue = s.queue := rfl
@[simp] theorem setPort_engine (s : State) (p : Port) (v : PortState) : (s.setPort p v).engine = s.engine := rfl
@[simp] theorem setPort_array (s : State) (p : Port) (v : PortState) : (s.setPort p v).array = s.array := rfl
@[simp] theorem setPort_committedFreeze (s : State) (p : Port) (v : PortState) : (s.setPort p v).committedFreeze = s.committedFreeze := rfl
@[simp] theorem setPort_sweep (s : State) (p : Port) (v : PortState) : (s.setPort p v).sweep = s.sweep := rfl
@[simp] theorem setPort_get_held (s : State) (p : Port) (v : PortState) :
    (s.setPort p v).held = s.held := rfl
@[simp] theorem setPort_get_inService (s : State) (p : Port) (v : PortState) :
    (s.setPort p v).inService = s.inService := rfl
@[simp] theorem setPort_get_slot (s : State) (p : Port) (v : PortState) (j : SlotNo) :
    (s.setPort p v).slot j = s.slot j := rfl
@[simp] theorem setPort_get_zone (s : State) (p : Port) (v : PortState) (j : SlotNo) :
    (s.setPort p v).zone j = s.zone j := rfl
@[simp] theorem setPort_get_zoneList (s : State) (p : Port) (v : PortState) (m : Axis) (d : Kind) :
    (s.setPort p v).zoneList m d = s.zoneList m d := rfl
@[simp] theorem setPort_get_tracker (s : State) (p : Port) (v : PortState) (m : Axis) :
    (s.setPort p v).tracker m = s.tracker m := rfl
@[simp] theorem setPort_get_axisConfig (s : State) (p : Port) (v : PortState) (m : Axis) :
    (s.setPort p v).axisConfig m = s.axisConfig m := rfl
@[simp] theorem setPort_get_pendingPass (s : State) (p : Port) (v : PortState) (m : Axis) :
    (s.setPort p v).pendingPass m = s.pendingPass m := rfl
@[simp] theorem setPort_get_pendingConditions (s : State) (p : Port) (v : PortState) (m : Axis) :
    (s.setPort p v).pendingConditions m = s.pendingConditions m := rfl
@[simp] theorem setPort_get_dwell (s : State) (p : Port) (v : PortState) (j : SlotNo) :
    (s.setPort p v).dwell j = s.dwell j := rfl
@[simp] theorem setPort_get_line (s : State) (p : Port) (v : PortState) (m : LineNo) :
    (s.setPort p v).line m = s.line m := rfl
@[simp] theorem setPort_get_row (s : State) (p : Port) (v : PortState) (q : RowNo) :
    (s.setPort p v).row q = s.row q := rfl
@[simp] theorem setPort_get_worn (s : State) (p : Port) (v : PortState) (q : RowNo) :
    (s.setPort p v).worn q = s.worn q := rfl
@[simp] theorem setPort_get_item (s : State) (p : Port) (v : PortState) (q : ItemNo) :
    (s.setPort p v).item q = s.item q := rfl
@[simp] theorem setPort_same (s : State) (p : Port) (v : PortState) : (s.setPort p v).port p = v := by
  simp [setPort, port]
theorem setPort_at (s : State) (p : Port) (v : PortState) (q : Port) :
    (s.setPort p v).port q = if q = p then v else s.port q := by
  simp [setPort, port, PerPort.get_set]
@[simp] theorem setPort_other (s : State) (p : Port) (v : PortState) : (s.setPort p v).port p.other = s.port p.other := by
  simp [setPort, port]

/-! ### setRow -/

@[simp] theorem setRow_pending (s : State) (r : RowNo) (v : Row) : (s.setRow r v).pending = s.pending := rfl
@[simp] theorem setRow_now (s : State) (r : RowNo) (v : Row) : (s.setRow r v).now = s.now := rfl
@[simp] theorem setRow_device (s : State) (r : RowNo) (v : Row) : (s.setRow r v).device = s.device := rfl
@[simp] theorem setRow_supplyValid (s : State) (r : RowNo) (v : Row) : (s.setRow r v).supplyValid = s.supplyValid := rfl
@[simp] theorem setRow_resetN (s : State) (r : RowNo) (v : Row) : (s.setRow r v).resetN = s.resetN := rfl
@[simp] theorem setRow_load (s : State) (r : RowNo) (v : Row) : (s.setRow r v).load = s.load := rfl
@[simp] theorem setRow_slots (s : State) (r : RowNo) (v : Row) : (s.setRow r v).slots = s.slots := rfl
@[simp] theorem setRow_absolute (s : State) (r : RowNo) (v : Row) : (s.setRow r v).absolute = s.absolute := rfl
@[simp] theorem setRow_periodic (s : State) (r : RowNo) (v : Row) : (s.setRow r v).periodic = s.periodic := rfl
@[simp] theorem setRow_available (s : State) (r : RowNo) (v : Row) : (s.setRow r v).available = s.available := rfl
@[simp] theorem setRow_axes (s : State) (r : RowNo) (v : Row) : (s.setRow r v).axes = s.axes := rfl
@[simp] theorem setRow_lineConfig (s : State) (r : RowNo) (v : Row) : (s.setRow r v).lineConfig = s.lineConfig := rfl
@[simp] theorem setRow_portConfig (s : State) (r : RowNo) (v : Row) : (s.setRow r v).portConfig = s.portConfig := rfl
@[simp] theorem setRow_freezeLevel (s : State) (r : RowNo) (v : Row) : (s.setRow r v).freezeLevel = s.freezeLevel := rfl
@[simp] theorem setRow_pointer (s : State) (r : RowNo) (v : Row) : (s.setRow r v).pointer = s.pointer := rfl
@[simp] theorem setRow_running (s : State) (r : RowNo) (v : Row) : (s.setRow r v).running = s.running := rfl
@[simp] theorem setRow_passes (s : State) (r : RowNo) (v : Row) : (s.setRow r v).passes = s.passes := rfl
@[simp] theorem setRow_conditions (s : State) (r : RowNo) (v : Row) : (s.setRow r v).conditions = s.conditions := rfl
@[simp] theorem setRow_dwells (s : State) (r : RowNo) (v : Row) : (s.setRow r v).dwells = s.dwells := rfl
@[simp] theorem setRow_trackers (s : State) (r : RowNo) (v : Row) : (s.setRow r v).trackers = s.trackers := rfl
@[simp] theorem setRow_lines (s : State) (r : RowNo) (v : Row) : (s.setRow r v).lines = s.lines := rfl
@[simp] theorem setRow_ports (s : State) (r : RowNo) (v : Row) : (s.setRow r v).ports = s.ports := rfl
@[simp] theorem setRow_rows (s : State) (r : RowNo) (v : Row) : (s.setRow r v).rows = s.rows.set r v := rfl
@[simp] theorem setRow_wornRows (s : State) (r : RowNo) (v : Row) : (s.setRow r v).wornRows = s.wornRows := rfl
@[simp] theorem setRow_copyMap (s : State) (r : RowNo) (v : Row) : (s.setRow r v).copyMap = s.copyMap := rfl
@[simp] theorem setRow_queue (s : State) (r : RowNo) (v : Row) : (s.setRow r v).queue = s.queue := rfl
@[simp] theorem setRow_engine (s : State) (r : RowNo) (v : Row) : (s.setRow r v).engine = s.engine := rfl
@[simp] theorem setRow_array (s : State) (r : RowNo) (v : Row) : (s.setRow r v).array = s.array := rfl
@[simp] theorem setRow_committedFreeze (s : State) (r : RowNo) (v : Row) : (s.setRow r v).committedFreeze = s.committedFreeze := rfl
@[simp] theorem setRow_sweep (s : State) (r : RowNo) (v : Row) : (s.setRow r v).sweep = s.sweep := rfl
@[simp] theorem setRow_get_held (s : State) (r : RowNo) (v : Row) :
    (s.setRow r v).held = s.held := rfl
@[simp] theorem setRow_get_inService (s : State) (r : RowNo) (v : Row) :
    (s.setRow r v).inService = s.inService := rfl
@[simp] theorem setRow_get_slot (s : State) (r : RowNo) (v : Row) (j : SlotNo) :
    (s.setRow r v).slot j = s.slot j := rfl
@[simp] theorem setRow_get_zone (s : State) (r : RowNo) (v : Row) (j : SlotNo) :
    (s.setRow r v).zone j = s.zone j := rfl
@[simp] theorem setRow_get_zoneList (s : State) (r : RowNo) (v : Row) (m : Axis) (d : Kind) :
    (s.setRow r v).zoneList m d = s.zoneList m d := rfl
@[simp] theorem setRow_get_tracker (s : State) (r : RowNo) (v : Row) (m : Axis) :
    (s.setRow r v).tracker m = s.tracker m := rfl
@[simp] theorem setRow_get_axisConfig (s : State) (r : RowNo) (v : Row) (m : Axis) :
    (s.setRow r v).axisConfig m = s.axisConfig m := rfl
@[simp] theorem setRow_get_pendingPass (s : State) (r : RowNo) (v : Row) (m : Axis) :
    (s.setRow r v).pendingPass m = s.pendingPass m := rfl
@[simp] theorem setRow_get_pendingConditions (s : State) (r : RowNo) (v : Row) (m : Axis) :
    (s.setRow r v).pendingConditions m = s.pendingConditions m := rfl
@[simp] theorem setRow_get_dwell (s : State) (r : RowNo) (v : Row) (j : SlotNo) :
    (s.setRow r v).dwell j = s.dwell j := rfl
@[simp] theorem setRow_get_line (s : State) (r : RowNo) (v : Row) (m : LineNo) :
    (s.setRow r v).line m = s.line m := rfl
@[simp] theorem setRow_get_port (s : State) (r : RowNo) (v : Row) (q : Port) :
    (s.setRow r v).port q = s.port q := rfl
@[simp] theorem setRow_get_worn (s : State) (r : RowNo) (v : Row) (q : RowNo) :
    (s.setRow r v).worn q = s.worn q := rfl
@[simp] theorem setRow_get_item (s : State) (r : RowNo) (v : Row) (q : ItemNo) :
    (s.setRow r v).item q = s.item q := rfl
@[simp] theorem setRow_same (s : State) (r : RowNo) (v : Row) : (s.setRow r v).row r = v := by
  simp [setRow, row]
theorem setRow_at (s : State) (r : RowNo) (v : Row) (j : RowNo) : (s.setRow r v).row j = if j = r then v else s.row j := by
  simp only [setRow, row, Fin.getElem_fin, Vector.getElem_set, Fin.ext_iff, eq_comm]

/-! ### setWorn -/

@[simp] theorem setWorn_pending (s : State) (r : RowNo) (v : Bool) : (s.setWorn r v).pending = s.pending := rfl
@[simp] theorem setWorn_now (s : State) (r : RowNo) (v : Bool) : (s.setWorn r v).now = s.now := rfl
@[simp] theorem setWorn_device (s : State) (r : RowNo) (v : Bool) : (s.setWorn r v).device = s.device := rfl
@[simp] theorem setWorn_supplyValid (s : State) (r : RowNo) (v : Bool) : (s.setWorn r v).supplyValid = s.supplyValid := rfl
@[simp] theorem setWorn_resetN (s : State) (r : RowNo) (v : Bool) : (s.setWorn r v).resetN = s.resetN := rfl
@[simp] theorem setWorn_load (s : State) (r : RowNo) (v : Bool) : (s.setWorn r v).load = s.load := rfl
@[simp] theorem setWorn_slots (s : State) (r : RowNo) (v : Bool) : (s.setWorn r v).slots = s.slots := rfl
@[simp] theorem setWorn_absolute (s : State) (r : RowNo) (v : Bool) : (s.setWorn r v).absolute = s.absolute := rfl
@[simp] theorem setWorn_periodic (s : State) (r : RowNo) (v : Bool) : (s.setWorn r v).periodic = s.periodic := rfl
@[simp] theorem setWorn_available (s : State) (r : RowNo) (v : Bool) : (s.setWorn r v).available = s.available := rfl
@[simp] theorem setWorn_axes (s : State) (r : RowNo) (v : Bool) : (s.setWorn r v).axes = s.axes := rfl
@[simp] theorem setWorn_lineConfig (s : State) (r : RowNo) (v : Bool) : (s.setWorn r v).lineConfig = s.lineConfig := rfl
@[simp] theorem setWorn_portConfig (s : State) (r : RowNo) (v : Bool) : (s.setWorn r v).portConfig = s.portConfig := rfl
@[simp] theorem setWorn_freezeLevel (s : State) (r : RowNo) (v : Bool) : (s.setWorn r v).freezeLevel = s.freezeLevel := rfl
@[simp] theorem setWorn_pointer (s : State) (r : RowNo) (v : Bool) : (s.setWorn r v).pointer = s.pointer := rfl
@[simp] theorem setWorn_running (s : State) (r : RowNo) (v : Bool) : (s.setWorn r v).running = s.running := rfl
@[simp] theorem setWorn_passes (s : State) (r : RowNo) (v : Bool) : (s.setWorn r v).passes = s.passes := rfl
@[simp] theorem setWorn_conditions (s : State) (r : RowNo) (v : Bool) : (s.setWorn r v).conditions = s.conditions := rfl
@[simp] theorem setWorn_dwells (s : State) (r : RowNo) (v : Bool) : (s.setWorn r v).dwells = s.dwells := rfl
@[simp] theorem setWorn_trackers (s : State) (r : RowNo) (v : Bool) : (s.setWorn r v).trackers = s.trackers := rfl
@[simp] theorem setWorn_lines (s : State) (r : RowNo) (v : Bool) : (s.setWorn r v).lines = s.lines := rfl
@[simp] theorem setWorn_ports (s : State) (r : RowNo) (v : Bool) : (s.setWorn r v).ports = s.ports := rfl
@[simp] theorem setWorn_rows (s : State) (r : RowNo) (v : Bool) : (s.setWorn r v).rows = s.rows := rfl
@[simp] theorem setWorn_wornRows (s : State) (r : RowNo) (v : Bool) : (s.setWorn r v).wornRows = s.wornRows.set r v := rfl
@[simp] theorem setWorn_copyMap (s : State) (r : RowNo) (v : Bool) : (s.setWorn r v).copyMap = s.copyMap := rfl
@[simp] theorem setWorn_queue (s : State) (r : RowNo) (v : Bool) : (s.setWorn r v).queue = s.queue := rfl
@[simp] theorem setWorn_engine (s : State) (r : RowNo) (v : Bool) : (s.setWorn r v).engine = s.engine := rfl
@[simp] theorem setWorn_array (s : State) (r : RowNo) (v : Bool) : (s.setWorn r v).array = s.array := rfl
@[simp] theorem setWorn_committedFreeze (s : State) (r : RowNo) (v : Bool) : (s.setWorn r v).committedFreeze = s.committedFreeze := rfl
@[simp] theorem setWorn_sweep (s : State) (r : RowNo) (v : Bool) : (s.setWorn r v).sweep = s.sweep := rfl
@[simp] theorem setWorn_get_held (s : State) (r : RowNo) (v : Bool) :
    (s.setWorn r v).held = s.held := rfl
@[simp] theorem setWorn_get_inService (s : State) (r : RowNo) (v : Bool) :
    (s.setWorn r v).inService = s.inService := rfl
@[simp] theorem setWorn_get_slot (s : State) (r : RowNo) (v : Bool) (j : SlotNo) :
    (s.setWorn r v).slot j = s.slot j := rfl
@[simp] theorem setWorn_get_zone (s : State) (r : RowNo) (v : Bool) (j : SlotNo) :
    (s.setWorn r v).zone j = s.zone j := rfl
@[simp] theorem setWorn_get_zoneList (s : State) (r : RowNo) (v : Bool) (m : Axis) (d : Kind) :
    (s.setWorn r v).zoneList m d = s.zoneList m d := rfl
@[simp] theorem setWorn_get_tracker (s : State) (r : RowNo) (v : Bool) (m : Axis) :
    (s.setWorn r v).tracker m = s.tracker m := rfl
@[simp] theorem setWorn_get_axisConfig (s : State) (r : RowNo) (v : Bool) (m : Axis) :
    (s.setWorn r v).axisConfig m = s.axisConfig m := rfl
@[simp] theorem setWorn_get_pendingPass (s : State) (r : RowNo) (v : Bool) (m : Axis) :
    (s.setWorn r v).pendingPass m = s.pendingPass m := rfl
@[simp] theorem setWorn_get_pendingConditions (s : State) (r : RowNo) (v : Bool) (m : Axis) :
    (s.setWorn r v).pendingConditions m = s.pendingConditions m := rfl
@[simp] theorem setWorn_get_dwell (s : State) (r : RowNo) (v : Bool) (j : SlotNo) :
    (s.setWorn r v).dwell j = s.dwell j := rfl
@[simp] theorem setWorn_get_line (s : State) (r : RowNo) (v : Bool) (m : LineNo) :
    (s.setWorn r v).line m = s.line m := rfl
@[simp] theorem setWorn_get_port (s : State) (r : RowNo) (v : Bool) (q : Port) :
    (s.setWorn r v).port q = s.port q := rfl
@[simp] theorem setWorn_get_row (s : State) (r : RowNo) (v : Bool) (q : RowNo) :
    (s.setWorn r v).row q = s.row q := rfl
@[simp] theorem setWorn_get_item (s : State) (r : RowNo) (v : Bool) (q : ItemNo) :
    (s.setWorn r v).item q = s.item q := rfl
@[simp] theorem setWorn_same (s : State) (r : RowNo) (v : Bool) : (s.setWorn r v).worn r = v := by
  simp [setWorn, worn]
theorem setWorn_at (s : State) (r : RowNo) (v : Bool) (j : RowNo) : (s.setWorn r v).worn j = if j = r then v else s.worn j := by
  simp only [setWorn, worn, Fin.getElem_fin, Vector.getElem_set, Fin.ext_iff, eq_comm]

/-! ### setItem -/

@[simp] theorem setItem_pending (s : State) (k : ItemNo) (v : ItemEntry) : (s.setItem k v).pending = s.pending := rfl
@[simp] theorem setItem_now (s : State) (k : ItemNo) (v : ItemEntry) : (s.setItem k v).now = s.now := rfl
@[simp] theorem setItem_device (s : State) (k : ItemNo) (v : ItemEntry) : (s.setItem k v).device = s.device := rfl
@[simp] theorem setItem_supplyValid (s : State) (k : ItemNo) (v : ItemEntry) : (s.setItem k v).supplyValid = s.supplyValid := rfl
@[simp] theorem setItem_resetN (s : State) (k : ItemNo) (v : ItemEntry) : (s.setItem k v).resetN = s.resetN := rfl
@[simp] theorem setItem_load (s : State) (k : ItemNo) (v : ItemEntry) : (s.setItem k v).load = s.load := rfl
@[simp] theorem setItem_slots (s : State) (k : ItemNo) (v : ItemEntry) : (s.setItem k v).slots = s.slots := rfl
@[simp] theorem setItem_absolute (s : State) (k : ItemNo) (v : ItemEntry) : (s.setItem k v).absolute = s.absolute := rfl
@[simp] theorem setItem_periodic (s : State) (k : ItemNo) (v : ItemEntry) : (s.setItem k v).periodic = s.periodic := rfl
@[simp] theorem setItem_available (s : State) (k : ItemNo) (v : ItemEntry) : (s.setItem k v).available = s.available := rfl
@[simp] theorem setItem_axes (s : State) (k : ItemNo) (v : ItemEntry) : (s.setItem k v).axes = s.axes := rfl
@[simp] theorem setItem_lineConfig (s : State) (k : ItemNo) (v : ItemEntry) : (s.setItem k v).lineConfig = s.lineConfig := rfl
@[simp] theorem setItem_portConfig (s : State) (k : ItemNo) (v : ItemEntry) : (s.setItem k v).portConfig = s.portConfig := rfl
@[simp] theorem setItem_freezeLevel (s : State) (k : ItemNo) (v : ItemEntry) : (s.setItem k v).freezeLevel = s.freezeLevel := rfl
@[simp] theorem setItem_pointer (s : State) (k : ItemNo) (v : ItemEntry) : (s.setItem k v).pointer = s.pointer := rfl
@[simp] theorem setItem_running (s : State) (k : ItemNo) (v : ItemEntry) : (s.setItem k v).running = s.running := rfl
@[simp] theorem setItem_passes (s : State) (k : ItemNo) (v : ItemEntry) : (s.setItem k v).passes = s.passes := rfl
@[simp] theorem setItem_conditions (s : State) (k : ItemNo) (v : ItemEntry) : (s.setItem k v).conditions = s.conditions := rfl
@[simp] theorem setItem_dwells (s : State) (k : ItemNo) (v : ItemEntry) : (s.setItem k v).dwells = s.dwells := rfl
@[simp] theorem setItem_trackers (s : State) (k : ItemNo) (v : ItemEntry) : (s.setItem k v).trackers = s.trackers := rfl
@[simp] theorem setItem_lines (s : State) (k : ItemNo) (v : ItemEntry) : (s.setItem k v).lines = s.lines := rfl
@[simp] theorem setItem_ports (s : State) (k : ItemNo) (v : ItemEntry) : (s.setItem k v).ports = s.ports := rfl
@[simp] theorem setItem_rows (s : State) (k : ItemNo) (v : ItemEntry) : (s.setItem k v).rows = s.rows := rfl
@[simp] theorem setItem_wornRows (s : State) (k : ItemNo) (v : ItemEntry) : (s.setItem k v).wornRows = s.wornRows := rfl
@[simp] theorem setItem_copyMap (s : State) (k : ItemNo) (v : ItemEntry) : (s.setItem k v).copyMap = s.copyMap.set k v := rfl
@[simp] theorem setItem_queue (s : State) (k : ItemNo) (v : ItemEntry) : (s.setItem k v).queue = s.queue := rfl
@[simp] theorem setItem_engine (s : State) (k : ItemNo) (v : ItemEntry) : (s.setItem k v).engine = s.engine := rfl
@[simp] theorem setItem_array (s : State) (k : ItemNo) (v : ItemEntry) : (s.setItem k v).array = s.array := rfl
@[simp] theorem setItem_committedFreeze (s : State) (k : ItemNo) (v : ItemEntry) : (s.setItem k v).committedFreeze = s.committedFreeze := rfl
@[simp] theorem setItem_sweep (s : State) (k : ItemNo) (v : ItemEntry) : (s.setItem k v).sweep = s.sweep := rfl
@[simp] theorem setItem_get_held (s : State) (k : ItemNo) (v : ItemEntry) :
    (s.setItem k v).held = s.held := rfl
@[simp] theorem setItem_get_inService (s : State) (k : ItemNo) (v : ItemEntry) :
    (s.setItem k v).inService = s.inService := rfl
@[simp] theorem setItem_get_slot (s : State) (k : ItemNo) (v : ItemEntry) (j : SlotNo) :
    (s.setItem k v).slot j = s.slot j := rfl
@[simp] theorem setItem_get_zone (s : State) (k : ItemNo) (v : ItemEntry) (j : SlotNo) :
    (s.setItem k v).zone j = s.zone j := rfl
@[simp] theorem setItem_get_zoneList (s : State) (k : ItemNo) (v : ItemEntry) (m : Axis) (d : Kind) :
    (s.setItem k v).zoneList m d = s.zoneList m d := rfl
@[simp] theorem setItem_get_tracker (s : State) (k : ItemNo) (v : ItemEntry) (m : Axis) :
    (s.setItem k v).tracker m = s.tracker m := rfl
@[simp] theorem setItem_get_axisConfig (s : State) (k : ItemNo) (v : ItemEntry) (m : Axis) :
    (s.setItem k v).axisConfig m = s.axisConfig m := rfl
@[simp] theorem setItem_get_pendingPass (s : State) (k : ItemNo) (v : ItemEntry) (m : Axis) :
    (s.setItem k v).pendingPass m = s.pendingPass m := rfl
@[simp] theorem setItem_get_pendingConditions (s : State) (k : ItemNo) (v : ItemEntry) (m : Axis) :
    (s.setItem k v).pendingConditions m = s.pendingConditions m := rfl
@[simp] theorem setItem_get_dwell (s : State) (k : ItemNo) (v : ItemEntry) (j : SlotNo) :
    (s.setItem k v).dwell j = s.dwell j := rfl
@[simp] theorem setItem_get_line (s : State) (k : ItemNo) (v : ItemEntry) (m : LineNo) :
    (s.setItem k v).line m = s.line m := rfl
@[simp] theorem setItem_get_port (s : State) (k : ItemNo) (v : ItemEntry) (q : Port) :
    (s.setItem k v).port q = s.port q := rfl
@[simp] theorem setItem_get_row (s : State) (k : ItemNo) (v : ItemEntry) (q : RowNo) :
    (s.setItem k v).row q = s.row q := rfl
@[simp] theorem setItem_get_worn (s : State) (k : ItemNo) (v : ItemEntry) (q : RowNo) :
    (s.setItem k v).worn q = s.worn q := rfl
@[simp] theorem setItem_same (s : State) (k : ItemNo) (v : ItemEntry) : (s.setItem k v).item k = v := by
  simp [setItem, item]
theorem setItem_at (s : State) (k : ItemNo) (v : ItemEntry) (j : ItemNo) : (s.setItem k v).item j = if j = k then v else s.item j := by
  simp only [setItem, item, Fin.getElem_fin, Vector.getElem_set, Fin.ext_iff, eq_comm]

/-! ### setQueue -/

@[simp] theorem setQueue_pending (s : State) (v : List QueueEntry) : (s.setQueue v).pending = s.pending := rfl
@[simp] theorem setQueue_now (s : State) (v : List QueueEntry) : (s.setQueue v).now = s.now := rfl
@[simp] theorem setQueue_device (s : State) (v : List QueueEntry) : (s.setQueue v).device = s.device := rfl
@[simp] theorem setQueue_supplyValid (s : State) (v : List QueueEntry) : (s.setQueue v).supplyValid = s.supplyValid := rfl
@[simp] theorem setQueue_resetN (s : State) (v : List QueueEntry) : (s.setQueue v).resetN = s.resetN := rfl
@[simp] theorem setQueue_load (s : State) (v : List QueueEntry) : (s.setQueue v).load = s.load := rfl
@[simp] theorem setQueue_slots (s : State) (v : List QueueEntry) : (s.setQueue v).slots = s.slots := rfl
@[simp] theorem setQueue_absolute (s : State) (v : List QueueEntry) : (s.setQueue v).absolute = s.absolute := rfl
@[simp] theorem setQueue_periodic (s : State) (v : List QueueEntry) : (s.setQueue v).periodic = s.periodic := rfl
@[simp] theorem setQueue_available (s : State) (v : List QueueEntry) : (s.setQueue v).available = s.available := rfl
@[simp] theorem setQueue_axes (s : State) (v : List QueueEntry) : (s.setQueue v).axes = s.axes := rfl
@[simp] theorem setQueue_lineConfig (s : State) (v : List QueueEntry) : (s.setQueue v).lineConfig = s.lineConfig := rfl
@[simp] theorem setQueue_portConfig (s : State) (v : List QueueEntry) : (s.setQueue v).portConfig = s.portConfig := rfl
@[simp] theorem setQueue_freezeLevel (s : State) (v : List QueueEntry) : (s.setQueue v).freezeLevel = s.freezeLevel := rfl
@[simp] theorem setQueue_pointer (s : State) (v : List QueueEntry) : (s.setQueue v).pointer = s.pointer := rfl
@[simp] theorem setQueue_running (s : State) (v : List QueueEntry) : (s.setQueue v).running = s.running := rfl
@[simp] theorem setQueue_passes (s : State) (v : List QueueEntry) : (s.setQueue v).passes = s.passes := rfl
@[simp] theorem setQueue_conditions (s : State) (v : List QueueEntry) : (s.setQueue v).conditions = s.conditions := rfl
@[simp] theorem setQueue_dwells (s : State) (v : List QueueEntry) : (s.setQueue v).dwells = s.dwells := rfl
@[simp] theorem setQueue_trackers (s : State) (v : List QueueEntry) : (s.setQueue v).trackers = s.trackers := rfl
@[simp] theorem setQueue_lines (s : State) (v : List QueueEntry) : (s.setQueue v).lines = s.lines := rfl
@[simp] theorem setQueue_ports (s : State) (v : List QueueEntry) : (s.setQueue v).ports = s.ports := rfl
@[simp] theorem setQueue_rows (s : State) (v : List QueueEntry) : (s.setQueue v).rows = s.rows := rfl
@[simp] theorem setQueue_wornRows (s : State) (v : List QueueEntry) : (s.setQueue v).wornRows = s.wornRows := rfl
@[simp] theorem setQueue_copyMap (s : State) (v : List QueueEntry) : (s.setQueue v).copyMap = s.copyMap := rfl
@[simp] theorem setQueue_queue (s : State) (v : List QueueEntry) : (s.setQueue v).queue = v := rfl
@[simp] theorem setQueue_engine (s : State) (v : List QueueEntry) : (s.setQueue v).engine = s.engine := rfl
@[simp] theorem setQueue_array (s : State) (v : List QueueEntry) : (s.setQueue v).array = s.array := rfl
@[simp] theorem setQueue_committedFreeze (s : State) (v : List QueueEntry) : (s.setQueue v).committedFreeze = s.committedFreeze := rfl
@[simp] theorem setQueue_sweep (s : State) (v : List QueueEntry) : (s.setQueue v).sweep = s.sweep := rfl
@[simp] theorem setQueue_get_held (s : State) (v : List QueueEntry) :
    (s.setQueue v).held = s.held := rfl
@[simp] theorem setQueue_get_inService (s : State) (v : List QueueEntry) :
    (s.setQueue v).inService = s.inService := rfl
@[simp] theorem setQueue_get_slot (s : State) (v : List QueueEntry) (j : SlotNo) :
    (s.setQueue v).slot j = s.slot j := rfl
@[simp] theorem setQueue_get_zone (s : State) (v : List QueueEntry) (j : SlotNo) :
    (s.setQueue v).zone j = s.zone j := rfl
@[simp] theorem setQueue_get_zoneList (s : State) (v : List QueueEntry) (m : Axis) (d : Kind) :
    (s.setQueue v).zoneList m d = s.zoneList m d := rfl
@[simp] theorem setQueue_get_tracker (s : State) (v : List QueueEntry) (m : Axis) :
    (s.setQueue v).tracker m = s.tracker m := rfl
@[simp] theorem setQueue_get_axisConfig (s : State) (v : List QueueEntry) (m : Axis) :
    (s.setQueue v).axisConfig m = s.axisConfig m := rfl
@[simp] theorem setQueue_get_pendingPass (s : State) (v : List QueueEntry) (m : Axis) :
    (s.setQueue v).pendingPass m = s.pendingPass m := rfl
@[simp] theorem setQueue_get_pendingConditions (s : State) (v : List QueueEntry) (m : Axis) :
    (s.setQueue v).pendingConditions m = s.pendingConditions m := rfl
@[simp] theorem setQueue_get_dwell (s : State) (v : List QueueEntry) (j : SlotNo) :
    (s.setQueue v).dwell j = s.dwell j := rfl
@[simp] theorem setQueue_get_line (s : State) (v : List QueueEntry) (m : LineNo) :
    (s.setQueue v).line m = s.line m := rfl
@[simp] theorem setQueue_get_port (s : State) (v : List QueueEntry) (q : Port) :
    (s.setQueue v).port q = s.port q := rfl
@[simp] theorem setQueue_get_row (s : State) (v : List QueueEntry) (q : RowNo) :
    (s.setQueue v).row q = s.row q := rfl
@[simp] theorem setQueue_get_worn (s : State) (v : List QueueEntry) (q : RowNo) :
    (s.setQueue v).worn q = s.worn q := rfl
@[simp] theorem setQueue_get_item (s : State) (v : List QueueEntry) (q : ItemNo) :
    (s.setQueue v).item q = s.item q := rfl

/-! ### setEngine -/

@[simp] theorem setEngine_pending (s : State) (v : Engine) : (s.setEngine v).pending = s.pending := rfl
@[simp] theorem setEngine_now (s : State) (v : Engine) : (s.setEngine v).now = s.now := rfl
@[simp] theorem setEngine_device (s : State) (v : Engine) : (s.setEngine v).device = s.device := rfl
@[simp] theorem setEngine_supplyValid (s : State) (v : Engine) : (s.setEngine v).supplyValid = s.supplyValid := rfl
@[simp] theorem setEngine_resetN (s : State) (v : Engine) : (s.setEngine v).resetN = s.resetN := rfl
@[simp] theorem setEngine_load (s : State) (v : Engine) : (s.setEngine v).load = s.load := rfl
@[simp] theorem setEngine_slots (s : State) (v : Engine) : (s.setEngine v).slots = s.slots := rfl
@[simp] theorem setEngine_absolute (s : State) (v : Engine) : (s.setEngine v).absolute = s.absolute := rfl
@[simp] theorem setEngine_periodic (s : State) (v : Engine) : (s.setEngine v).periodic = s.periodic := rfl
@[simp] theorem setEngine_available (s : State) (v : Engine) : (s.setEngine v).available = s.available := rfl
@[simp] theorem setEngine_axes (s : State) (v : Engine) : (s.setEngine v).axes = s.axes := rfl
@[simp] theorem setEngine_lineConfig (s : State) (v : Engine) : (s.setEngine v).lineConfig = s.lineConfig := rfl
@[simp] theorem setEngine_portConfig (s : State) (v : Engine) : (s.setEngine v).portConfig = s.portConfig := rfl
@[simp] theorem setEngine_freezeLevel (s : State) (v : Engine) : (s.setEngine v).freezeLevel = s.freezeLevel := rfl
@[simp] theorem setEngine_pointer (s : State) (v : Engine) : (s.setEngine v).pointer = s.pointer := rfl
@[simp] theorem setEngine_running (s : State) (v : Engine) : (s.setEngine v).running = s.running := rfl
@[simp] theorem setEngine_passes (s : State) (v : Engine) : (s.setEngine v).passes = s.passes := rfl
@[simp] theorem setEngine_conditions (s : State) (v : Engine) : (s.setEngine v).conditions = s.conditions := rfl
@[simp] theorem setEngine_dwells (s : State) (v : Engine) : (s.setEngine v).dwells = s.dwells := rfl
@[simp] theorem setEngine_trackers (s : State) (v : Engine) : (s.setEngine v).trackers = s.trackers := rfl
@[simp] theorem setEngine_lines (s : State) (v : Engine) : (s.setEngine v).lines = s.lines := rfl
@[simp] theorem setEngine_ports (s : State) (v : Engine) : (s.setEngine v).ports = s.ports := rfl
@[simp] theorem setEngine_rows (s : State) (v : Engine) : (s.setEngine v).rows = s.rows := rfl
@[simp] theorem setEngine_wornRows (s : State) (v : Engine) : (s.setEngine v).wornRows = s.wornRows := rfl
@[simp] theorem setEngine_copyMap (s : State) (v : Engine) : (s.setEngine v).copyMap = s.copyMap := rfl
@[simp] theorem setEngine_queue (s : State) (v : Engine) : (s.setEngine v).queue = s.queue := rfl
@[simp] theorem setEngine_engine (s : State) (v : Engine) : (s.setEngine v).engine = v := rfl
@[simp] theorem setEngine_array (s : State) (v : Engine) : (s.setEngine v).array = s.array := rfl
@[simp] theorem setEngine_committedFreeze (s : State) (v : Engine) : (s.setEngine v).committedFreeze = s.committedFreeze := rfl
@[simp] theorem setEngine_sweep (s : State) (v : Engine) : (s.setEngine v).sweep = s.sweep := rfl
@[simp] theorem setEngine_get_held (s : State) (v : Engine) :
    (s.setEngine v).held = s.held := rfl
@[simp] theorem setEngine_get_inService (s : State) (v : Engine) :
    (s.setEngine v).inService = s.inService := rfl
@[simp] theorem setEngine_get_slot (s : State) (v : Engine) (j : SlotNo) :
    (s.setEngine v).slot j = s.slot j := rfl
@[simp] theorem setEngine_get_zone (s : State) (v : Engine) (j : SlotNo) :
    (s.setEngine v).zone j = s.zone j := rfl
@[simp] theorem setEngine_get_zoneList (s : State) (v : Engine) (m : Axis) (d : Kind) :
    (s.setEngine v).zoneList m d = s.zoneList m d := rfl
@[simp] theorem setEngine_get_tracker (s : State) (v : Engine) (m : Axis) :
    (s.setEngine v).tracker m = s.tracker m := rfl
@[simp] theorem setEngine_get_axisConfig (s : State) (v : Engine) (m : Axis) :
    (s.setEngine v).axisConfig m = s.axisConfig m := rfl
@[simp] theorem setEngine_get_pendingPass (s : State) (v : Engine) (m : Axis) :
    (s.setEngine v).pendingPass m = s.pendingPass m := rfl
@[simp] theorem setEngine_get_pendingConditions (s : State) (v : Engine) (m : Axis) :
    (s.setEngine v).pendingConditions m = s.pendingConditions m := rfl
@[simp] theorem setEngine_get_dwell (s : State) (v : Engine) (j : SlotNo) :
    (s.setEngine v).dwell j = s.dwell j := rfl
@[simp] theorem setEngine_get_line (s : State) (v : Engine) (m : LineNo) :
    (s.setEngine v).line m = s.line m := rfl
@[simp] theorem setEngine_get_port (s : State) (v : Engine) (q : Port) :
    (s.setEngine v).port q = s.port q := rfl
@[simp] theorem setEngine_get_row (s : State) (v : Engine) (q : RowNo) :
    (s.setEngine v).row q = s.row q := rfl
@[simp] theorem setEngine_get_worn (s : State) (v : Engine) (q : RowNo) :
    (s.setEngine v).worn q = s.worn q := rfl
@[simp] theorem setEngine_get_item (s : State) (v : Engine) (q : ItemNo) :
    (s.setEngine v).item q = s.item q := rfl

/-! ### setArray -/

@[simp] theorem setArray_pending (s : State) (v : ArrayUse) : (s.setArray v).pending = s.pending := rfl
@[simp] theorem setArray_now (s : State) (v : ArrayUse) : (s.setArray v).now = s.now := rfl
@[simp] theorem setArray_device (s : State) (v : ArrayUse) : (s.setArray v).device = s.device := rfl
@[simp] theorem setArray_supplyValid (s : State) (v : ArrayUse) : (s.setArray v).supplyValid = s.supplyValid := rfl
@[simp] theorem setArray_resetN (s : State) (v : ArrayUse) : (s.setArray v).resetN = s.resetN := rfl
@[simp] theorem setArray_load (s : State) (v : ArrayUse) : (s.setArray v).load = s.load := rfl
@[simp] theorem setArray_slots (s : State) (v : ArrayUse) : (s.setArray v).slots = s.slots := rfl
@[simp] theorem setArray_absolute (s : State) (v : ArrayUse) : (s.setArray v).absolute = s.absolute := rfl
@[simp] theorem setArray_periodic (s : State) (v : ArrayUse) : (s.setArray v).periodic = s.periodic := rfl
@[simp] theorem setArray_available (s : State) (v : ArrayUse) : (s.setArray v).available = s.available := rfl
@[simp] theorem setArray_axes (s : State) (v : ArrayUse) : (s.setArray v).axes = s.axes := rfl
@[simp] theorem setArray_lineConfig (s : State) (v : ArrayUse) : (s.setArray v).lineConfig = s.lineConfig := rfl
@[simp] theorem setArray_portConfig (s : State) (v : ArrayUse) : (s.setArray v).portConfig = s.portConfig := rfl
@[simp] theorem setArray_freezeLevel (s : State) (v : ArrayUse) : (s.setArray v).freezeLevel = s.freezeLevel := rfl
@[simp] theorem setArray_pointer (s : State) (v : ArrayUse) : (s.setArray v).pointer = s.pointer := rfl
@[simp] theorem setArray_running (s : State) (v : ArrayUse) : (s.setArray v).running = s.running := rfl
@[simp] theorem setArray_passes (s : State) (v : ArrayUse) : (s.setArray v).passes = s.passes := rfl
@[simp] theorem setArray_conditions (s : State) (v : ArrayUse) : (s.setArray v).conditions = s.conditions := rfl
@[simp] theorem setArray_dwells (s : State) (v : ArrayUse) : (s.setArray v).dwells = s.dwells := rfl
@[simp] theorem setArray_trackers (s : State) (v : ArrayUse) : (s.setArray v).trackers = s.trackers := rfl
@[simp] theorem setArray_lines (s : State) (v : ArrayUse) : (s.setArray v).lines = s.lines := rfl
@[simp] theorem setArray_ports (s : State) (v : ArrayUse) : (s.setArray v).ports = s.ports := rfl
@[simp] theorem setArray_rows (s : State) (v : ArrayUse) : (s.setArray v).rows = s.rows := rfl
@[simp] theorem setArray_wornRows (s : State) (v : ArrayUse) : (s.setArray v).wornRows = s.wornRows := rfl
@[simp] theorem setArray_copyMap (s : State) (v : ArrayUse) : (s.setArray v).copyMap = s.copyMap := rfl
@[simp] theorem setArray_queue (s : State) (v : ArrayUse) : (s.setArray v).queue = s.queue := rfl
@[simp] theorem setArray_engine (s : State) (v : ArrayUse) : (s.setArray v).engine = s.engine := rfl
@[simp] theorem setArray_array (s : State) (v : ArrayUse) : (s.setArray v).array = v := rfl
@[simp] theorem setArray_committedFreeze (s : State) (v : ArrayUse) : (s.setArray v).committedFreeze = s.committedFreeze := rfl
@[simp] theorem setArray_sweep (s : State) (v : ArrayUse) : (s.setArray v).sweep = s.sweep := rfl
@[simp] theorem setArray_get_held (s : State) (v : ArrayUse) :
    (s.setArray v).held = s.held := rfl
@[simp] theorem setArray_get_inService (s : State) (v : ArrayUse) :
    (s.setArray v).inService = s.inService := rfl
@[simp] theorem setArray_get_slot (s : State) (v : ArrayUse) (j : SlotNo) :
    (s.setArray v).slot j = s.slot j := rfl
@[simp] theorem setArray_get_zone (s : State) (v : ArrayUse) (j : SlotNo) :
    (s.setArray v).zone j = s.zone j := rfl
@[simp] theorem setArray_get_zoneList (s : State) (v : ArrayUse) (m : Axis) (d : Kind) :
    (s.setArray v).zoneList m d = s.zoneList m d := rfl
@[simp] theorem setArray_get_tracker (s : State) (v : ArrayUse) (m : Axis) :
    (s.setArray v).tracker m = s.tracker m := rfl
@[simp] theorem setArray_get_axisConfig (s : State) (v : ArrayUse) (m : Axis) :
    (s.setArray v).axisConfig m = s.axisConfig m := rfl
@[simp] theorem setArray_get_pendingPass (s : State) (v : ArrayUse) (m : Axis) :
    (s.setArray v).pendingPass m = s.pendingPass m := rfl
@[simp] theorem setArray_get_pendingConditions (s : State) (v : ArrayUse) (m : Axis) :
    (s.setArray v).pendingConditions m = s.pendingConditions m := rfl
@[simp] theorem setArray_get_dwell (s : State) (v : ArrayUse) (j : SlotNo) :
    (s.setArray v).dwell j = s.dwell j := rfl
@[simp] theorem setArray_get_line (s : State) (v : ArrayUse) (m : LineNo) :
    (s.setArray v).line m = s.line m := rfl
@[simp] theorem setArray_get_port (s : State) (v : ArrayUse) (q : Port) :
    (s.setArray v).port q = s.port q := rfl
@[simp] theorem setArray_get_row (s : State) (v : ArrayUse) (q : RowNo) :
    (s.setArray v).row q = s.row q := rfl
@[simp] theorem setArray_get_worn (s : State) (v : ArrayUse) (q : RowNo) :
    (s.setArray v).worn q = s.worn q := rfl
@[simp] theorem setArray_get_item (s : State) (v : ArrayUse) (q : ItemNo) :
    (s.setArray v).item q = s.item q := rfl

/-! ### setCommitted -/

@[simp] theorem setCommitted_pending (s : State) (v : Option FreezeLevel) : (s.setCommitted v).pending = s.pending := rfl
@[simp] theorem setCommitted_now (s : State) (v : Option FreezeLevel) : (s.setCommitted v).now = s.now := rfl
@[simp] theorem setCommitted_device (s : State) (v : Option FreezeLevel) : (s.setCommitted v).device = s.device := rfl
@[simp] theorem setCommitted_supplyValid (s : State) (v : Option FreezeLevel) : (s.setCommitted v).supplyValid = s.supplyValid := rfl
@[simp] theorem setCommitted_resetN (s : State) (v : Option FreezeLevel) : (s.setCommitted v).resetN = s.resetN := rfl
@[simp] theorem setCommitted_load (s : State) (v : Option FreezeLevel) : (s.setCommitted v).load = s.load := rfl
@[simp] theorem setCommitted_slots (s : State) (v : Option FreezeLevel) : (s.setCommitted v).slots = s.slots := rfl
@[simp] theorem setCommitted_absolute (s : State) (v : Option FreezeLevel) : (s.setCommitted v).absolute = s.absolute := rfl
@[simp] theorem setCommitted_periodic (s : State) (v : Option FreezeLevel) : (s.setCommitted v).periodic = s.periodic := rfl
@[simp] theorem setCommitted_available (s : State) (v : Option FreezeLevel) : (s.setCommitted v).available = s.available := rfl
@[simp] theorem setCommitted_axes (s : State) (v : Option FreezeLevel) : (s.setCommitted v).axes = s.axes := rfl
@[simp] theorem setCommitted_lineConfig (s : State) (v : Option FreezeLevel) : (s.setCommitted v).lineConfig = s.lineConfig := rfl
@[simp] theorem setCommitted_portConfig (s : State) (v : Option FreezeLevel) : (s.setCommitted v).portConfig = s.portConfig := rfl
@[simp] theorem setCommitted_freezeLevel (s : State) (v : Option FreezeLevel) : (s.setCommitted v).freezeLevel = s.freezeLevel := rfl
@[simp] theorem setCommitted_pointer (s : State) (v : Option FreezeLevel) : (s.setCommitted v).pointer = s.pointer := rfl
@[simp] theorem setCommitted_running (s : State) (v : Option FreezeLevel) : (s.setCommitted v).running = s.running := rfl
@[simp] theorem setCommitted_passes (s : State) (v : Option FreezeLevel) : (s.setCommitted v).passes = s.passes := rfl
@[simp] theorem setCommitted_conditions (s : State) (v : Option FreezeLevel) : (s.setCommitted v).conditions = s.conditions := rfl
@[simp] theorem setCommitted_dwells (s : State) (v : Option FreezeLevel) : (s.setCommitted v).dwells = s.dwells := rfl
@[simp] theorem setCommitted_trackers (s : State) (v : Option FreezeLevel) : (s.setCommitted v).trackers = s.trackers := rfl
@[simp] theorem setCommitted_lines (s : State) (v : Option FreezeLevel) : (s.setCommitted v).lines = s.lines := rfl
@[simp] theorem setCommitted_ports (s : State) (v : Option FreezeLevel) : (s.setCommitted v).ports = s.ports := rfl
@[simp] theorem setCommitted_rows (s : State) (v : Option FreezeLevel) : (s.setCommitted v).rows = s.rows := rfl
@[simp] theorem setCommitted_wornRows (s : State) (v : Option FreezeLevel) : (s.setCommitted v).wornRows = s.wornRows := rfl
@[simp] theorem setCommitted_copyMap (s : State) (v : Option FreezeLevel) : (s.setCommitted v).copyMap = s.copyMap := rfl
@[simp] theorem setCommitted_queue (s : State) (v : Option FreezeLevel) : (s.setCommitted v).queue = s.queue := rfl
@[simp] theorem setCommitted_engine (s : State) (v : Option FreezeLevel) : (s.setCommitted v).engine = s.engine := rfl
@[simp] theorem setCommitted_array (s : State) (v : Option FreezeLevel) : (s.setCommitted v).array = s.array := rfl
@[simp] theorem setCommitted_committedFreeze (s : State) (v : Option FreezeLevel) : (s.setCommitted v).committedFreeze = v := rfl
@[simp] theorem setCommitted_sweep (s : State) (v : Option FreezeLevel) : (s.setCommitted v).sweep = s.sweep := rfl
@[simp] theorem setCommitted_get_held (s : State) (v : Option FreezeLevel) :
    (s.setCommitted v).held = s.held := rfl
@[simp] theorem setCommitted_get_inService (s : State) (v : Option FreezeLevel) :
    (s.setCommitted v).inService = s.inService := rfl
@[simp] theorem setCommitted_get_slot (s : State) (v : Option FreezeLevel) (j : SlotNo) :
    (s.setCommitted v).slot j = s.slot j := rfl
@[simp] theorem setCommitted_get_zone (s : State) (v : Option FreezeLevel) (j : SlotNo) :
    (s.setCommitted v).zone j = s.zone j := rfl
@[simp] theorem setCommitted_get_zoneList (s : State) (v : Option FreezeLevel) (m : Axis) (d : Kind) :
    (s.setCommitted v).zoneList m d = s.zoneList m d := rfl
@[simp] theorem setCommitted_get_tracker (s : State) (v : Option FreezeLevel) (m : Axis) :
    (s.setCommitted v).tracker m = s.tracker m := rfl
@[simp] theorem setCommitted_get_axisConfig (s : State) (v : Option FreezeLevel) (m : Axis) :
    (s.setCommitted v).axisConfig m = s.axisConfig m := rfl
@[simp] theorem setCommitted_get_pendingPass (s : State) (v : Option FreezeLevel) (m : Axis) :
    (s.setCommitted v).pendingPass m = s.pendingPass m := rfl
@[simp] theorem setCommitted_get_pendingConditions (s : State) (v : Option FreezeLevel) (m : Axis) :
    (s.setCommitted v).pendingConditions m = s.pendingConditions m := rfl
@[simp] theorem setCommitted_get_dwell (s : State) (v : Option FreezeLevel) (j : SlotNo) :
    (s.setCommitted v).dwell j = s.dwell j := rfl
@[simp] theorem setCommitted_get_line (s : State) (v : Option FreezeLevel) (m : LineNo) :
    (s.setCommitted v).line m = s.line m := rfl
@[simp] theorem setCommitted_get_port (s : State) (v : Option FreezeLevel) (q : Port) :
    (s.setCommitted v).port q = s.port q := rfl
@[simp] theorem setCommitted_get_row (s : State) (v : Option FreezeLevel) (q : RowNo) :
    (s.setCommitted v).row q = s.row q := rfl
@[simp] theorem setCommitted_get_worn (s : State) (v : Option FreezeLevel) (q : RowNo) :
    (s.setCommitted v).worn q = s.worn q := rfl
@[simp] theorem setCommitted_get_item (s : State) (v : Option FreezeLevel) (q : ItemNo) :
    (s.setCommitted v).item q = s.item q := rfl

/-! ### setSweep -/

@[simp] theorem setSweep_pending (s : State) (v : Sweep) : (s.setSweep v).pending = s.pending := rfl
@[simp] theorem setSweep_now (s : State) (v : Sweep) : (s.setSweep v).now = s.now := rfl
@[simp] theorem setSweep_device (s : State) (v : Sweep) : (s.setSweep v).device = s.device := rfl
@[simp] theorem setSweep_supplyValid (s : State) (v : Sweep) : (s.setSweep v).supplyValid = s.supplyValid := rfl
@[simp] theorem setSweep_resetN (s : State) (v : Sweep) : (s.setSweep v).resetN = s.resetN := rfl
@[simp] theorem setSweep_load (s : State) (v : Sweep) : (s.setSweep v).load = s.load := rfl
@[simp] theorem setSweep_slots (s : State) (v : Sweep) : (s.setSweep v).slots = s.slots := rfl
@[simp] theorem setSweep_absolute (s : State) (v : Sweep) : (s.setSweep v).absolute = s.absolute := rfl
@[simp] theorem setSweep_periodic (s : State) (v : Sweep) : (s.setSweep v).periodic = s.periodic := rfl
@[simp] theorem setSweep_available (s : State) (v : Sweep) : (s.setSweep v).available = s.available := rfl
@[simp] theorem setSweep_axes (s : State) (v : Sweep) : (s.setSweep v).axes = s.axes := rfl
@[simp] theorem setSweep_lineConfig (s : State) (v : Sweep) : (s.setSweep v).lineConfig = s.lineConfig := rfl
@[simp] theorem setSweep_portConfig (s : State) (v : Sweep) : (s.setSweep v).portConfig = s.portConfig := rfl
@[simp] theorem setSweep_freezeLevel (s : State) (v : Sweep) : (s.setSweep v).freezeLevel = s.freezeLevel := rfl
@[simp] theorem setSweep_pointer (s : State) (v : Sweep) : (s.setSweep v).pointer = s.pointer := rfl
@[simp] theorem setSweep_running (s : State) (v : Sweep) : (s.setSweep v).running = s.running := rfl
@[simp] theorem setSweep_passes (s : State) (v : Sweep) : (s.setSweep v).passes = s.passes := rfl
@[simp] theorem setSweep_conditions (s : State) (v : Sweep) : (s.setSweep v).conditions = s.conditions := rfl
@[simp] theorem setSweep_dwells (s : State) (v : Sweep) : (s.setSweep v).dwells = s.dwells := rfl
@[simp] theorem setSweep_trackers (s : State) (v : Sweep) : (s.setSweep v).trackers = s.trackers := rfl
@[simp] theorem setSweep_lines (s : State) (v : Sweep) : (s.setSweep v).lines = s.lines := rfl
@[simp] theorem setSweep_ports (s : State) (v : Sweep) : (s.setSweep v).ports = s.ports := rfl
@[simp] theorem setSweep_rows (s : State) (v : Sweep) : (s.setSweep v).rows = s.rows := rfl
@[simp] theorem setSweep_wornRows (s : State) (v : Sweep) : (s.setSweep v).wornRows = s.wornRows := rfl
@[simp] theorem setSweep_copyMap (s : State) (v : Sweep) : (s.setSweep v).copyMap = s.copyMap := rfl
@[simp] theorem setSweep_queue (s : State) (v : Sweep) : (s.setSweep v).queue = s.queue := rfl
@[simp] theorem setSweep_engine (s : State) (v : Sweep) : (s.setSweep v).engine = s.engine := rfl
@[simp] theorem setSweep_array (s : State) (v : Sweep) : (s.setSweep v).array = s.array := rfl
@[simp] theorem setSweep_committedFreeze (s : State) (v : Sweep) : (s.setSweep v).committedFreeze = s.committedFreeze := rfl
@[simp] theorem setSweep_sweep (s : State) (v : Sweep) : (s.setSweep v).sweep = v := rfl
@[simp] theorem setSweep_get_held (s : State) (v : Sweep) :
    (s.setSweep v).held = s.held := rfl
@[simp] theorem setSweep_get_inService (s : State) (v : Sweep) :
    (s.setSweep v).inService = s.inService := rfl
@[simp] theorem setSweep_get_slot (s : State) (v : Sweep) (j : SlotNo) :
    (s.setSweep v).slot j = s.slot j := rfl
@[simp] theorem setSweep_get_zone (s : State) (v : Sweep) (j : SlotNo) :
    (s.setSweep v).zone j = s.zone j := rfl
@[simp] theorem setSweep_get_zoneList (s : State) (v : Sweep) (m : Axis) (d : Kind) :
    (s.setSweep v).zoneList m d = s.zoneList m d := rfl
@[simp] theorem setSweep_get_tracker (s : State) (v : Sweep) (m : Axis) :
    (s.setSweep v).tracker m = s.tracker m := rfl
@[simp] theorem setSweep_get_axisConfig (s : State) (v : Sweep) (m : Axis) :
    (s.setSweep v).axisConfig m = s.axisConfig m := rfl
@[simp] theorem setSweep_get_pendingPass (s : State) (v : Sweep) (m : Axis) :
    (s.setSweep v).pendingPass m = s.pendingPass m := rfl
@[simp] theorem setSweep_get_pendingConditions (s : State) (v : Sweep) (m : Axis) :
    (s.setSweep v).pendingConditions m = s.pendingConditions m := rfl
@[simp] theorem setSweep_get_dwell (s : State) (v : Sweep) (j : SlotNo) :
    (s.setSweep v).dwell j = s.dwell j := rfl
@[simp] theorem setSweep_get_line (s : State) (v : Sweep) (m : LineNo) :
    (s.setSweep v).line m = s.line m := rfl
@[simp] theorem setSweep_get_port (s : State) (v : Sweep) (q : Port) :
    (s.setSweep v).port q = s.port q := rfl
@[simp] theorem setSweep_get_row (s : State) (v : Sweep) (q : RowNo) :
    (s.setSweep v).row q = s.row q := rfl
@[simp] theorem setSweep_get_worn (s : State) (v : Sweep) (q : RowNo) :
    (s.setSweep v).worn q = s.worn q := rfl
@[simp] theorem setSweep_get_item (s : State) (v : Sweep) (q : ItemNo) :
    (s.setSweep v).item q = s.item q := rfl

/-! ### setZoneList and tick -/

@[simp] theorem setZoneList_pending (s : State) (n : Axis) (k : Kind) (v : List SlotNo) :
    (s.setZoneList n k v).pending = s.pending := by cases k <;> rfl
@[simp] theorem setZoneList_now (s : State) (n : Axis) (k : Kind) (v : List SlotNo) :
    (s.setZoneList n k v).now = s.now := by cases k <;> rfl
@[simp] theorem setZoneList_device (s : State) (n : Axis) (k : Kind) (v : List SlotNo) :
    (s.setZoneList n k v).device = s.device := by cases k <;> rfl
@[simp] theorem setZoneList_supplyValid (s : State) (n : Axis) (k : Kind) (v : List SlotNo) :
    (s.setZoneList n k v).supplyValid = s.supplyValid := by cases k <;> rfl
@[simp] theorem setZoneList_resetN (s : State) (n : Axis) (k : Kind) (v : List SlotNo) :
    (s.setZoneList n k v).resetN = s.resetN := by cases k <;> rfl
@[simp] theorem setZoneList_load (s : State) (n : Axis) (k : Kind) (v : List SlotNo) :
    (s.setZoneList n k v).load = s.load := by cases k <;> rfl
@[simp] theorem setZoneList_slots (s : State) (n : Axis) (k : Kind) (v : List SlotNo) :
    (s.setZoneList n k v).slots = s.slots := by cases k <;> rfl
@[simp] theorem setZoneList_available (s : State) (n : Axis) (k : Kind) (v : List SlotNo) :
    (s.setZoneList n k v).available = s.available := by cases k <;> rfl
@[simp] theorem setZoneList_axes (s : State) (n : Axis) (k : Kind) (v : List SlotNo) :
    (s.setZoneList n k v).axes = s.axes := by cases k <;> rfl
@[simp] theorem setZoneList_lineConfig (s : State) (n : Axis) (k : Kind) (v : List SlotNo) :
    (s.setZoneList n k v).lineConfig = s.lineConfig := by cases k <;> rfl
@[simp] theorem setZoneList_portConfig (s : State) (n : Axis) (k : Kind) (v : List SlotNo) :
    (s.setZoneList n k v).portConfig = s.portConfig := by cases k <;> rfl
@[simp] theorem setZoneList_freezeLevel (s : State) (n : Axis) (k : Kind) (v : List SlotNo) :
    (s.setZoneList n k v).freezeLevel = s.freezeLevel := by cases k <;> rfl
@[simp] theorem setZoneList_pointer (s : State) (n : Axis) (k : Kind) (v : List SlotNo) :
    (s.setZoneList n k v).pointer = s.pointer := by cases k <;> rfl
@[simp] theorem setZoneList_running (s : State) (n : Axis) (k : Kind) (v : List SlotNo) :
    (s.setZoneList n k v).running = s.running := by cases k <;> rfl
@[simp] theorem setZoneList_passes (s : State) (n : Axis) (k : Kind) (v : List SlotNo) :
    (s.setZoneList n k v).passes = s.passes := by cases k <;> rfl
@[simp] theorem setZoneList_conditions (s : State) (n : Axis) (k : Kind) (v : List SlotNo) :
    (s.setZoneList n k v).conditions = s.conditions := by cases k <;> rfl
@[simp] theorem setZoneList_dwells (s : State) (n : Axis) (k : Kind) (v : List SlotNo) :
    (s.setZoneList n k v).dwells = s.dwells := by cases k <;> rfl
@[simp] theorem setZoneList_trackers (s : State) (n : Axis) (k : Kind) (v : List SlotNo) :
    (s.setZoneList n k v).trackers = s.trackers := by cases k <;> rfl
@[simp] theorem setZoneList_lines (s : State) (n : Axis) (k : Kind) (v : List SlotNo) :
    (s.setZoneList n k v).lines = s.lines := by cases k <;> rfl
@[simp] theorem setZoneList_ports (s : State) (n : Axis) (k : Kind) (v : List SlotNo) :
    (s.setZoneList n k v).ports = s.ports := by cases k <;> rfl
@[simp] theorem setZoneList_rows (s : State) (n : Axis) (k : Kind) (v : List SlotNo) :
    (s.setZoneList n k v).rows = s.rows := by cases k <;> rfl
@[simp] theorem setZoneList_wornRows (s : State) (n : Axis) (k : Kind) (v : List SlotNo) :
    (s.setZoneList n k v).wornRows = s.wornRows := by cases k <;> rfl
@[simp] theorem setZoneList_copyMap (s : State) (n : Axis) (k : Kind) (v : List SlotNo) :
    (s.setZoneList n k v).copyMap = s.copyMap := by cases k <;> rfl
@[simp] theorem setZoneList_queue (s : State) (n : Axis) (k : Kind) (v : List SlotNo) :
    (s.setZoneList n k v).queue = s.queue := by cases k <;> rfl
@[simp] theorem setZoneList_engine (s : State) (n : Axis) (k : Kind) (v : List SlotNo) :
    (s.setZoneList n k v).engine = s.engine := by cases k <;> rfl
@[simp] theorem setZoneList_array (s : State) (n : Axis) (k : Kind) (v : List SlotNo) :
    (s.setZoneList n k v).array = s.array := by cases k <;> rfl
@[simp] theorem setZoneList_committedFreeze (s : State) (n : Axis) (k : Kind) (v : List SlotNo) :
    (s.setZoneList n k v).committedFreeze = s.committedFreeze := by cases k <;> rfl
@[simp] theorem setZoneList_sweep (s : State) (n : Axis) (k : Kind) (v : List SlotNo) :
    (s.setZoneList n k v).sweep = s.sweep := by cases k <;> rfl
@[simp] theorem setZoneList_get_held (s : State) (n : Axis) (k : Kind) (v : List SlotNo) :
    (s.setZoneList n k v).held = s.held := by cases k <;> rfl
@[simp] theorem setZoneList_get_inService (s : State) (n : Axis) (k : Kind) (v : List SlotNo) :
    (s.setZoneList n k v).inService = s.inService := by cases k <;> rfl
@[simp] theorem setZoneList_get_slot (s : State) (n : Axis) (k : Kind) (v : List SlotNo) (j : SlotNo) :
    (s.setZoneList n k v).slot j = s.slot j := by cases k <;> rfl
@[simp] theorem setZoneList_get_zone (s : State) (n : Axis) (k : Kind) (v : List SlotNo) (j : SlotNo) :
    (s.setZoneList n k v).zone j = s.zone j := by cases k <;> rfl
@[simp] theorem setZoneList_get_tracker (s : State) (n : Axis) (k : Kind) (v : List SlotNo) (m : Axis) :
    (s.setZoneList n k v).tracker m = s.tracker m := by cases k <;> rfl
@[simp] theorem setZoneList_get_axisConfig (s : State) (n : Axis) (k : Kind) (v : List SlotNo) (m : Axis) :
    (s.setZoneList n k v).axisConfig m = s.axisConfig m := by cases k <;> rfl
@[simp] theorem setZoneList_get_pendingPass (s : State) (n : Axis) (k : Kind) (v : List SlotNo) (m : Axis) :
    (s.setZoneList n k v).pendingPass m = s.pendingPass m := by cases k <;> rfl
@[simp] theorem setZoneList_get_pendingConditions (s : State) (n : Axis) (k : Kind) (v : List SlotNo) (m : Axis) :
    (s.setZoneList n k v).pendingConditions m = s.pendingConditions m := by cases k <;> rfl
@[simp] theorem setZoneList_get_dwell (s : State) (n : Axis) (k : Kind) (v : List SlotNo) (j : SlotNo) :
    (s.setZoneList n k v).dwell j = s.dwell j := by cases k <;> rfl
@[simp] theorem setZoneList_get_line (s : State) (n : Axis) (k : Kind) (v : List SlotNo) (m : LineNo) :
    (s.setZoneList n k v).line m = s.line m := by cases k <;> rfl
@[simp] theorem setZoneList_get_port (s : State) (n : Axis) (k : Kind) (v : List SlotNo) (q : Port) :
    (s.setZoneList n k v).port q = s.port q := by cases k <;> rfl
@[simp] theorem setZoneList_get_row (s : State) (n : Axis) (k : Kind) (v : List SlotNo) (q : RowNo) :
    (s.setZoneList n k v).row q = s.row q := by cases k <;> rfl
@[simp] theorem setZoneList_get_worn (s : State) (n : Axis) (k : Kind) (v : List SlotNo) (q : RowNo) :
    (s.setZoneList n k v).worn q = s.worn q := by cases k <;> rfl
@[simp] theorem setZoneList_get_item (s : State) (n : Axis) (k : Kind) (v : List SlotNo) (q : ItemNo) :
    (s.setZoneList n k v).item q = s.item q := by cases k <;> rfl
theorem setZoneList_at (s : State) (n : Axis) (k : Kind) (v : List SlotNo) (m : Axis) (j : Kind) :
    (s.setZoneList n k v).zoneList m j = if m = n ∧ j = k then v else s.zoneList m j := by
  cases k <;> cases j <;> simp [setZoneList, setAbsolute_zoneList, setPeriodic_zoneList]
@[simp] theorem tick_pending (s : State) (m : Moment) : (s.tick m).pending = s.pending := by cases m <;> rfl
@[simp] theorem tick_device (s : State) (m : Moment) : (s.tick m).device = s.device := by cases m <;> rfl
@[simp] theorem tick_supplyValid (s : State) (m : Moment) : (s.tick m).supplyValid = s.supplyValid := by cases m <;> rfl
@[simp] theorem tick_resetN (s : State) (m : Moment) : (s.tick m).resetN = s.resetN := by cases m <;> rfl
@[simp] theorem tick_load (s : State) (m : Moment) : (s.tick m).load = s.load := by cases m <;> rfl
@[simp] theorem tick_slots (s : State) (m : Moment) : (s.tick m).slots = s.slots := by cases m <;> rfl
@[simp] theorem tick_absolute (s : State) (m : Moment) : (s.tick m).absolute = s.absolute := by cases m <;> rfl
@[simp] theorem tick_periodic (s : State) (m : Moment) : (s.tick m).periodic = s.periodic := by cases m <;> rfl
@[simp] theorem tick_available (s : State) (m : Moment) : (s.tick m).available = s.available := by cases m <;> rfl
@[simp] theorem tick_axes (s : State) (m : Moment) : (s.tick m).axes = s.axes := by cases m <;> rfl
@[simp] theorem tick_lineConfig (s : State) (m : Moment) : (s.tick m).lineConfig = s.lineConfig := by cases m <;> rfl
@[simp] theorem tick_portConfig (s : State) (m : Moment) : (s.tick m).portConfig = s.portConfig := by cases m <;> rfl
@[simp] theorem tick_freezeLevel (s : State) (m : Moment) : (s.tick m).freezeLevel = s.freezeLevel := by cases m <;> rfl
@[simp] theorem tick_pointer (s : State) (m : Moment) : (s.tick m).pointer = s.pointer := by cases m <;> rfl
@[simp] theorem tick_running (s : State) (m : Moment) : (s.tick m).running = s.running := by cases m <;> rfl
@[simp] theorem tick_passes (s : State) (m : Moment) : (s.tick m).passes = s.passes := by cases m <;> rfl
@[simp] theorem tick_conditions (s : State) (m : Moment) : (s.tick m).conditions = s.conditions := by cases m <;> rfl
@[simp] theorem tick_dwells (s : State) (m : Moment) : (s.tick m).dwells = s.dwells := by cases m <;> rfl
@[simp] theorem tick_trackers (s : State) (m : Moment) : (s.tick m).trackers = s.trackers := by cases m <;> rfl
@[simp] theorem tick_lines (s : State) (m : Moment) : (s.tick m).lines = s.lines := by cases m <;> rfl
@[simp] theorem tick_ports (s : State) (m : Moment) : (s.tick m).ports = s.ports := by cases m <;> rfl
@[simp] theorem tick_rows (s : State) (m : Moment) : (s.tick m).rows = s.rows := by cases m <;> rfl
@[simp] theorem tick_wornRows (s : State) (m : Moment) : (s.tick m).wornRows = s.wornRows := by cases m <;> rfl
@[simp] theorem tick_copyMap (s : State) (m : Moment) : (s.tick m).copyMap = s.copyMap := by cases m <;> rfl
@[simp] theorem tick_queue (s : State) (m : Moment) : (s.tick m).queue = s.queue := by cases m <;> rfl
@[simp] theorem tick_engine (s : State) (m : Moment) : (s.tick m).engine = s.engine := by cases m <;> rfl
@[simp] theorem tick_array (s : State) (m : Moment) : (s.tick m).array = s.array := by cases m <;> rfl
@[simp] theorem tick_committedFreeze (s : State) (m : Moment) : (s.tick m).committedFreeze = s.committedFreeze := by cases m <;> rfl
@[simp] theorem tick_sweep (s : State) (m : Moment) : (s.tick m).sweep = s.sweep := by cases m <;> rfl
@[simp] theorem tick_get_held (s : State) (m : Moment) : (s.tick m).held = s.held := by cases m <;> rfl
@[simp] theorem tick_get_inService (s : State) (m : Moment) : (s.tick m).inService = s.inService := by cases m <;> rfl
@[simp] theorem tick_get_slot (s : State) (m : Moment) (j : SlotNo) : (s.tick m).slot j = s.slot j := by cases m <;> rfl
@[simp] theorem tick_get_zone (s : State) (m : Moment) (j : SlotNo) : (s.tick m).zone j = s.zone j := by cases m <;> rfl
@[simp] theorem tick_get_zoneList (s : State) (m : Moment) (n : Axis) (d : Kind) : (s.tick m).zoneList n d = s.zoneList n d := by cases m <;> rfl
@[simp] theorem tick_get_tracker (s : State) (m : Moment) (n : Axis) : (s.tick m).tracker n = s.tracker n := by cases m <;> rfl
@[simp] theorem tick_get_axisConfig (s : State) (m : Moment) (n : Axis) : (s.tick m).axisConfig n = s.axisConfig n := by cases m <;> rfl
@[simp] theorem tick_get_pendingPass (s : State) (m : Moment) (n : Axis) : (s.tick m).pendingPass n = s.pendingPass n := by cases m <;> rfl
@[simp] theorem tick_get_pendingConditions (s : State) (m : Moment) (n : Axis) : (s.tick m).pendingConditions n = s.pendingConditions n := by cases m <;> rfl
@[simp] theorem tick_get_dwell (s : State) (m : Moment) (j : SlotNo) : (s.tick m).dwell j = s.dwell j := by cases m <;> rfl
@[simp] theorem tick_get_line (s : State) (m : Moment) (n : LineNo) : (s.tick m).line n = s.line n := by cases m <;> rfl
@[simp] theorem tick_get_port (s : State) (m : Moment) (q : Port) : (s.tick m).port q = s.port q := by cases m <;> rfl
@[simp] theorem tick_get_row (s : State) (m : Moment) (q : RowNo) : (s.tick m).row q = s.row q := by cases m <;> rfl
@[simp] theorem tick_get_worn (s : State) (m : Moment) (q : RowNo) : (s.tick m).worn q = s.worn q := by cases m <;> rfl
@[simp] theorem tick_get_item (s : State) (m : Moment) (q : ItemNo) : (s.tick m).item q = s.item q := by cases m <;> rfl

end State

end Sys2Proof.Machine
end

