-- ==== Sys2Proof/Laws/Check.lean ====
section
/-! SUPPORT. Sys2Proof/Laws/Check.lean: the invariants of a concrete state as one Bool, and that the Bool says `Good`. It
shows of a state that is written out that it meets the hypotheses of the statements. -/

namespace Sys2Proof.Machine

/-- Something of every zone of the table. -/
def everyZone (s : State) (f : SlotNo → Zone → Bool) : Bool :=
  allSlots.all fun i =>
    match s.zone i with
    | some z => f i z
    | none => true

theorem everyZone_spec {s : State} {f : SlotNo → Zone → Bool} (h : everyZone s f = true) :
    ∀ i z, s.zone i = some z → f i z = true := by
  intro i z hz
  have := List.all_eq_true.mp h i (List.mem_finRange i)
  simpa [hz] using this

def zoneCheck (z : Zone) : Bool :=
  decide (z.incarnation ≠ 0) && boundsOk z.bounds z.hysteresis && decide (z.label.length ≤ 8) &&
  decide (z.tripMark = true ↔ z.occupancy = .tripped) && decide (z.armed = false → z.occupancy = .unknown) &&
  decide (z.occupancy = .qualifying → z.dwell ≠ 0) && decide (z.occupancy = .inside → z.action = .follow) &&
  decide (z.occupancy = .tripped → z.action = .latch)

theorem zoneOk_of_check {z : Zone} (h : zoneCheck z = true) : ZoneOk z := by
  simp only [zoneCheck, Bool.and_eq_true, decide_eq_true_eq] at h
  obtain ⟨⟨⟨⟨⟨⟨⟨a, b⟩, c⟩, d⟩, e⟩, f⟩, g⟩, k⟩ := h
  exact ⟨a, b, c, d, e, f, g, k⟩

def comesBeforeCheck (y : Zone) (i : SlotNo) (z : Zone) (j : SlotNo) : Bool :=
  decide (let a := sortKey y.bounds
          let b := sortKey z.bounds
          a.1 < b.1 ∨ (a.1 = b.1 ∧ (a.2 < b.2 ∨ (a.2 = b.2 ∧ i < j))))

def inOrderCheck (s : State) (l : List SlotNo) : Bool :=
  decide (l.Pairwise fun i j =>
    (match s.zone i, s.zone j with
     | some y, some z => comesBeforeCheck y i z j
     | _, _ => true) = true)

def holdsExactlyCheck (s : State) (n : Axis) (k : Kind) : Bool :=
  allSlots.all fun i =>
    decide (i ∈ s.zoneList n k) ==
      (match s.zone i with
       | some z => decide (z.axis = n) && decide (z.bounds.kind = k)
       | none => false)

def listsCheck (s : State) : Bool :=
  allAxes.all fun n => [Kind.absolute, .periodic].all fun k =>
    match s.device with
    | .running => holdsExactlyCheck s n k && inOrderCheck s (s.zoneList n k)
    | .starting => decide (s.zoneList n k = [])

def exclusiveCheck (s : State) : Bool :=
  decide (s.device ≠ .running) || everyZone s fun i y => everyZone s fun j z =>
    decide (i = j) || decide (y.axis ≠ z.axis) || !intersects y.bounds z.bounds || (!y.exclusive && !z.exclusive)

theorem holdsExactly_of_check {s : State} {n : Axis} {k : Kind} (h : holdsExactlyCheck s n k = true) :
    HoldsExactly s n k := by
  intro i
  have := List.all_eq_true.mp h i (List.mem_finRange i)
  cases hz : s.zone i with
  | none => simp [hz] at this; simp [this]
  | some z =>
    simp only [hz, beq_iff_eq] at this
    rw [← decide_eq_true_iff (p := i ∈ s.zoneList n k), this]
    simp

theorem inOrder_of_check {s : State} {l : List SlotNo} (h : inOrderCheck s l = true) : InOrder s l := by
  refine (decide_eq_true_eq.mp h).imp ?_
  intro i j hij y z hy hz
  simpa [hy, hz, comesBeforeCheck, ComesBefore] using hij

theorem tableOk_of_check {s : State} (h : listsCheck s = true) (h' : exclusiveCheck s = true) : TableOk s := by
  constructor
  · intro n k
    have h₁ := List.all_eq_true.mp h n (List.mem_finRange n)
    have h₂ := List.all_eq_true.mp h₁ k (by cases k <;> simp)
    cases hd : s.device with
    | running =>
      simp only [hd, Bool.and_eq_true] at h₂
      exact ⟨holdsExactly_of_check h₂.1, inOrder_of_check h₂.2⟩
    | starting => simpa [hd] using h₂
  · intro hd i j y z hij hy hz hax hint
    simp only [exclusiveCheck, hd, ne_eq, not_true_eq_false, decide_false, Bool.false_or] at h'
    have := everyZone_spec (everyZone_spec h' i y hy) j z hz
    simpa [hij, hax, hint] using this

def dwellsCheck (s : State) : Bool :=
  allSlots.all fun i =>
    match s.zone i with
    | some z =>
      ((s.dwell i).isSome == decide (z.occupancy = .qualifying)) &&
      (match s.dwell i with
       | some d => decide (d.incarnation = z.incarnation) && decide (d.length = z.dwell)
       | none => true)
    | none => (s.dwell i).isNone

theorem dwellsOk_of_check {s : State} (h : dwellsCheck s = true) : DwellsOk s := by
  have key := fun i => List.all_eq_true.mp h i (List.mem_finRange i)
  refine ⟨?_, ?_, ?_⟩
  · intro i z hz
    have := key i
    simp only [hz, Bool.and_eq_true, beq_iff_eq] at this
    rw [this.1]; simp
  · intro i hz
    have := key i
    simpa [hz] using this
  · intro i z d hz hd
    have := key i
    simp only [hz, hd, Bool.and_eq_true, decide_eq_true_eq] at this
    exact this.2

def trackerCheck (c : AxisConfig) (t : Tracker) : Bool :=
  decide (t.sure = true ↔ t.state = .tracking) && decide (t.live.isSome = true ↔ t.state = .tracking) &&
  decide (t.timer.isSome = true ↔ t.state = .tracking ∧ c.staleness ≠ 0) &&
  decide (t.position.isSome = true ↔ t.state = .tracking ∨ t.state = .stale ∨ t.state = .lost) &&
  decide (t.position.isSome = true → t.sequence.isSome = true) && decide (t.cause.isSome = true ↔ t.state = .lost) &&
  decide (t.state = .disabled → t.counters = Counters.zero ∧ t.rawStatus = none) &&
  (match t.live, t.position with
   | some l, some p => l.lowest.le p && p.le l.highest
   | _, _ => true)

theorem trackerOk_of_check {c : AxisConfig} {t : Tracker} (h : trackerCheck c t = true) : TrackerOk c t := by
  simp only [trackerCheck, Bool.and_eq_true, decide_eq_true_eq] at h
  obtain ⟨⟨⟨⟨⟨⟨⟨a, b⟩, c⟩, d⟩, e⟩, f⟩, g⟩, k⟩ := h
  refine ⟨a, b, c, d, e, f, g, ?_⟩
  intro l p hl hp
  simpa [hl, hp] using k

def conditionsCheck (available sure : Bool) : List Condition → Bool
  | [] => decide (sure = available)
  | [c] => decide (available = decide (c.kind = .unsure)) && decide (sure = decide (c.kind = .sure))
  | [c, d] =>
    decide (available = decide (c.kind = .unsure)) && decide (c.kind ≠ d.kind) && decide (sure = decide (d.kind = .sure))
  | _ => false

theorem conditionsOk_of_check {a b : Bool} {l : List Condition} (h : conditionsCheck a b l = true) :
    ConditionsOk a b l := by
  match l with
  | [] => simpa [conditionsCheck, ConditionsOk] using h
  | [c] => simpa [conditionsCheck, ConditionsOk] using h
  | [c, d] =>
    simp only [conditionsCheck, Bool.and_eq_true, decide_eq_true_eq] at h
    exact ⟨h.1.1, h.1.2, h.2⟩
  | _ :: _ :: _ :: _ => simp [conditionsCheck] at h

def axisCheck (s : State) (n : Axis) : Bool :=
  trackerCheck (s.axisConfig n) (s.tracker n) &&
  conditionsCheck s.available[n] (s.tracker n).sure (s.pendingConditions n) &&
  decide ((s.pendingPass n).isSome = true → s.available[n] = true) &&
  decide (∀ c ∈ s.pendingConditions n, c.posted ≤ s.now) &&
  decide ((s.pendingConditions n).Pairwise fun c d => c.posted ≤ d.posted) &&
  decide (s.device = .starting → (s.tracker n).state = .disabled ∧ s.available[n] = false)

theorem axisOk_of_check {s : State} {n : Axis} (h : axisCheck s n = true) : AxisOk s n := by
  simp only [axisCheck, Bool.and_eq_true, decide_eq_true_eq] at h
  obtain ⟨⟨⟨⟨⟨a, b⟩, c⟩, d⟩, e⟩, f⟩ := h
  exact ⟨trackerOk_of_check a, conditionsOk_of_check b, c, d, e, f⟩

def linesCheck (s : State) : Bool :=
  allLines.all fun l =>
    match s.device with
    | .running => decide (s.line l = lineRecordOf s l)
    | .starting => decide (s.line l = LineRecord.reset)

def storeCheck (s : State) : Bool :=
  decide (s.queue.map QueueEntry.item).Nodup && decide (s.device = .running → s.engine = .idle → s.queue = []) &&
  decide (s.array = .program → s.engine.hasProgram = true) && decide (s.engine.hasProgram = true → s.array ≠ .free) &&
  decide (s.engine.isRetrying = true → s.array = .program) &&
  decide (s.device = .starting → s.engine = .idle ∧ s.array = .free)

theorem storeOk_of_check {s : State} (h : storeCheck s = true) : StoreOk s := by
  simp only [storeCheck, Bool.and_eq_true, decide_eq_true_eq] at h
  obtain ⟨⟨⟨⟨⟨a, b⟩, c⟩, d⟩, e⟩, f⟩ := h
  exact ⟨a, b, c, d, e, f⟩

def wearCheck (s : State) : Bool :=
  ((List.finRange 206).all fun r => !s.worn r || decide (s.row r = .uncorrectable)) &&
  allItems.all fun k => (List.finRange 2).all fun c => decide ((s.item k).copies[c] ≠ .worn) || s.worn (rowOf k c)

theorem wearOk_of_check {s : State} (h : wearCheck s = true) : WearOk s := by
  simp only [wearCheck, Bool.and_eq_true] at h
  refine ⟨fun r hr => ?_, fun k c hc => ?_⟩
  · have := List.all_eq_true.mp h.1 r (List.mem_finRange r)
    simpa [hr] using this
  · have := List.all_eq_true.mp (List.all_eq_true.mp h.2 k (List.mem_finRange k)) c (List.mem_finRange c)
    simpa [hc] using this

/-- The row of a read that is to be judged. -/
def judgedRow (s : State) : Option RowNo :=
  match s.array with
  | .sweepRead r true => some r
  | _ => none

theorem judgedRow_eq {s : State} {r : RowNo} : judgedRow s = some r ↔ s.array = .sweepRead r true := by
  unfold judgedRow
  cases h : s.array with
  | free => simp
  | program => simp
  | sweepRead q j => cases j <;> simp

def sweepCheck (s : State) : Bool :=
  decide (s.sweep.state = .running ↔ (s.sweep.asked = true ∨ (judgedRow s).isSome = true)) &&
  decide (s.sweep.asked = true → s.array ≠ .free ∧ judgedRow s = none) &&
  (match judgedRow s with
   | some r => decide (r = s.sweep.nextRow)
   | none => true) &&
  decide (s.sweep.state = .running → s.sweep.rowsRead < 206) && decide (s.device = .starting → s.sweep = Sweep.reset)

theorem sweepOk_of_check {s : State} (h : sweepCheck s = true) : SweepOk s := by
  simp only [sweepCheck, Bool.and_eq_true, decide_eq_true_eq] at h
  obtain ⟨⟨⟨⟨a, b⟩, c⟩, d⟩, e⟩ := h
  refine ⟨?_, ?_, ?_, d, e⟩
  · rw [a, Option.isSome_iff_exists]
    simp only [judgedRow_eq]
  · intro ha
    refine ⟨(b ha).1, fun r hr => ?_⟩
    rw [judgedRow_eq.mpr hr] at b
    simp at b
    exact absurd ha (by simpa using b)
  · intro r hr
    rw [judgedRow_eq.mpr hr] at c
    simpa using c

/-- A slot is WAITING. -/
def CommandSlot.isWaiting : CommandSlot → Bool
  | .waiting _ => true
  | _ => false

def syncCheck (s : State) (p : Port) : Bool :=
  decide ((s.port p).slot.isWaiting = true ↔ (s.port p).sync.waiting = true) &&
  decide ((s.port p).sync.waiting = !noMark s p) &&
  decide ((s.port p).sync.waiting = false → (s.port p).sync.dropped = 0)

theorem syncOk_of_check {s : State} {p : Port} (h : syncCheck s p = true) : SyncOk s p := by
  simp only [syncCheck, Bool.and_eq_true, decide_eq_true_eq] at h
  obtain ⟨⟨a, b⟩, c⟩ := h
  refine ⟨?_, b, c⟩
  rw [← a]
  cases hs : (s.port p).slot <;> simp [CommandSlot.isWaiting]

def deviceCheck (s : State) : Bool :=
  decide (s.held = true → s.device = .starting) && decide (s.load.nextRow ≤ 206) &&
  decide (s.load.first.isSome = true ↔ s.load.nextRow % 2 = 1) &&
  (decide (s.device = .running) ||
    ((bothPorts.all fun p => !(s.port p).slot.isQueued) && s.running.isNone &&
     (allAxes.all fun n => (s.pendingPass n).isNone && decide (s.pendingConditions n = [])) &&
     (allSlots.all fun i => (s.dwell i).isNone) &&
     everyZone s fun _ z => decide (z.occupancy = .unknown ∨ z.occupancy = .tripped)))

theorem deviceOk_of_check {s : State} (h : deviceCheck s = true) : DeviceOk s := by
  simp only [deviceCheck, Bool.and_eq_true, decide_eq_true_eq, Bool.or_eq_true] at h
  obtain ⟨⟨⟨a, b⟩, c⟩, d⟩ := h
  refine ⟨a, ?_, b, c⟩
  intro hs
  rcases d with d | ⟨⟨⟨⟨d₁, d₂⟩, d₃⟩, d₄⟩, d₅⟩
  · simp [d] at hs
  · have k₁ := fun p => List.all_eq_true.mp d₁ p (by cases p <;> simp [bothPorts])
    have k₃ := fun n => List.all_eq_true.mp d₃ n (List.mem_finRange n)
    have k₄ := fun i => List.all_eq_true.mp d₄ i (List.mem_finRange i)
    simp only [Bool.and_eq_true, decide_eq_true_eq, Option.isNone_iff_eq_none] at d₂ k₃ k₄
    refine ⟨fun p => by simpa using k₁ p, d₂, fun n => (k₃ n).1, fun n => (k₃ n).2, k₄, ?_⟩
    intro i z hz
    simpa using everyZone_spec d₅ i z hz

/-- All the invariants of a concrete state. -/
def goodCheck (s : State) : Bool :=
  (allAxes.all fun n => decide ((s.axisConfig n).maxStep ≠ 0) && decide ((s.axisConfig n).jumpLimit ≠ 0)) &&
  (everyZone s fun _ z => zoneCheck z) && dwellsCheck s && listsCheck s && exclusiveCheck s &&
  (allAxes.all fun n => axisCheck s n) && linesCheck s && storeCheck s && wearCheck s && sweepCheck s &&
  (bothPorts.all fun p => syncCheck s p) && deviceCheck s

/-- What the check says. -/
theorem good_of_check {s : State} (h : goodCheck s = true) : Good s := by
  simp only [goodCheck, Bool.and_eq_true] at h
  obtain ⟨⟨⟨⟨⟨⟨⟨⟨⟨⟨⟨a, b⟩, c⟩, d⟩, e⟩, f⟩, g⟩, k⟩, w⟩, l⟩, m⟩, o⟩ := h
  refine ⟨?_, fun i z hz => zoneOk_of_check (everyZone_spec b i z hz), dwellsOk_of_check c, tableOk_of_check d e,
    fun n => axisOk_of_check (List.all_eq_true.mp f n (List.mem_finRange n)), ?_, storeOk_of_check k,
    wearOk_of_check w, sweepOk_of_check l, fun p => syncOk_of_check (List.all_eq_true.mp m p (by cases p <;> simp [bothPorts])),
    deviceOk_of_check o⟩
  · intro n
    have := List.all_eq_true.mp a n (List.mem_finRange n)
    simpa using this
  · intro l
    have := List.all_eq_true.mp g l (List.mem_finRange l)
    cases hd : s.device with
    | running => simpa [hd] using this
    | starting => simpa [hd] using this

/-! ### Fields that no invariant speaks of -/

theorem good_setPending {s : State} (h : Good s) (v : List Instr) : Good (s.setPending v) :=
  ⟨h.ranges, h.zones, ⟨h.dwells.held, h.dwells.empty, h.dwells.own⟩, ⟨h.table.lists, h.table.exclusive⟩,
    fun n => ⟨(h.axes n).tracker, (h.axes n).conditions, (h.axes n).pass, (h.axes n).dated, (h.axes n).posting,
      (h.axes n).starting⟩,
    h.lines, ⟨h.store.once, h.store.takes, h.store.program, h.store.waits, h.store.retry, h.store.starting⟩,
    ⟨h.wear.reads, h.wear.copies⟩, ⟨h.sweep.running, h.sweep.asked, h.sweep.next, h.sweep.count, h.sweep.starting⟩,
    fun q => ⟨(h.sync q).slot, (h.sync q).marks, (h.sync q).dropped⟩,
    ⟨h.device.hold, fun hs =>
      let r := h.device.rests hs
      ⟨r.slots, r.running, r.passes, r.conditions, r.dwells, r.notRunning⟩, h.device.rows, h.device.half⟩⟩

theorem good_setFreeze {s : State} (h : Good s) (v : FreezeLevel) : Good (s.setFreeze v) :=
  ⟨h.ranges, h.zones, ⟨h.dwells.held, h.dwells.empty, h.dwells.own⟩, ⟨h.table.lists, h.table.exclusive⟩,
    fun n => ⟨(h.axes n).tracker, (h.axes n).conditions, (h.axes n).pass, (h.axes n).dated, (h.axes n).posting,
      (h.axes n).starting⟩,
    h.lines, ⟨h.store.once, h.store.takes, h.store.program, h.store.waits, h.store.retry, h.store.starting⟩,
    ⟨h.wear.reads, h.wear.copies⟩, ⟨h.sweep.running, h.sweep.asked, h.sweep.next, h.sweep.count, h.sweep.starting⟩,
    fun q => ⟨(h.sync q).slot, (h.sync q).marks, (h.sync q).dropped⟩,
    ⟨h.device.hold, fun hs =>
      let r := h.device.rests hs
      ⟨r.slots, r.running, r.passes, r.conditions, r.dwells, r.notRunning⟩, h.device.rows, h.device.half⟩⟩

theorem good_setPointer {s : State} (h : Good s) (v : Claimant) : Good (s.setPointer v) :=
  ⟨h.ranges, h.zones, ⟨h.dwells.held, h.dwells.empty, h.dwells.own⟩, ⟨h.table.lists, h.table.exclusive⟩,
    fun n => ⟨(h.axes n).tracker, (h.axes n).conditions, (h.axes n).pass, (h.axes n).dated, (h.axes n).posting,
      (h.axes n).starting⟩,
    h.lines, ⟨h.store.once, h.store.takes, h.store.program, h.store.waits, h.store.retry, h.store.starting⟩,
    ⟨h.wear.reads, h.wear.copies⟩, ⟨h.sweep.running, h.sweep.asked, h.sweep.next, h.sweep.count, h.sweep.starting⟩,
    fun q => ⟨(h.sync q).slot, (h.sync q).marks, (h.sync q).dropped⟩,
    ⟨h.device.hold, fun hs =>
      let r := h.device.rests hs
      ⟨r.slots, r.running, r.passes, r.conditions, r.dwells, r.notRunning⟩, h.device.rows, h.device.half⟩⟩

/-- Another entry of the copy map, whose WORN copies have worn rows. -/
theorem good_setItem {s : State} (h : Good s) (k : ItemNo) (v : ItemEntry)
    (hw : ∀ c : Copy, v.copies[c] = .worn → s.worn (rowOf k c) = true) : Good (s.setItem k v) :=
  ⟨h.ranges, h.zones, ⟨h.dwells.held, h.dwells.empty, h.dwells.own⟩, ⟨h.table.lists, h.table.exclusive⟩,
    fun n => ⟨(h.axes n).tracker, (h.axes n).conditions, (h.axes n).pass, (h.axes n).dated, (h.axes n).posting,
      (h.axes n).starting⟩,
    h.lines, ⟨h.store.once, h.store.takes, h.store.program, h.store.waits, h.store.retry, h.store.starting⟩,
    ⟨h.wear.reads, fun j c hc => by
      by_cases e : j = k
      · subst e; exact hw c (by simpa [State.setItem_at] using hc)
      · exact h.wear.copies j c (by simpa [State.setItem_at, e] using hc)⟩, ⟨h.sweep.running, h.sweep.asked, h.sweep.next, h.sweep.count, h.sweep.starting⟩,
    fun q => ⟨(h.sync q).slot, (h.sync q).marks, (h.sync q).dropped⟩,
    ⟨h.device.hold, fun hs =>
      let r := h.device.rests hs
      ⟨r.slots, r.running, r.passes, r.conditions, r.dwells, r.notRunning⟩, h.device.rows, h.device.half⟩⟩

/-- Another content of a row that is not worn. -/
theorem good_setRow {s : State} (h : Good s) (r : RowNo) (v : Row) (hw : s.worn r = false) :
    Good (s.setRow r v) :=
  ⟨h.ranges, h.zones, ⟨h.dwells.held, h.dwells.empty, h.dwells.own⟩, ⟨h.table.lists, h.table.exclusive⟩,
    fun n => ⟨(h.axes n).tracker, (h.axes n).conditions, (h.axes n).pass, (h.axes n).dated, (h.axes n).posting,
      (h.axes n).starting⟩,
    h.lines, ⟨h.store.once, h.store.takes, h.store.program, h.store.waits, h.store.retry, h.store.starting⟩,
    ⟨fun q hq => by
      by_cases e : q = r
      · subst e; exact absurd hq (by simp [hw])
      · simpa [State.setRow_at, e] using h.wear.reads q hq, h.wear.copies⟩, ⟨h.sweep.running, h.sweep.asked, h.sweep.next, h.sweep.count, h.sweep.starting⟩,
    fun q => ⟨(h.sync q).slot, (h.sync q).marks, (h.sync q).dropped⟩,
    ⟨h.device.hold, fun hs =>
      let r := h.device.rests hs
      ⟨r.slots, r.running, r.passes, r.conditions, r.dwells, r.notRunning⟩, h.device.rows, h.device.half⟩⟩

/-- Another tracker of an axis, where the axis is in order with it. -/
theorem good_setTracker {s : State} (h : Good s) (n : Axis) (v : Tracker)
    (hx : axisCheck (s.setTracker n v) n = true) : Good (s.setTracker n v) := by
  refine ⟨h.ranges, h.zones, ⟨h.dwells.held, h.dwells.empty, h.dwells.own⟩, ⟨h.table.lists, h.table.exclusive⟩,
    fun m => ?_,
    h.lines, ⟨h.store.once, h.store.takes, h.store.program, h.store.waits, h.store.retry, h.store.starting⟩,
    ⟨h.wear.reads, h.wear.copies⟩, ⟨h.sweep.running, h.sweep.asked, h.sweep.next, h.sweep.count, h.sweep.starting⟩,
    fun q => ⟨(h.sync q).slot, (h.sync q).marks, (h.sync q).dropped⟩,
    ⟨h.device.hold, fun hs =>
      let r := h.device.rests hs
      ⟨r.slots, r.running, r.passes, r.conditions, r.dwells, r.notRunning⟩, h.device.rows, h.device.half⟩⟩
  by_cases hm : m = n
  · subst hm; exact axisOk_of_check hx
  · have ht : (s.setTracker n v).tracker m = s.tracker m := by
      simp only [State.tracker, State.setTracker, Fin.getElem_fin]
      exact Vector.getElem_set_ne _ _ (fun he => hm (Fin.ext he.symm))
    have k := h.axes m
    exact ⟨by rw [ht]; exact k.tracker, by rw [ht]; exact k.conditions, k.pass, k.dated, k.posting,
      by rw [ht]; exact k.starting⟩

/-! ### A command that waits -/

/-- The part with a table command QUEUED at a port under tag 7. -/
def ask (s : State) (p : Port) (c : TableCommand) (payload : List Byte) : State :=
  s.setPort p { s.port p with slot := .queued c 7 payload }

/-- A command that is QUEUED at a port of a part that is RUNNING leaves the invariants as they are, unless the port waits
for a SYNC. -/
theorem good_ask {s : State} {p : Port} {c : TableCommand} {payload : List Byte} (h : Good s) (hd : s.device = .running)
    (hw : (s.port p).sync.waiting = false) : Good (ask s p c payload) := by
  refine ⟨h.ranges, h.zones, ⟨h.dwells.held, h.dwells.empty, h.dwells.own⟩, ⟨h.table.lists, h.table.exclusive⟩,
    fun n => ?_, h.lines, ?_, ⟨h.wear.reads, h.wear.copies⟩, ?_, fun q => ?_, ?_⟩
  · exact ⟨(h.axes n).tracker, (h.axes n).conditions, (h.axes n).pass, (h.axes n).dated, (h.axes n).posting,
      (h.axes n).starting⟩
  · exact ⟨h.store.once, h.store.takes, h.store.program, h.store.waits, h.store.retry, h.store.starting⟩
  · exact ⟨h.sweep.running, h.sweep.asked, h.sweep.next, h.sweep.count, h.sweep.starting⟩
  · have k := h.sync q
    have hn : noMark (ask s p c payload) q = noMark s q := rfl
    by_cases hq : q = p
    · subst hq
      refine ⟨?_, ?_, ?_⟩
      · cases q <;> simp_all [ask, State.port, State.setPort, PerPort.get, PerPort.set]
      · rw [hn, ← k.marks]; cases q <;> rfl
      · intro _
        have := k.dropped hw
        cases q <;> simpa [ask, State.port, State.setPort, PerPort.get, PerPort.set] using this
    · have hp : (ask s p c payload).port q = s.port q := by
        cases q <;> cases p <;> first | exact absurd rfl hq | rfl
      exact ⟨by rw [hp]; exact k.slot, by rw [hp, hn]; exact k.marks, by rw [hp]; exact k.dropped⟩
  · refine ⟨h.device.hold, fun hs => ?_, h.device.rows, h.device.half⟩
    have : s.device = .starting := hs
    rw [hd] at this
    cases this

/-- What makes a grant due, as one conjunction. -/
theorem due_of {s : State} {p : Port} {c : TableCommand} {tag : Byte} {payload : List Byte}
    (h : s.running = none ∧ nextClass s = some (classOf p) ∧ (s.port p).slot = .queued c tag payload) :
    Due s p c tag payload := ⟨h.1, h.2.1, h.2.2⟩

/-- What makes a work item of the evaluator due, as one conjunction. -/
theorem evaluatorDue_of {s : State} {w : WorkItem} (h : nextClass s = some .evaluator ∧ nextItem s = some w) :
    EvaluatorDue s w := ⟨h.1, h.2⟩

/-- No zone of the axis collides with these bounds, as one Bool. -/
def collisionFree (s : State) (n : Axis) (b : Bounds) (exclusive : Bool) (self : Option SlotNo) : Bool :=
  everyZone s fun j y =>
    decide (some j = self) || decide (y.axis ≠ n) || !(intersects b y.bounds && (exclusive || y.exclusive))

theorem noCollision_of {s : State} {n : Axis} {b : Bounds} {exclusive : Bool} {self : Option SlotNo}
    (h : collisionFree s n b exclusive self = true) : NoCollision s n b exclusive self := by
  intro j y hj hy hn ⟨hi, he⟩
  have := everyZone_spec h j y hy
  rcases he with he | he <;> simp [hj, hn, hi, he] at this

end Sys2Proof.Machine
end

