-- ==== Sys2Proof/Laws/Ops.lean ====
section
/-! SUPPORT. Sys2Proof/Laws/Ops.lean: for each shared operation of the machine, one lemma that says once all it can do. A
proof cites the lemma and does not unfold the operation. -/

namespace Sys2Proof.Machine

/-! ### Counts -/

/-- A saturating count is the smaller of the sum and 65535. -/
theorem addSaturating_toNat (x : Half) (n : Nat) : (addSaturating x n).toNat = min (x.toNat + n) 65535 := by
  unfold addSaturating
  split
  · rw [BitVec.toNat_ofNat, Nat.mod_eq_of_lt (by omega)]; omega
  · simp; omega

/-! ### The commit queue and the engine -/

/-- An enqueue request changes the queue alone, and only where the item is not queued (R121). -/
theorem enqueue_eq (k : ItemNo) (s : State) :
    enqueue k s = s.setQueue (if k ∈ s.queue.map QueueEntry.item then s.queue else s.queue ++ [⟨k, Marks.clear⟩]) := by
  unfold enqueue
  by_cases h : k ∈ s.queue.map QueueEntry.item
  · have : (s.queue.any fun e => decide (e.item = k)) = true := by simpa [List.mem_map] using h
    rw [if_pos this, if_pos h]; rfl
  · have : ¬(s.queue.any fun e => decide (e.item = k)) = true := by simpa [List.mem_map] using h
    rw [if_neg this, if_neg h]

/-- Enqueue requests change the queue alone, and keep what is queued at its place (R121). -/
theorem enqueueAll_eq (ks : List ItemNo) (s : State) :
    ∃ added, enqueueAll ks s = s.setQueue (s.queue ++ added) ∧ ∀ e ∈ added, e.item ∈ ks ∧ e.marks = Marks.clear := by
  induction ks generalizing s with
  | nil => exact ⟨[], by simp [enqueueAll, State.setQueue], by simp⟩
  | cons k ks ih =>
    obtain ⟨added, h, m⟩ := ih (enqueue k s)
    have hc : enqueueAll (k :: ks) s = enqueueAll ks (enqueue k s) := rfl
    rw [hc, h, enqueue_eq]
    by_cases hk : k ∈ s.queue.map QueueEntry.item
    · refine ⟨added, ?_, fun e he => ⟨List.mem_cons_of_mem _ (m e he).1, (m e he).2⟩⟩
      rw [if_pos hk]; rfl
    · refine ⟨⟨k, Marks.clear⟩ :: added, ?_, ?_⟩
      · rw [if_neg hk]; simp [State.setQueue]
      · intro e he
        rcases List.mem_cons.mp he with rfl | he
        · exact ⟨List.mem_cons_self, rfl⟩
        · exact ⟨List.mem_cons_of_mem _ (m e he).1, (m e he).2⟩

/-- The engine takes the head where it is IDLE, the device is RUNNING and the queue is not empty, and else nothing
changes (R122). -/
theorem takeHead_cases (s : State) :
    takeHead s = s ∨ ∃ e rest, s.device = .running ∧ s.engine = .idle ∧ s.queue = e :: rest ∧
      takeHead s = (s.setQueue rest).setEngine (.claiming e.item e.marks) := by
  unfold takeHead
  split
  · rename_i e rest hd he hq
    exact .inr ⟨e, rest, hd, he, hq, rfl⟩
  · exact .inl rfl

/-- A busy engine takes nothing. -/
theorem takeHead_busy {s : State} (h : s.engine ≠ .idle) : takeHead s = s := by
  rcases takeHead_cases s with e | ⟨_, _, _, hi, _⟩
  · exact e
  · exact absurd hi h

/-- With an empty queue the engine takes nothing. -/
theorem takeHead_empty {s : State} (h : s.queue = []) : takeHead s = s := by
  rcases takeHead_cases s with e | ⟨_, _, _, _, hq, _⟩
  · exact e
  · simp [h] at hq

/-- Where an idle engine has nothing to take, taking the head changes nothing. -/
theorem takeHead_rest {s : State} (h : s.device = .running → s.engine = .idle → s.queue = []) : takeHead s = s := by
  rcases takeHead_cases s with e | ⟨_, _, hd, hi, hq, _⟩
  · exact e
  · rw [h hd hi] at hq; exact absurd hq (by simp)

/-- What taking the head leaves alone. -/
theorem takeHead_frame (s : State) :
    ∃ q e, takeHead s = (s.setQueue q).setEngine e := by
  rcases takeHead_cases s with h | ⟨e, rest, _, _, _, h⟩
  · exact ⟨s.queue, s.engine, h⟩
  · exact ⟨rest, _, h⟩

/-! ### Notices -/

/-- A notice at a port changes that port's change set alone (R107, R108). -/
theorem noticeAt_eq (x : Notice) (s : State) (p : Port) :
    ∃ v, noticeAt x s p = s.setPort p { s.port p with changes := v } := by
  unfold noticeAt
  split
  · exact ⟨_, rfl⟩
  · exact ⟨(s.port p).changes, by cases p <;> rfl⟩

/-- The part with other change sets. -/
def withChanges (s : State) (a b : Vector CauseSet 96) : State :=
  (s.setPort .a { s.port .a with changes := a }).setPort .b { s.port .b with changes := b }

@[simp] theorem withChanges_slots (s : State) (a b : Vector CauseSet 96) : (withChanges s a b).slots = s.slots := by
  simp [withChanges]

@[simp] theorem withChanges_lineConfig (s : State) (a b : Vector CauseSet 96) :
    (withChanges s a b).lineConfig = s.lineConfig := by
  simp [withChanges]

@[simp] theorem withChanges_lines (s : State) (a b : Vector CauseSet 96) : (withChanges s a b).lines = s.lines := by
  simp [withChanges]

theorem withChanges_self (s : State) : withChanges s (s.port .a).changes (s.port .b).changes = s := rfl

theorem noticeAt_withChanges (x : Notice) (s : State) (a b : Vector CauseSet 96) (p : Port) :
    ∃ a' b', noticeAt x (withChanges s a b) p = withChanges s a' b' := by
  obtain ⟨v, h⟩ := noticeAt_eq x (withChanges s a b) p
  rw [h]
  cases p
  · exact ⟨v, b, rfl⟩
  · exact ⟨a, v, rfl⟩

/-- Notices change the two change sets alone (R108). -/
theorem addNotices_eq (xs : List Notice) (s : State) : ∃ a b, addNotices xs s = withChanges s a b := by
  suffices h : ∀ a b, ∃ a' b', addNotices xs (withChanges s a b) = withChanges s a' b' by
    have := h (s.port .a).changes (s.port .b).changes
    rwa [withChanges_self] at this
  induction xs with
  | nil => exact fun a b => ⟨a, b, rfl⟩
  | cons x xs ih =>
    intro a b
    have one : ∀ (ps : List Port) a b, ∃ a' b', ps.foldl (noticeAt x) (withChanges s a b) = withChanges s a' b' := by
      intro ps
      induction ps with
      | nil => exact fun a b => ⟨a, b, rfl⟩
      | cons p ps ihp =>
        intro a b
        obtain ⟨a', b', h⟩ := noticeAt_withChanges x s a b p
        simpa [List.foldl_cons, h] using ihp a' b'
    obtain ⟨a', b', h⟩ := one x.sentTo a b
    have hc : addNotices (x :: xs) (withChanges s a b) = addNotices xs (addNotice (withChanges s a b) x) := rfl
    rw [hc]; unfold addNotice; rw [h]; exact ih a' b'

/-! ### Lines -/

/-- What a driving set is computed from: the slots. -/
theorem drivingSet_congr {s t : State} (h : t.slots = s.slots) (l : LineNo) : drivingSet t l = drivingSet s l := by
  simp only [drivingSet, State.zone, h]

/-- What a line record is computed from: the slots and the LINES record. -/
theorem lineRecordOf_congr {s t : State} (h : t.slots = s.slots) (c : t.lineConfig = s.lineConfig) (l : LineNo) :
    lineRecordOf t l = lineRecordOf s l := by
  simp only [lineRecordOf, drivingSet_congr h, c]

/-- A recomputation changes the records of its lines alone, each to what its driving set gives (R103). -/
theorem recompute_eq (ls : List LineNo) (s : State) :
    ∃ v : Vector LineRecord 8, recompute ls s = { s with lines := v } ∧
      ∀ l : LineNo, v[l] = if l ∈ ls then lineRecordOf s l else s.lines[l] := by
  suffices h : ∀ t : State, t.slots = s.slots → t.lineConfig = s.lineConfig →
      ∃ v : Vector LineRecord 8, recompute ls t = { t with lines := v } ∧
        ∀ l : LineNo, v[l] = if l ∈ ls then lineRecordOf s l else t.lines[l] from h s rfl rfl
  induction ls with
  | nil => exact fun t _ _ => ⟨t.lines, rfl, by simp⟩
  | cons m ls ih =>
    intro t hs hc
    obtain ⟨v, hv, hl⟩ := ih (t.setLine m (lineRecordOf t m)) hs hc
    refine ⟨v, hv, fun l => ?_⟩
    rw [hl l]
    by_cases h : l ∈ ls
    · simp [h]
    · have := State.setLine_at t m (lineRecordOf t m) l
      simp only [State.line] at this
      rw [if_neg h, this]
      by_cases e : l = m
      · subst e; simp [lineRecordOf_congr hs hc]
      · simp [e, h]

/-! ### The consequences of a grant -/

/-- The queue, the engine, the lines and the change sets are written apart. -/
theorem withChanges_writes (s : State) (a b : Vector CauseSet 96) (q₀ q : List QueueEntry) (e : Engine)
    (v : Vector LineRecord 8) :
    (State.setQueue { withChanges (s.setQueue q₀) a b with lines := v } q).setEngine e =
      { withChanges s a b with queue := q, engine := e, lines := v } := by
  cases s; rfl

/-- Handing over changes the queue and the engine, the two change sets and the lines named, and nothing else (R18). -/
theorem handOver_frame (w : Work) :
    ∃ (q : List QueueEntry) (e : Engine) (a b : Vector CauseSet 96) (v : Vector LineRecord 8),
      handOver w = { withChanges w.state a b with queue := q, engine := e, lines := v } ∧
        ∀ l : LineNo, v[l] = if l ∈ w.lines then lineRecordOf w.state l else w.state.lines[l] := by
  obtain ⟨added, h₁, _⟩ := enqueueAll_eq w.items w.state
  obtain ⟨a, b, h₂⟩ := addNotices_eq w.notices (enqueueAll w.items w.state)
  rw [h₁] at h₂
  obtain ⟨v, h₃, hl⟩ := recompute_eq w.lines (withChanges (w.state.setQueue (w.state.queue ++ added)) a b)
  obtain ⟨q, e, h₄⟩ := takeHead_frame (recompute w.lines (withChanges (w.state.setQueue (w.state.queue ++ added)) a b))
  refine ⟨q, e, a, b, v, ?_, fun l => ?_⟩
  · rw [handOver, h₁, h₂, h₄, h₃, withChanges_writes]
  · rw [hl l, lineRecordOf_congr (s := w.state) (by simp) (by simp), withChanges_lines, State.setQueue_lines]

/-! ### Grants -/

/-- A grant that is due carries out its command and places its response (R18). -/
theorem tableGrant_due {s : State} {p : Port} {c : TableCommand} {tag : Byte} {payload : List Byte}
    (act : Port → List Byte → State → Ending) (h : Due s p c tag payload) :
    tableGrant p c act s =
      placeResponse p ⟨tag, c.code, (act p payload (beginGrant p s)).result, (act p payload (beginGrant p s)).payload⟩
        (handOver (act p payload (beginGrant p s)).work) := by
  simp [tableGrant, granted, h.free, h.next, h.slot]

/-- An evaluator grant that is due carries out its work item (R15, R17). -/
theorem evaluatorGrant_due {s : State} {w : WorkItem} (act : State → Work) (h : EvaluatorDue s w) :
    evaluatorGrant w act s = handOver (act ((s.setPointer .evaluator).tick .later)) := by
  simp [evaluatorGrant, h.next, h.item]

/-- A grant that is not due changes nothing (log entry 1). -/
theorem evaluatorGrant_not_due {s : State} {w : WorkItem} (act : State → Work)
    (h : ¬(nextClass s = some .evaluator ∧ nextItem s = some w)) : evaluatorGrant w act s = s := by
  unfold evaluatorGrant; rw [if_neg h]

/-! ### Transactions -/

/-- No FETCH is in progress where the transaction has made none (R175). -/
theorem noFetch_fetchInProgress {s : State} {p : Port} (h : NoFetch s p) : fetchInProgress s p = false := by
  unfold fetchInProgress
  cases hx : (s.port p).transaction with
  | none => rfl
  | some x => simpa [NoFetch, hx] using h

/-- The status byte of a transaction is the one sampled at its opening, or the present one where it opens and ends within a
step (R169). -/
theorem openingStatus_eq (s : State) (p : Port) : openingStatus s p = openingByte s p := by
  unfold openingStatus openingByte
  cases (s.port p).transaction <;> rfl

/-- A transaction that has made a FETCH makes no other frame (R175). -/
theorem occupy_fetch {s : State} {p : Port} {payload : List Byte} (serve : State → State)
    (h : fetchInProgress s p = true) : occupy p payload serve s = s := by
  simp [occupy, judgesFrames, h]

/-- A program into a worn row fails its verify (R117, R138). -/
theorem verifyPasses_worn {s : State} {x : Program} (r : VerifyRead) (h : s.worn (rowOf x.item x.target) = true) :
    verifyPasses s x r = false := by
  simp [verifyPasses, h]

/-- A program into a row that is not worn passes exactly where the verify read is CLEAN with the image written (R116). -/
theorem verifyPasses_eq {s : State} {x : Program} (r : VerifyRead) (h : s.worn (rowOf x.item x.target) = false) :
    verifyPasses s x r = decide (r = .asWritten ∨ r = .reads (.clean x.image)) := by
  cases r with
  | asWritten => simp [verifyPasses, verifyRow, h]
  | reads y => by_cases e : y = .clean x.image <;> simp [verifyPasses, verifyRow, h, e]

/-- A command that occupies the slot is served where the slot is EMPTY (R171). -/
theorem occupy_free {s : State} {p : Port} {payload : List Byte} (serve : State → State) (h : PortFree s p)
    (fits : payload.length ≤ 32) :
    occupy p payload serve s = serve (setLastFrame p .accepted (shiftOut p (frameLength payload) s)) := by
  have hs : ((shiftOut p (frameLength payload) s).port p).slot = .empty := by simp [shiftOut, h.slot]
  unfold occupy
  simp [judgesFrames, h.hold, noFetch_fetchInProgress h.frame, payloadFits, fits, hs]

/-- A port that answers no transaction is not changed by one (R139). -/
theorem occupy_held {s : State} {p : Port} {payload : List Byte} (serve : State → State) (h : s.held = true) :
    occupy p payload serve s = s := by
  simp [occupy, judgesFrames, h]

/-! ### Pending passes and conditions -/

/-- A pass is pending once it is set, and no other axis is touched (R79). -/
theorem setPassPending_eq (n : Axis) (s : State) :
    setPassPending n s = s.setPass n (some ((s.pendingPass n).getD s.now)) := by
  unfold setPassPending
  split
  · rename_i m h
    rw [h]
    simp only [Option.getD_some, State.setPass]
    have : s.passes.set n (some m) = s.passes := by
      ext1
      rename_i i hi
      simp only [Vector.getElem_set]
      split
      · rename_i e; subst e; simpa [State.pendingPass] using h.symm
      · rfl
    rw [this]
  · rename_i h; rw [h]; rfl

/-- Posting a condition changes the axis's list alone (R80). -/
theorem post_eq (n : Axis) (k : ConditionKind) (s : State) :
    post n k s = (s.setConditions n (postedTo k s.now (s.pendingConditions n)).1,
      (postedTo k s.now (s.pendingConditions n)).2) := rfl

/-- The list after a posting that alternates (R80): one more condition, or, where two are pending, the first alone. -/
theorem postedTo_alternating (k : ConditionKind) (now : Nat) (l : List Condition)
    (h : ∀ c, l.getLast? = some c → c.kind ≠ k) (two : l.length ≤ 2) :
    postedTo k now l = if l.length < 2 then (l ++ [⟨k, now⟩], false) else (l.take 1, true) := by
  match l with
  | [] => rfl
  | [c] => simp [postedTo, h c rfl]
  | [c, d] => simp [postedTo, h d rfl]
  | _ :: _ :: _ :: _ => simp at two

end Sys2Proof.Machine
end

