-- ==== Sys2Proof/Laws/PerInstr.lean ====
section
/-! SUPPORT. Sys2Proof/Laws/PerInstr.lean: for each command or event, that a host command is never a status poll: the bytes
of its transaction hold at least one whole byte, so the port judges them (R168, R170). -/

namespace Sys2Proof.Laws.JudgedFrame

/-- A host command's transaction is judged as a request frame (R168). -/
def Statement (i : Instr) : Prop :=
  i.wf = true → ∀ p bytes x, transactionOf i = some (p, bytes, x) → judgeFrame bytes ≠ .poll

/-- Bytes that hold at least one byte are judged. -/
theorem judged_of_ne_nil {bytes : List Byte} (h : bytes ≠ []) : judgeFrame bytes ≠ .poll := by
  unfold judgeFrame
  split
  · simp
  · split
    · exact absurd rfl h
    · split_ifs <;> simp
    · simp

/-- A row that is the judging of a request frame is judged. -/
theorem of_requestFrame {i : Instr} {p : Port} {code tag : Byte} {payload more : List Byte} {x : Circumstance}
    (h : transactionOf i = some (p, requestFrame code tag payload ++ more, x)) : Statement i := by
  intro _ q bytes y e
  rw [h] at e
  cases e
  exact judged_of_ne_nil (by simp [requestFrame])

/-- A row that is no transaction of a port has nothing to judge. -/
theorem of_none {i : Instr} (h : transactionOf i = none) : Statement i := by
  intro _ q bytes y e
  rw [h] at e
  cases e

theorem fullReset (cause : ResetCause) (tear : Tear) :
    Statement (.fullReset cause tear) := of_none rfl
theorem holdEnd :
    Statement .holdEnd := of_none rfl
theorem loadRowRead (decay : Decay) :
    Statement (.loadRowRead decay) := of_none rfl
theorem moveToRunning :
    Statement .moveToRunning := of_none rfl
theorem refusedFormat (p : Port) (bytes : List Byte) :
    Statement (.refusedFormat p bytes) := by
  intro w q other y e
  cases e
  have h : judgeFrame bytes = .malformed := by simpa [Instr.wf] using w
  simp [h]
theorem unknownCommand (p : Port) (code : Byte) (tag : Byte) (payload : List Byte) :
    Statement (.unknownCommand p code tag payload) := of_requestFrame (more := []) (by rw [List.append_nil]; rfl)
theorem nop (p : Port) (tag : Byte) :
    Statement (.nop p tag) := of_requestFrame (more := []) (by rw [List.append_nil]; rfl)
theorem fetch (p : Port) (tag : Byte) (moment : FetchMoment) :
    Statement (.fetch p tag moment) := by
  cases moment with
  | opens => exact of_none rfl
  | recognised => exact of_none rfl
  | ends clocked => exact of_requestFrame rfl
theorem portReset (p : Port) (tag : Byte) (duringGrant : Bool) :
    Statement (.portReset p tag duringGrant) := of_requestFrame (more := []) (by rw [List.append_nil]; rfl)
theorem restart (p : Port) (tag : Byte) (tear : Tear) :
    Statement (.restart p tag tear) := of_requestFrame (more := []) (by rw [List.append_nil]; rfl)
theorem tableCommandAccept (p : Port) (command : TableCommand) (tag : Byte) (payload : List Byte) :
    Statement (.tableCommandAccept p command tag payload) := of_requestFrame (more := []) (by rw [List.append_nil]; rfl)
theorem create (p : Port) :
    Statement (.create p) := of_none rfl
theorem amend (p : Port) :
    Statement (.amend p) := of_none rfl
theorem retire (p : Port) :
    Statement (.retire p) := of_none rfl
theorem arm (p : Port) :
    Statement (.arm p) := of_none rfl
theorem disarm (p : Port) :
    Statement (.disarm p) := of_none rfl
theorem clear (p : Port) :
    Statement (.clear p) := of_none rfl
theorem transfer (p : Port) :
    Statement (.transfer p) := of_none rfl
theorem releaseAll (p : Port) :
    Statement (.releaseAll p) := of_none rfl
theorem reclaim (p : Port) :
    Statement (.reclaim p) := of_none rfl
theorem readZone (p : Port) :
    Statement (.readZone p) := of_none rfl
theorem find (p : Port) :
    Statement (.find p) := of_none rfl
theorem list (p : Port) :
    Statement (.list p) := of_none rfl
theorem setAxis (p : Port) :
    Statement (.setAxis p) := of_none rfl
theorem setLines (p : Port) :
    Statement (.setLines p) := of_none rfl
theorem setPorts (p : Port) :
    Statement (.setPorts p) := of_none rfl
theorem freeze (p : Port) :
    Statement (.freeze p) := of_none rfl
theorem readConfig (p : Port) :
    Statement (.readConfig p) := of_none rfl
theorem takeChanges (p : Port) (tag : Byte) (payload : List Byte) :
    Statement (.takeChanges p tag payload) := of_requestFrame (more := []) (by rw [List.append_nil]; rfl)
theorem readFaults (p : Port) (tag : Byte) (payload : List Byte) :
    Statement (.readFaults p tag payload) := of_requestFrame (more := []) (by rw [List.append_nil]; rfl)
theorem axisStatus (p : Port) (tag : Byte) (payload : List Byte) :
    Statement (.axisStatus p tag payload) := of_requestFrame (more := []) (by rw [List.append_nil]; rfl)
theorem lineStatus (p : Port) (tag : Byte) (payload : List Byte) :
    Statement (.lineStatus p tag payload) := of_requestFrame (more := []) (by rw [List.append_nil]; rfl)
theorem deviceStatus (p : Port) (tag : Byte) (payload : List Byte) :
    Statement (.deviceStatus p tag payload) := of_requestFrame (more := []) (by rw [List.append_nil]; rfl)
theorem sweepStart (p : Port) (tag : Byte) (payload : List Byte) :
    Statement (.sweepStart p tag payload) := of_requestFrame (more := []) (by rw [List.append_nil]; rfl)
theorem sweepStop (p : Port) (tag : Byte) (payload : List Byte) :
    Statement (.sweepStop p tag payload) := of_requestFrame (more := []) (by rw [List.append_nil]; rfl)
theorem sweepStatus (p : Port) (tag : Byte) (payload : List Byte) :
    Statement (.sweepStatus p tag payload) := of_requestFrame (more := []) (by rw [List.append_nil]; rfl)
theorem sync (p : Port) (tag : Byte) (payload : List Byte) :
    Statement (.sync p tag payload) := of_requestFrame (more := []) (by rw [List.append_nil]; rfl)
theorem resync (p : Port) (tag : Byte) (payload : List Byte) (moment : Moment) :
    Statement (.resync p tag payload moment) := of_requestFrame (more := []) (by rw [List.append_nil]; rfl)
theorem sampleFrame (lane : Axis) (bits : Nat) (word : BitVec 32) (straddles : Bool) (moment : Moment) :
    Statement (.sampleFrame lane bits word straddles moment) := of_none rfl
theorem stalenessExpiry (axis : Axis) (moment : Moment) :
    Statement (.stalenessExpiry axis moment) := of_none rfl
theorem pass (axis : Axis) :
    Statement (.pass axis) := of_none rfl
theorem dwellTimerExpiry (slot : SlotNo) (moment : Moment) :
    Statement (.dwellTimerExpiry slot moment) := of_none rfl
theorem dwellExpiry (slot : SlotNo) :
    Statement (.dwellExpiry slot) := of_none rfl
theorem axisUnsure (axis : Axis) :
    Statement (.axisUnsure axis) := of_none rfl
theorem axisSure (axis : Axis) :
    Statement (.axisSure axis) := of_none rfl
theorem storeGrant :
    Statement .storeGrant := of_none rfl
theorem programVerify (read : VerifyRead) :
    Statement (.programVerify read) := of_none rfl
theorem sweepRead (decay : Decay) :
    Statement (.sweepRead decay) := of_none rfl

end Sys2Proof.Laws.JudgedFrame
end

