-- ==== Sys2Proof/Tests/Slice0.lean ====
section
/-! SUPPORT. Sys2Proof/Tests/Slice0.lean: the model's own tests. What a test expects is taken from the spec (its worked
sequences and tables), never from the model. Then, for each statement of Certificates/Slice0/Obligations.lean that has
hypotheses, a state and operands that meet them all. -/

set_option Elab.async false

namespace Sys2Proof.Tests

open Sys2Proof.Machine

/-! ### Asking -/

/-- The command ends in a next state of which `f` holds. -/
def after (c : Instr) (s : State) (f : State → Bool) : Bool :=
  match exec c s with
  | .next t => f t
  | _ => false

/-- The result code and the payload of the response that a port holds. -/
def answerOf (s : State) (p : Port) : Option (Result × List Byte) :=
  match (s.port p).slot with
  | .done r => some (r.result, r.payload)
  | _ => none

/-- The grant of a command of port A with this payload answers so. -/
def answers (s : State) (c : TableCommand) (payload : List Byte) (r : Result) (answer : List Byte) : Bool :=
  after (grantOf .a c) (ask s .a c payload) fun t => decide (answerOf t .a = some (r, answer))

/-! ### The states -/

/-- A zone with plain fields. -/
def plain (incarnation : Byte) (n : Axis) (b : Bounds) : Zone :=
  { incarnation := incarnation, axis := n, bounds := b, hysteresis := 0, dwell := 0, line := none, priority := 0,
    action := .follow, policy := .hold, owner := .a, armed := false, exclusive := false, persistent := true, label := [],
    occupancy := .unknown, tripMark := false, transits := 0 }

/-- Right after the load of a part in which nothing has been programmed. -/
def loaded : State :=
  { State.reset with load := { Load.reset with nextRow := 206, empty := 103 }, committedFreeze := some .opened }

/-- The same part RUNNING, both fault copies read: an empty table, every axis DISABLED. -/
def empty : State :=
  { loaded with
    device := .running
    ports := ⟨PortState.reset 0, PortState.reset 0⟩
    lines := Vector.replicate 8 ⟨false, none, 0, .low⟩ }

/-- Zone 44.2 of the worked sequence of chapter 8: LATCH, armed, TRIPPED, on ZL6, owned by port A. -/
def zone44 : Zone :=
  { plain 2 0 (.absolute ⟨0, 0⟩ ⟨0, 3000⟩) with
    line := some 6, action := .latch, armed := true, occupancy := .tripped, tripMark := true }
/-- Zone 50.3 of the worked sequence of chapter 5. -/
def zone50 : Zone :=
  { plain 3 1 (.absolute ⟨0, 30000⟩ ⟨0, 30500⟩) with
    line := some 3, priority := 10, action := .latch, armed := true, occupancy := .outside }
/-- Zone 52.2 of the worked sequence of chapter 5. -/
def zone52 : Zone :=
  { plain 2 1 (.absolute ⟨0, 33000⟩ ⟨0, 34000⟩) with
    hysteresis := 500, dwell := 20, line := some 4, priority := 9, armed := true, occupancy := .outside }
/-- Zone 51.1 of the worked sequence of chapter 5. -/
def zone51 : Zone :=
  { plain 1 1 (.periodic 40000 40999) with
    hysteresis := 100, line := some 4, priority := 4, armed := true, persistent := false, occupancy := .outside,
    transits := 6 }
/-- Zone 40.2 of the worked sequence of chapter 4. -/
def zone40 : Zone :=
  { plain 2 2 (.absolute ⟨1, 60000⟩ ⟨2, 2000⟩) with line := some 5, armed := true, occupancy := .inside }
/-- A disarmed, exclusive zone that port B owns. -/
def zone60 : Zone := { plain 1 0 (.absolute ⟨5, 0⟩ ⟨5, 100⟩) with owner := .b, exclusive := true, label := [0x41, 0x42] }
/-- A disarmed zone that both ports may change. -/
def zone61 : Zone := { plain 255 0 (.absolute ⟨6, 0⟩ ⟨6, 100⟩) with owner := .shared, persistent := false }
/-- A zone that waits for its dwell. -/
def zone62 : Zone :=
  { plain 9 0 (.periodic 60000 500) with dwell := 10, action := .latch, armed := true, occupancy := .qualifying,
                                         line := some 7, policy := .asserts }

def axisOn : AxisConfig := { AxisConfig.default with enabled := true }

/-- A tracker in TRACKING at a position. -/
def trackingAt (p : ExtPos) (sequence : BitVec 4) (live : Span) : Tracker :=
  { Tracker.reset with
    state := .tracking, position := some p, sequence := some sequence, lastAngle := p.angle, live := some live,
    sure := true, timer := some ⟨0, 50⟩ }

/-- The trackers: axis 0 at +0:1000; axis 1 at the end of the frames of the worked sequence of chapter 5; axis 2 at the start
of the worked sequence of chapter 4; axis 3 DISABLED. -/
def trackers : Vector Tracker 4 :=
  #v[trackingAt ⟨0, 1000⟩ 5 ⟨⟨0, 900⟩, ⟨0, 1100⟩⟩,
     trackingAt ⟨0, 33500⟩ 3 ⟨⟨0, 20000⟩, ⟨0, 41500⟩⟩,
     { trackingAt ⟨1, 64000⟩ 9 ⟨⟨1, 64000⟩, ⟨1, 64000⟩⟩ with counters := { Counters.zero with accepted := 1200 } },
     Tracker.reset]

/-- A part at work: the zones of the worked sequences and a few more, a QUARANTINED slot, a slot that remembers 255, a pass
pending on axis 1, and the copy map of the worked sequences of chapters 7 and 8. -/
def bench : State :=
  let s : State :=
    { empty with
      now := 4
      slots := ((((((((((empty.slots.set 44 (.live zone44)).set 50 (.live zone50)).set 52 (.live zone52)).set 51
        (.live zone51)).set 40 (.live zone40)).set 60 (.live zone60)).set 61 (.live zone61)).set 62 (.live zone62)).set 4
        .quarantined).set 7 (.vacant 255))
      absolute := #v[[44, 60, 61], [50, 52], [40], []]
      periodic := #v[[62], [51], [], []]
      available := #v[true, true, true, false]
      axes := #v[axisOn, axisOn, axisOn, AxisConfig.default]
      trackers := trackers
      passes := #v[none, some 3, none, none]
      dwells := empty.dwells.set 62 (some ⟨9, 1, 10, none⟩)
      copyMap := ((((empty.copyMap.set 12 ⟨#v[.valid, .valid], some 0, some 40⟩).set 44
        ⟨#v[.valid, .valid], some 1, some 23⟩).set 50 ⟨#v[.valid, .valid], some 0, some 7⟩).set 100
        ⟨#v[.valid, .valid], some 1, some 3⟩).set 98 ⟨#v[.valid, .valid], some 1, some 6⟩ }
  { s with lines := Vector.ofFn (lineRecordOf s) }

/-- The bench with another tracker on an axis. -/
def withTracker (s : State) (n : Axis) (t : Tracker) : State := s.setTracker n t

/-- Axis 2 after event 1 of the worked sequence of chapter 4: STALE, an axis-unsure condition pending. -/
def stale : State :=
  (bench.setTracker 2
    { bench.tracker 2 with
      state := .stale, live := none, held := some ⟨⟨⟨1, 64000⟩, ⟨1, 64000⟩⟩, ⟨1, 64000⟩⟩, sure := false, timer := none }
    ).setConditions 2 [⟨.unsure, 4⟩]

/-- Axis 2 after event 2: the condition has been taken. -/
def settled : State :=
  ((stale.setTracker 2 { stale.tracker 2 with held := none }).setConditions 2 []).setAvailable 2 false

/-- Axis 2 ACQUIRING, its departure not yet taken; axis 3 LOST. -/
def acquiring : State :=
  let t : Tracker := { Tracker.reset with state := .acquiring, acquireTurn := some 0xFF8 }
  let u : Tracker := { Tracker.reset with state := .lost, cause := some .jumps, position := some ⟨0, 7⟩, sequence := some 1 }
  ((bench.setTracker 2 t).setTracker 3 u).setConditions 2 [⟨.unsure, 4⟩]

/-- The store at the STORE claim for S50 of the worked sequence of chapter 7: LINES and S12 wait, and port B waits for its
SYNC. -/
def claiming : State :=
  ((bench.setQueue [⟨100, ⟨false, true⟩⟩, ⟨12, ⟨false, false⟩⟩]).setEngine (.claiming 50 ⟨false, true⟩)).setPort .b
    { bench.port .b with slot := .waiting 0x21, sync := ⟨true, 0⟩ }

/-- What the commit of S50 writes: generation 8 into copy 1. -/
def program50 : Program := ⟨50, ⟨false, true⟩, encodeImage 50 8 (.live zone50), 1, 8⟩

/-- The commit of S50 in the array. -/
def programming : State := (claiming.setEngine (.programming program50)).setArray .program

/-- Its second attempt. -/
def retrying : State :=
  ((claiming.setEngine (.retrying program50)).setArray .program).setItem 50 ⟨#v[.valid, .bad], some 0, some 7⟩

/-- A sweep from row 100, one pass done, its read of row 101 in the array; row 101 is copy 1 of S50. -/
def sweeping : State :=
  ((bench.setSweep { Sweep.reset with state := .running, startRow := 100, nextRow := 101, rowsRead := 1, passes := 1 }).setArray
    (.sweepRead 101 true)).setRow 101 (.clean (encodeImage 50 6 (.live zone50)))

/-- A row that is worn. -/
def wornOut (s : State) (r : RowNo) : State := (s.setRow r .uncorrectable).setWorn r true

/-- Both copies of S50 are WORN. -/
def exhausted : State :=
  ((wornOut (wornOut claiming 100) 101).setItem 50 ⟨#v[.worn, .worn], none, some 7⟩).setPointer .evaluator

/-- The second attempt of S50 into copy 1, copy 0 WORN. -/
def lastAttempt : State := (wornOut retrying 100).setItem 50 ⟨#v[.worn, .bad], none, some 7⟩

/-- A repair of S50 after a full reset: copy 1 is BAD in the copy map, and its row is worn (R138). -/
def repairing : State := (wornOut programming 101).setItem 50 ⟨#v[.valid, .bad], some 0, some 7⟩

/-- Port B in a transaction that opened while its slot was WAITING; the slot has become DONE since (R175). -/
def fetching (fetch : Option RecognisedFetch) : State :=
  bench.setPort .b { bench.port .b with slot := .done ⟨0x21, 0x48, .ok, []⟩, transaction := some ⟨0x40, fetch⟩ }

/-- The part held by its RESET_N pin. -/
def heldLow : State := { State.reset with resetN := false, ports := ⟨PortState.reset 0, PortState.reset 0⟩ }

theorem good_empty : Good empty := good_of_check (by decide +kernel)
theorem good_loaded : Good loaded := good_of_check (by decide +kernel)
theorem good_heldLow : Good heldLow := good_of_check (by decide +kernel)
theorem good_bench : Good bench := good_of_check (by decide +kernel)
theorem good_stale : Good stale := good_of_check (by decide +kernel)
theorem good_settled : Good settled := good_of_check (by decide +kernel)
theorem good_acquiring : Good acquiring := good_of_check (by decide +kernel)
theorem good_claiming : Good claiming := good_of_check (by decide +kernel)
theorem good_programming : Good programming := good_of_check (by decide +kernel)
theorem good_retrying : Good retrying := good_of_check (by decide +kernel)
theorem good_sweeping : Good sweeping := good_of_check (by decide +kernel)

/-! ### Well-formed commands: each check of Instr.wf refuses a term that is not -/

theorem test_wf_refuses_well_formed_frame_as_malformed :
    (Instr.refusedFormat .a [0x00, 0x21, 0x00, 0xCA]).wf = false := by decide +kernel
theorem test_wf_refuses_no_bytes_as_malformed : (Instr.refusedFormat .a []).wf = false := by decide +kernel
theorem test_wf_accepts_malformed : (Instr.refusedFormat .a [0x00, 0x21, 0x00, 0xCB]).wf = true := by decide +kernel
theorem test_wf_refuses_listed_code : (Instr.unknownCommand .a 0x49 1 []).wf = false := by decide +kernel
theorem test_wf_refuses_unknown_with_33_bytes :
    (Instr.unknownCommand .a 0x50 1 (List.replicate 33 0)).wf = false := by decide +kernel
theorem test_wf_refuses_table_command_with_33_bytes :
    (Instr.tableCommandAccept .a .create 1 (List.replicate 33 0)).wf = false ∧
    (Instr.tableCommandAccept .a .create 1 (List.replicate 32 0)).wf = true := by decide +kernel
theorem test_wf_refuses_local_commands_with_33_bytes :
    [Instr.takeChanges, .readFaults, .axisStatus, .lineStatus, .deviceStatus, .sweepStart, .sweepStop, .sweepStatus,
     .sync, fun p t b => .resync p t b .later].all (fun c => !(c .a 1 (List.replicate 33 0)).wf) = true := by decide +kernel
theorem test_wf_refuses_image_of_31_bytes :
    (Instr.programVerify (.reads (.clean (List.replicate 31 0)))).wf = false ∧
    (Instr.programVerify (.reads (.corrected (List.replicate 31 0)))).wf = false ∧
    (Instr.programVerify (.reads (.clean (List.replicate 32 0)))).wf = true := by decide +kernel

/-! ### Frames and checks (R170, R171, R175, R186; the checks were computed apart from the model, from R186) -/

/-- The published check values of the two polynomials over "123456789". -/
theorem test_crc_check_values :
    crc8 0x1D 0x00 [0x31, 0x32, 0x33, 0x34, 0x35, 0x36, 0x37, 0x38, 0x39] = 0x37 ∧
    crc8 0x2F 0xFF [0x31, 0x32, 0x33, 0x34, 0x35, 0x36, 0x37, 0x38, 0x39] = 0x20 := by decide +kernel
theorem test_decode_nop : hostCommandOf .a [0x00, 0x21, 0x00, 0xCA] {} = some (.nop .a 0x21) := by decide +kernel
theorem test_decode_fetch :
    hostCommandOf .b [0x01, 0x09, 0x00, 0x0B, 0xFF, 0x12, 0x00] {} = some (.fetch .b 0x09 (.ends 24)) := by decide +kernel
theorem test_decode_port_reset_and_restart :
    hostCommandOf .a [0x02, 0x00, 0x00, 0x75] {} = some (.portReset .a 0 false) ∧
    hostCommandOf .a [0x03, 0x00, 0x00, 0x7B] {} = some (.restart .a 0 .uncorrectable) := by decide +kernel
theorem test_decode_create :
    hostCommandOf .a [0x10, 0x07, 0x13, 0xFF, 0x00, 0x18, 0x29, 0x03, 0x14, 0x01, 0xF4, 0x00, 0x00, 0x80, 0xE8, 0x00, 0x00,
        0x84, 0xD0, 0x02, 0x41, 0x42, 0xEA] {} =
      some (.tableCommandAccept .a .create 0x07 [0xFF, 0x00, 0x18, 0x29, 0x03, 0x14, 0x01, 0xF4, 0x00, 0x00, 0x80, 0xE8,
        0x00, 0x00, 0x84, 0xD0, 0x02, 0x41, 0x42]) := by decide +kernel
theorem test_decode_retire :
    hostCommandOf .a [0x12, 0x33, 0x02, 0x11, 0x04, 0x18] {} =
      some (.tableCommandAccept .a .retire 0x33 [0x11, 0x04]) := by decide +kernel
theorem test_decode_take_changes :
    hostCommandOf .a [0x40, 0x01, 0x00, 0x71] {} = some (.takeChanges .a 1 []) := by decide +kernel
theorem test_decode_resync :
    hostCommandOf .a [0x49, 0x02, 0x04, 0x03, 0x01, 0xF8, 0x00, 0xD0] {} =
      some (.resync .a 2 [0x03, 0x01, 0xF8, 0x00] .later) := by decide +kernel
theorem test_decode_unknown :
    hostCommandOf .a [0x50, 0x02, 0x01, 0x01, 0xB6] {} = some (.unknownCommand .a 0x50 2 [1]) := by decide +kernel
theorem test_decode_malformed :
    hostCommandOf .a [0x00, 0x21, 0x00] {} = some (.refusedFormat .a [0x00, 0x21, 0x00]) ∧
    hostCommandOf .a [0x12, 0x33, 0x03, 0x11, 0x04, 0x18] {} =
      some (.refusedFormat .a [0x12, 0x33, 0x03, 0x11, 0x04, 0x18]) ∧ hostCommandOf .a [] {} = none := by decide +kernel
/-- A definition block like that of zone 52.2 of chapter 5, laid out by 11.2. -/
theorem test_parse_create :
    parseCreate [0xFF, 0x02, 0x1A, 0xE9, 0x04, 0x14, 0x01, 0xF4, 0xFF, 0xFF, 0x80, 0xE8, 0x00, 0x00, 0x84, 0xD0, 0x02, 0x41,
        0x42] =
      some
        { slot := none, choice := .shared, axis := 1, bounds := .absolute ⟨-1, 33000⟩ ⟨0, 34000⟩, hysteresis := 500, dwell := 20
          line := some 4, priority := 9, action := .latch, policy := .release, exclusive := true, persistent := true
          label := [0x41, 0x42] } := by decide +kernel

/-! ### Geometry (the examples of R10, R84, R85 and of FIND) -/

theorem test_intersections :
    intersects (.absolute ⟨-1, 0⟩ ⟨0, 100⟩) (.absolute ⟨0, 100⟩ ⟨0, 200⟩) = true ∧
    intersects (.absolute ⟨-1, 0⟩ ⟨0, 100⟩) (.absolute ⟨0, 101⟩ ⟨0, 200⟩) = false ∧
    intersects (.periodic 60000 500) (.periodic 400 900) = true := by decide +kernel
theorem test_held :
    [(32499 : Angle), 32500, 34500, 34501].map (fun a => (Bounds.absolute ⟨0, 33000⟩ ⟨0, 34000⟩).holds 500 ⟨0, a⟩) =
      [false, true, true, false] ∧
    [(65335 : Angle), 65336, 65535, 0, 1200, 1201].map (fun a => (Bounds.periodic 100 900).holds 300 ⟨7, a⟩) =
      [false, true, true, true, true, false] := by decide +kernel
theorem test_touched :
    (Bounds.periodic 40000 40999).touched ⟨⟨0, 20000⟩, ⟨0, 41500⟩⟩ = true ∧
    (Bounds.periodic 100 900).touched ⟨⟨-1, 60000⟩, ⟨0, 4000⟩⟩ = true ∧
    (Bounds.periodic 5000 6000).touched ⟨⟨-1, 60000⟩, ⟨0, 4000⟩⟩ = false := by decide +kernel

/-! ### One step of each command and event -/

theorem test_full_reset_holds_the_part :
    after (.fullReset .resetPin .blank) programming (fun t =>
      t.held && decide (t.device = .starting ∧ t.row 101 = .blank ∧ (t.port .a).faults = 0 ∧ t.queue = [] ∧
        t.slot 44 = .vacant 0)) = true := by decide +kernel
theorem test_full_reset_in_the_verify_keeps_the_image :
    after (.fullReset .supplyDip .asWritten) retrying (fun t =>
      !t.supplyValid && decide (t.row 101 = .clean program50.image)) = true := by decide +kernel
theorem test_hold_end_raises_reset_seen :
    after .holdEnd heldLow (fun t => !t.held && decide ((t.port .a).faults = 1 ∧ (t.port .b).faults = 1)) = true := by
  decide +kernel
/-- The worked sequence of chapter 8: row 197 is read CORRECTED, one ahead of row 196, and AXIS2 is GOOD by copy 1. -/
def axis2Read : State :=
  (State.reset.setLoad { Load.reset with
      nextRow := 197, first := some ⟨.valid (encodeImage 98 5 (.axis axisOn)), false⟩ }).setRow 197
    (.clean (encodeImage 98 6 (.axis { axisOn with staleness := 7 })))
theorem test_load_decides_a_corrected_copy :
    after (.loadRowRead .oneBit) axis2Read (fun t => decide (t.axisConfig 2 = { axisOn with staleness := 7 } ∧
      t.item 98 = ⟨#v[.valid, .bad], some 1, some 6⟩ ∧ t.load.good = 1 ∧ t.load.corrected = 1 ∧
      t.queue = [⟨98, ⟨false, false⟩⟩])) = true := by decide +kernel
theorem test_load_of_a_lost_freeze_is_fixed :
    after (.loadRowRead .manyBits) (State.reset.setLoad { Load.reset with nextRow := 205, first := some ⟨.corrupt, false⟩ })
      (fun t => decide (t.freezeLevel = .fixed ∧ t.committedFreeze = none ∧ t.load.lost = 1 ∧ t.queue = [])) = true := by
  decide +kernel
/-- R20: of two colliding zones the lower slot is kept and the other QUARANTINED. -/
theorem test_move_to_running_quarantines :
    after .moveToRunning (((loaded.setSlot 3 (.live (plain 1 0 (.absolute ⟨0, 0⟩ ⟨0, 9⟩)))).setSlot 5
        (.live { plain 1 0 (.absolute ⟨0, 9⟩ ⟨1, 0⟩) with exclusive := true })).setAxisConfig 1 axisOn) (fun t =>
      decide (t.device = .running ∧ t.slot 5 = .quarantined ∧ t.zoneList 0 .absolute = [3] ∧
        (t.port .b).changes[5] = 2 ∧ (t.port .a).faults = 0x401 ∧ (t.tracker 1).state = .acquiring ∧
        (t.line 0).pin = .low)) = true := by decide +kernel
/-- Transaction 4 of the worked sequence of chapter 10. -/
theorem test_refused_format :
    after (.refusedFormat .a [0x43, 0x24, 0x00, 0x00]) empty (fun t => decide ((t.port .a).lastFrame = .refusedFormat ∧
      (t.port .a).formatRefusals = 1 ∧ (t.port .a).faults = 2 ∧ (t.port .b).faults = 0) && attention t .a) = true := by
  decide +kernel
theorem test_unknown_command :
    after (.unknownCommand .a 0x50 2 [1]) empty (fun t =>
      decide ((t.port .a).slot = .done ⟨2, 0x50, .unknownCommand, []⟩)) = true := by decide +kernel
theorem test_nop :
    after (.nop .b 0x21) empty (fun t => decide ((t.port .b).lastFrame = .accepted ∧
      (t.port .b).shifted = [0x00, 0xFF, 0xFF, 0xFF] ∧ (t.port .b).slot = .empty)) = true := by decide +kernel
/-- Transaction 3 of the worked sequence of chapter 10: WAITING, no response; and a response of 7 bytes is delivered with its
last bit and not before. -/
theorem test_fetch :
    let s := empty.setPort .a { empty.port .a with slot := .done ⟨7, 0x10, .ok, [17, 4]⟩ }
    (after (.fetch .b 0x09 (.ends 40)) claiming (fun t => decide ((t.port .b).slot = .waiting 0x21 ∧
       (t.port .b).shifted = [0x40, 0xFF, 0xFF, 0xFF, 0x09, 0x01, 0x12, 0x00, 0xB5])) &&
     after (.fetch .a 9 (.ends 56)) s (fun t => decide ((t.port .a).slot = .empty ∧
       (t.port .a).shifted = [0x61, 0xFF, 0xFF, 0xFF, 7, 0x10, 0, 2, 17, 4, 0x56])) &&
     after (.fetch .a 9 (.ends 55)) s (fun t => decide ((t.port .a).slot = (s.port .a).slot ∧
       (t.port .a).shiftedTail = [false, true, false, true, false, true, true]))) = true := by decide +kernel
/-- R169 and R175: the status byte is sampled when CS falls; a slot that becomes DONE before the fourth byte gives the held
response under a status byte that shows WAITING, and one that becomes DONE later leaves NO_RESPONSE and stays DONE. -/
theorem test_fetch_moments :
    (after (.fetch .b 0x09 .opens) claiming (fun t => decide ((t.port .b).transaction = some ⟨0x40, none⟩)) &&
     after (.fetch .b 0x09 .recognised) (fetching none) (fun t =>
       decide ((t.port .b).transaction = some ⟨0x40, some ⟨0x09, some ⟨0x21, 0x48, .ok, []⟩⟩⟩)) &&
     after (.fetch .b 0x09 (.ends 40)) (fetching (some ⟨0x09, none⟩)) (fun t =>
       decide ((t.port .b).slot = .done ⟨0x21, 0x48, .ok, []⟩ ∧ (t.port .b).transaction = none ∧
         (t.port .b).shifted = [0x40, 0xFF, 0xFF, 0xFF, 0x09, 0x01, 0x12, 0x00, 0xB5]))) = true := by decide +kernel
theorem test_port_reset_withdraws :
    after (.portReset .b 0 false) claiming (fun t => decide ((t.port .b).slot = .empty ∧
      (t.port .b).sync = ⟨false, 0⟩ ∧ t.queue = [⟨100, ⟨false, false⟩⟩, ⟨12, ⟨false, false⟩⟩] ∧
      t.engine = .claiming 50 ⟨false, false⟩)) = true := by decide +kernel
/-- Port A's grant runs, and port B's claim, which stands before it in the rotation by now, has arrived during it. -/
def overtaken : State := (ask (ask bench .a .releaseAll []) .b .releaseAll []).setPointer .portA

theorem test_port_reset_during_a_grant :
    (after (.portReset .a 0 true) (ask bench .a .releaseAll []) (fun t => decide (t.running = some ⟨.a, .releaseAll, []⟩ ∧
       (t.port .a).slot = .empty ∧ nextClass t = none)) &&
     after (.portReset .a 0 true) overtaken (fun t => decide (nextClass overtaken = some .portB ∧
       t.running = some ⟨.a, .releaseAll, []⟩ ∧ (t.port .a).slot = .empty ∧ nextClass t = none))) = true := by decide +kernel
theorem test_restart :
    (after (.restart .a 0 .blank) bench (fun t => !t.held && decide (t.device = .starting ∧ (t.port .b).faults = 1 ∧
       t.slot 44 = .vacant 0 ∧ t.load.nextRow = 0)) &&
     after (.restart .a 0 .uncorrectable) repairing (fun t => t.worn 101)) = true := by decide +kernel
theorem test_table_command_is_queued :
    after (.tableCommandAccept .a .retire 5 [44, 2]) bench (fun t =>
      decide ((t.port .a).slot = .queued .retire 5 [44, 2])) = true := by decide +kernel
theorem test_table_command_while_starting :
    after (.tableCommandAccept .a .retire 5 [44, 2]) State.reset (fun t =>
      decide ((t.port .a).slot = .done ⟨5, 0x12, .notReady, []⟩)) = true := by decide +kernel

/-- R2: slot 7 remembers 255, so its next zone has incarnation 1. -/
theorem test_create_after_255 :
    after (.create .a) (ask bench .a .create
        [7, 0x00, 0x30, 0x00, 0x0F, 0x00, 0, 0, 0, 5, 0, 0, 0, 5, 0, 10, 0]) (fun t =>
      decide (answerOf t .a = some (.ok, [7, 1]) ∧ t.zoneList 3 .absolute = [7] ∧
        t.slot 7 = .live (plain 1 3 (.absolute ⟨5, 0⟩ ⟨5, 10⟩)) ∧ t.engine = .claiming 7 ⟨false, false⟩)) = true := by
  decide +kernel
/-- The lists of the examples of chapters 1 and 3 on axis 1, all disarmed. -/
def listed : State :=
  { empty with
    slots := ((((empty.slots.set 9 (.live (plain 3 1 (.absolute ⟨-1, 0⟩ ⟨-1, 65000⟩)))).set 2
      (.live (plain 1 1 (.absolute ⟨-1, 0⟩ ⟨0, 100⟩)))).set 4 (.live (plain 5 1 (.absolute ⟨-1, 0⟩ ⟨0, 100⟩)))).set 11
      (.live (plain 1 1 (.periodic 60000 500)))).set 0 (.live (plain 2 1 (.absolute ⟨-1, 60000⟩ ⟨-1, 60100⟩)))
    absolute := #v[[], [9, 2, 4, 0], [], []]
    periodic := #v[[], [11], [], []] }
/-- The example of 1.4: an exclusive zone -1:60000..-1:60100 meets slot 9 first. -/
theorem test_create_overlap :
    answers listed .create [0xFF, 0x00, 0x12, 0x00, 0x0F, 0x00, 0, 0, 0xFF, 0xFF, 0xEA, 0x60, 0xFF, 0xFF, 0xEA, 0xC4, 0]
      .overlap [9, 3] = true := by decide +kernel
/-- The example of 1.3: slot 2, at +0:0..+0:0 behind 9 and 4, takes slot 4's bounds and its place is 9, 2, 4. -/
theorem test_amend_moves_in_the_list :
    after (.amend .a) (ask
        { listed with
          slots := listed.slots.set 2 (.live (plain 1 1 (.absolute ⟨0, 0⟩ ⟨0, 0⟩))), absolute := #v[[], [9, 4, 0, 2], [], []] }
        .a .amend [2, 1, 0x00, 0x06, 0, 0, 0, 0, 0, 0, 0xFF, 0xFF, 0, 0, 0, 0, 0, 100, 0]) (fun t =>
      decide (answerOf t .a = some (.ok, [2, 1, 0, 0]) ∧ t.zoneList 1 .absolute = [9, 2, 4, 0])) = true := by
  decide +kernel
theorem test_amend_of_a_tripped_zone :
    answers bench .amend [44, 2, 0x00, 0x10, 0, 0, 0, 5, 0, 0, 0, 0, 0, 0, 0, 0, 0, 0, 0] .tripped [] = true := by
  decide +kernel
theorem test_retire :
    after (.retire .b) (ask bench .b .retire [60, 1]) (fun t => decide (answerOf t .b = some (.ok, [60, 1]) ∧
      t.slot 60 = .vacant 1 ∧ t.zoneList 0 .absolute = [44, 61] ∧ (t.port .a).changes[60] = 0)) = true := by decide +kernel
theorem test_retire_of_the_other_ports_zone : answers bench .retire [60, 1] .notOwner [] = true := by decide +kernel
/-- R24: an axis with a position; a pass becomes pending. -/
theorem test_arm :
    after (.arm .a) (ask bench .a .arm [61, 255]) (fun t => decide (answerOf t .a = some (.ok, [0, 0]) ∧
      (t.zone 61).map Zone.armed = some true ∧ t.pendingPass 0 = some 5)) = true := by decide +kernel
theorem test_disarm :
    after (.disarm .a) (ask bench .a .disarm [40, 2]) (fun t => decide (answerOf t .a = some (.ok, [0, 0]) ∧
      t.zone 40 = some { zone40 with armed := false, occupancy := .unknown } ∧ (t.line 5).active = false ∧
      (t.port .b).changes[40] = 0)) = true := by decide +kernel
/-- The CLEAR of the worked sequence of chapter 8: UNKNOWN, a pass, the item, the line. -/
theorem test_clear :
    after (.clear .a) (ask bench .a .clear [44, 2]) (fun t => decide (answerOf t .a = some (.ok, [0, 0]) ∧
      t.zone 44 = some { zone44 with occupancy := .unknown, tripMark := false } ∧ t.pendingPass 0 = some 5 ∧
      t.engine = .claiming 44 ⟨false, false⟩ ∧ (t.line 6).active = false)) = true := by decide +kernel
theorem test_transfer :
    after (.transfer .a) (ask bench .a .transfer [50, 3, 1]) (fun t => decide (answerOf t .a = some (.ok, [0, 1]) ∧
      (t.zone 50).map Zone.owner = some .b ∧ (t.port .b).changes[50] = 1 ∧ (t.port .a).changes[50] = 0)) = true := by
  decide +kernel
theorem test_release_all :
    after (.releaseAll .b) (ask bench .b .releaseAll []) (fun t => decide (answerOf t .b = some (.ok, [1]) ∧
      (t.zone 60).map Zone.owner = some .shared ∧ (t.zone 50).map Zone.owner = some .a)) = true := by decide +kernel
theorem test_reclaim :
    after (.reclaim .a) (ask bench .a .reclaim [4]) (fun t => decide (answerOf t .a = some (.ok, [4]) ∧
      t.slot 4 = .vacant 0 ∧ (t.port .b).changes[4] = 4)) = true := by decide +kernel
theorem test_reclaim_of_a_live_slot : answers bench .reclaim [44] .notQuarantined [] = true := by decide +kernel
/-- Zone 51.1: byte 0 is PERIODIC, VOLATILE, axis 1, FOLLOW, armed; byte 1 owner A, HOLD, priority 4. -/
theorem test_read_zone :
    answers bench .readZone [51, 1] .ok [51, 1, 0xD4, 0x04, 0x04, 0, 0, 100, 0x9C, 0x40, 0xA0, 0x27, 0, 0, 0, 0, 0,
      0, 0, 0, 0, 0, 0, 0, 0, 1, 6, 2] = true := by decide +kernel
/-- The examples of FIND in chapter 3. -/
theorem test_find :
    (answers listed .find [1, 0xFF, 0xFF, 0xEA, 0x92] .ok [5, 9, 3, 2, 1, 4, 5, 0, 2, 11, 1] &&
     answers listed .find [1, 0, 0, 0, 100] .ok [3, 2, 1, 4, 5, 11, 1] &&
     answers listed .find [1, 0, 5, 1, 44] .ok [1, 11, 1]) = true := by decide +kernel
theorem test_list :
    (answers listed .list [1, 0, 2, 1] .ok [0, 4, 5, 0, 2] && answers listed .list [1, 1, 2, 1] .cursorLost [] &&
     answers listed .list [1, 0, 0xFF, 0xFF] .ok [0, 9, 3, 2, 1, 4, 5, 0, 2]) = true := by decide +kernel
/-- R75: a change of offset resynchronises the axis; flags 2. -/
theorem test_set_axis :
    after (.setAxis .a) (ask bench .a .setAxis [2, 0x04, 0, 0x12, 0x34, 0, 0, 0, 0, 0, 0]) (fun t =>
      decide (answerOf t .a = some (.ok, [2]) ∧ (t.axisConfig 2).offset = 0x1234 ∧ (t.tracker 2).state = .acquiring ∧
        (t.pendingConditions 2).map Condition.kind = [.unsure] ∧ t.engine = .claiming 98 ⟨false, false⟩)) = true := by
  decide +kernel
/-- The fifth row of the line example of chapter 6: a line that is disabled and ACTIVE_LOW stands high. -/
theorem test_set_lines :
    after (.setLines .a) (ask bench .a .setLines [0x20, 0x20, 0x00, 0x20]) (fun t => decide (answerOf t .a = some (.ok, [0]) ∧
      t.line 5 = ⟨false, some ⟨40, 2⟩, 1, .high⟩)) = true := by decide +kernel
theorem test_set_ports :
    after (.setPorts .b) (ask bench .b .setPorts [0x09, 0, 0, 2, 0, 0, 0]) (fun t => decide (answerOf t .b = some (.ok, [0]) ∧
      t.portConfig = ⟨{ PortConfig.default with subscription := .all }, { PortConfig.default with subscription := .none }⟩)) =
      true := by decide +kernel
theorem test_freeze :
    (after (.freeze .a) (ask bench .a .freeze [1]) (fun t => decide (answerOf t .a = some (.ok, [0, 1]) ∧
      t.freezeLevel = .layout)) && answers (bench.setFreeze .fixed) .freeze [1] .badArgs []) = true := by decide +kernel
theorem test_read_config :
    (answers bench .readConfig [98] .ok [98, 0x80, 0, 0, 0x10, 0x00, 3, 50, 0, 0, 0, 0] &&
     answers bench .readConfig [101] .ok [101, 0x07, 0xFF, 5, 0x07, 0xFF, 5, 0, 0, 0, 0, 0]) = true := by decide +kernel

/-- R111: the entry of a LIVE, TRIPPED zone with the causes OCCUPANCY and TRANSFERRED, and of a VACANT slot with REMOVED. -/
theorem test_take_changes :
    after (.takeChanges .a 1 []) (bench.setPort .a { bench.port .a with
        changes := ((bench.port .a).changes.set 44 17).set 7 4 }) (fun t =>
      decide (answerOf t .a = some (.ok, [0, 7, 255, 0x04, 44, 2, 0xD1])) && noChanges (t.port .a).changes) = true := by
  decide +kernel
/-- Transaction 7 of the worked sequence of chapter 10, and a condition that still holds. -/
theorem test_read_faults :
    after (.readFaults .a 0x27 []) (settled.setPort .a { settled.port .a with faults := 0x082 }) (fun t =>
      decide (answerOf t .a = some (.ok, [0x00, 0x82, 0x09]) ∧ (t.port .a).faults = 0x080)) = true := by decide +kernel
theorem test_axis_status :
    after (.axisStatus .a 1 [2]) settled (fun t => decide (answerOf t .a = some (.ok,
      [3, 0, 1, 0x00, 0x01, 0xFA, 0x00, 9, 0, 0xFF, 0x04, 0xB0, 0, 0, 0, 0, 0, 0, 0, 0]))) = true := by decide +kernel
theorem test_line_status :
    after (.lineStatus .a 1 []) bench (fun t => decide (answerOf t .a = some (.ok,
      [0, 0xFF, 0xFF, 0, 0, 0xFF, 0xFF, 0, 0, 0xFF, 0xFF, 0, 0, 0xFF, 0xFF, 0, 0, 0xFF, 0xFF, 0, 1, 40, 2, 1, 1, 44, 2, 1,
       0, 0xFF, 0xFF, 0]))) = true := by decide +kernel
theorem test_device_status :
    after (.deviceStatus .a 1 []) claiming (fun t => decide (answerOf t .a = some (.ok,
      [1, 103, 0, 0, 0, 0, 0, 2, 0, 0, 0, 1, 0, 0, 0, 0, 0, 0, 0, 0, 0, 0]))) = true := by decide +kernel
theorem test_sweep_start :
    after (.sweepStart .a 1 [205, 0, 1]) bench (fun t => decide (answerOf t .a = some (.ok, []) ∧
      t.array = .sweepRead 205 true ∧ t.sweep.stopOnFault = true)) = true := by decide +kernel
theorem test_sweep_start_while_running :
    after (.sweepStart .a 1 [0, 0, 0]) sweeping (fun t => decide (answerOf t .a = some (.sweepRunning, []))) = true := by
  decide +kernel
theorem test_sweep_stop :
    after (.sweepStop .a 1 []) sweeping (fun t => decide (answerOf t .a = some (.ok, [0]) ∧ t.sweep.state = .stopped ∧
      t.array = .sweepRead 101 false)) = true := by decide +kernel
theorem test_sweep_status :
    after (.sweepStatus .a 1 []) sweeping (fun t => decide (answerOf t .a = some (.ok,
      [1, 100, 0, 101, 1, 0, 1, 0, 0, 0, 0, 0, 0, 0, 0, 0, 0]))) = true := by decide +kernel
/-- The SYNC of the worked sequence of chapter 7, sent by port A: every entry and the in-flight item are marked. -/
theorem test_sync :
    after (.sync .a 0x21 []) claiming (fun t => decide ((t.port .a).slot = .waiting 0x21 ∧
      t.queue = [⟨100, ⟨true, true⟩⟩, ⟨12, ⟨true, false⟩⟩] ∧ t.engine = .claiming 50 ⟨true, true⟩)) = true := by
  decide +kernel
theorem test_sync_with_nothing_to_wait_for :
    after (.sync .a 0x21 []) bench (fun t => decide (answerOf t .a = some (.ok, []))) = true := by decide +kernel
theorem test_resync :
    after (.resync .a 2 [2, 1, 0xF8, 0x00] .later) bench (fun t => decide (answerOf t .a = some (.ok, []) ∧
      (t.tracker 2).state = .acquiring ∧ (t.tracker 2).acquireTurn = some (-2048) ∧
      t.pendingConditions 2 = [⟨.unsure, 5⟩])) = true := by decide +kernel
theorem test_resync_of_a_disabled_axis :
    after (.resync .a 2 [3, 0, 0, 0] .later) bench (fun t => decide (answerOf t .a = some (.axisDisabled, []))) = true := by
  decide +kernel

/-- Event 4 of the worked sequence of chapter 4. -/
theorem test_sample_frame_recovers :
    after (.sampleFrame 2 32 0xD80BB8BE false .later)
        (settled.setTracker 2 { settled.tracker 2 with
          counters := { (settled.tracker 2).counters with checkFail := 1 } }) (fun t =>
      decide ((t.tracker 2).state = .tracking ∧ (t.tracker 2).position = some ⟨2, 3000⟩ ∧
        (t.tracker 2).live = some ⟨⟨2, 3000⟩, ⟨2, 3000⟩⟩ ∧ (t.tracker 2).sequence = some 13 ∧
        (t.tracker 2).counters = ⟨1201, 1, 0, 0, 3⟩ ∧ t.pendingConditions 2 = [⟨.sure, 5⟩])) = true := by decide +kernel
/-- Event 3 of the worked sequence of chapter 4. -/
theorem test_sample_frame_with_a_bad_check :
    after (.sampleFrame 2 32 0xC80BB8BF false .later) settled (fun t =>
      decide ((t.tracker 2).state = .stale ∧ (t.tracker 2).counters = ⟨1200, 1, 0, 0, 0⟩ ∧
        (t.port .a).faults = 4 ∧ (t.port .b).faults = 4)) = true := by decide +kernel
/-- Event 1 of the worked sequence of chapter 4. -/
theorem test_staleness_expiry :
    after (.stalenessExpiry 2 .later) bench (fun t => decide ((t.tracker 2).state = .stale ∧
      (t.tracker 2).held = some ⟨⟨⟨1, 64000⟩, ⟨1, 64000⟩⟩, ⟨1, 64000⟩⟩ ∧ (t.tracker 2).live = none ∧
      t.pendingConditions 2 = [⟨.unsure, 5⟩] ∧ (t.port .b).faults = 0x080)) = true := by decide +kernel
/-- The pass of the worked sequence of chapter 5. -/
theorem test_pass :
    after (.pass 1) bench (fun t => decide ((t.zone 50).map Zone.occupancy = some .tripped ∧
      (t.zone 52).map Zone.occupancy = some .qualifying ∧ (t.zone 51).map Zone.transits = some 7 ∧
      (t.zone 51).map Zone.occupancy = some .outside ∧ t.dwell 52 = some ⟨2, 5, 20, none⟩ ∧
      (t.tracker 1).live = some ⟨⟨0, 33500⟩, ⟨0, 33500⟩⟩ ∧ (t.line 3).active = true ∧ (t.line 4).active = false ∧
      (t.port .a).changes[51] = 8 ∧ (t.port .a).changes[50] = 16 ∧ t.engine = .claiming 50 ⟨false, false⟩)) = true := by
  decide +kernel
theorem test_dwell_timer_expiry :
    after (.dwellTimerExpiry 62 .together) bench (fun t => decide (t.dwell 62 = some ⟨9, 1, 10, some 4⟩ ∧
      nextItem t = some (.expiry 62))) = true := by decide +kernel
/-- R91: a LATCH zone trips. -/
theorem test_dwell_expiry :
    after (.dwellExpiry 62) (bench.setDwell 62 (some ⟨9, 1, 10, some 4⟩)) (fun t =>
      decide ((t.zone 62).map Zone.occupancy = some .tripped ∧ t.dwell 62 = none ∧ (t.line 7).driving = some ⟨62, 9⟩)) =
      true := by decide +kernel
/-- Event 2 of the worked sequence of chapter 4. -/
theorem test_axis_unsure :
    after (.axisUnsure 2) stale (fun t => decide (t.available[2] = false ∧ t.slot 40 = .live zone40 ∧
      (t.line 5).active = true ∧ (t.tracker 2).held = none ∧ t.pendingConditions 2 = [])) = true := by decide +kernel
/-- R95: the zones of the axis become UNKNOWN and a pass becomes pending. -/
theorem test_axis_sure :
    after (.axisSure 2) ((settled.setTracker 2 (bench.tracker 2)).setConditions 2 [⟨.sure, 4⟩]) (fun t =>
      decide (t.available[2] = true ∧ (t.zone 40).map Zone.occupancy = some .unknown ∧ t.pendingPass 2 = some 5 ∧
        (t.line 5).active = false)) = true := by decide +kernel
/-- S50 of the worked sequence of chapter 7: both copies are VALID and copy 0 is newest, so the target is copy 1, with
generation 8. -/
theorem test_store_grant :
    after .storeGrant (claiming.setPointer .evaluator) (fun t => decide (t.engine = .programming program50 ∧
      t.array = .program)) = true := by decide +kernel
/-- The first failure of S50 of that sequence: copy 1 becomes BAD and is programmed again; and a program into a worn row fails
whatever its verify is said to read (R138). -/
theorem test_program_verify_fails :
    (after (.programVerify (.reads .uncorrectable)) programming (fun t => decide (t.engine = .retrying program50 ∧
       t.item 50 = ⟨#v[.valid, .bad], some 0, some 7⟩ ∧ (t.port .a).faults = 0x040 ∧ (t.port .b).faults = 0x040)) &&
     after (.programVerify .asWritten) repairing (fun t => decide (t.engine = .retrying program50 ∧
       t.row 101 = .uncorrectable))) = true := by decide +kernel
/-- The second failure: copy 1 becomes WORN, and S50 goes back to the tail with mark B; the engine takes LINES. -/
theorem test_program_verify_fails_twice :
    after (.programVerify (.reads .uncorrectable)) retrying (fun t =>
      decide (t.item 50 = ⟨#v[.valid, .worn], some 0, some 7⟩ ∧ t.engine = .claiming 100 ⟨false, true⟩ ∧
        t.queue = [⟨12, ⟨false, false⟩⟩, ⟨50, ⟨false, true⟩⟩] ∧ (t.port .b).slot = .waiting 0x21 ∧
        t.worn 101 = true ∧ t.worn 100 = false)) = true := by decide +kernel
/-- R154: a row of a VALID copy is read CORRECTED: counted, the copy BAD, the item enqueued. -/
theorem test_sweep_read :
    after (.sweepRead .oneBit) sweeping (fun t => decide (t.sweep.corrected = 1 ∧ t.sweep.nextRow = 102 ∧
      t.sweep.first = some ⟨101, false, some 6, 2⟩ ∧ t.item 50 = ⟨#v[.valid, .bad], some 0, some 7⟩ ∧
      t.engine = .claiming 50 ⟨false, false⟩ ∧ t.array = .sweepRead 102 true ∧ (t.port .a).faults = 0x010)) = true := by
  decide +kernel

/-- One step takes the front of the queue; no word spells a command, so the queue stays as it is. -/
theorem test_step :
    (match step (empty.setPending [.nop .a 1, .nop .b 2]) with
     | .next t => decide (t.pending = [.nop .b 2] ∧ (t.port .a).lastFrame = .accepted)
     | _ => false) = true := by decide +kernel
theorem test_with_fetch_word : State.reset.withFetchWord 16 0x1234 = State.reset := by rfl

/-! ### What meets the hypotheses of the statements: one theorem for each statement, a part for each of its clauses -/

/-- A table command of port A on the bench, or on the bench at a freeze level, is due. -/
theorem ready (l : FreezeLevel) (c : TableCommand) (payload : List Byte) :
    Good (ask (bench.setFreeze l) .a c payload) ∧ Due (ask (bench.setFreeze l) .a c payload) .a c 7 payload :=
  ⟨good_ask (good_setFreeze good_bench l) rfl rfl, rfl, rfl, rfl⟩

/-- The bench, with a table command of port A QUEUED. -/
abbrev asked (c : TableCommand) (payload : List Byte) : State := ask (bench.setFreeze .opened) .a c payload

theorem asked_good (c : TableCommand) (payload : List Byte) : Good (asked c payload) := (ready _ c payload).1
theorem asked_due (c : TableCommand) (payload : List Byte) : Due (asked c payload) .a c 7 payload := (ready _ c payload).2

theorem free_bench : PortFree bench .a := ⟨by decide +kernel, rfl, rfl⟩

theorem witness_StepTakesTheFront :
    (empty.setPending [.nop .a 1, .holdEnd]).pending = .nop .a 1 :: [.holdEnd] ∧ State.reset.pending = [] := ⟨rfl, rfl⟩

theorem witness_FullResetsDiscardEverything : heldLow.held = true ∧ PortFree bench .a ∧
    (programInArray repairing).map programRow = some 101 ∧ repairing.worn 101 = true :=
  ⟨by decide +kernel, free_bench, by decide +kernel, by decide +kernel⟩

theorem witness_HeldPartTakesNothing :
    Good heldLow ∧ heldLow.held = true ∧ Instr.nop .a 1 ≠ .holdEnd ∧
      ∀ cause tear, Instr.nop .a 1 ≠ .fullReset cause tear :=
  ⟨good_heldLow, by decide +kernel, nofun, nofun⟩

/-- The image of VACANT slot 7. -/
def image7 (generation remembered : Byte) : List Byte := encodeImage 7 generation (.vacant remembered)

theorem witness_LoadDecides :
    (imageGeneration (image7 0 1) = imageGeneration (image7 255 1) + BitVec.ofNat 8 1 ∧
     imageGeneration (image7 126 1) = imageGeneration (image7 255 1) + BitVec.ofNat 8 127) ∧
    (imageGeneration (image7 9 1) = imageGeneration (image7 9 2) ∧ (image7 9 1).length = 32 ∧ (image7 9 2).length = 32 ∧
     image7 9 1 ≠ image7 9 2) ∧
    imageGeneration (image7 128 1) = imageGeneration (image7 0 1) + 128 := by decide +kernel

theorem witness_LoadReadsAndDecides :
    (State.reset.device = .starting ∧ State.reset.held = false ∧ State.reset.load.nextRow = (0 : RowNo).val ∧
      State.reset.load.first = none) ∧
    (axis2Read.device = .starting ∧ axis2Read.held = false ∧ axis2Read.load.nextRow = (197 : RowNo).val ∧
      axis2Read.load.first = some ⟨.valid (encodeImage 98 5 (.axis axisOn)), false⟩ ∧
      ∀ image, CopyClass.valid (encodeImage 98 5 (.axis axisOn)) = .valid image → imageWf (itemOfRow 197) image = true) :=
  ⟨by decide +kernel, by decide +kernel, by decide +kernel, by decide +kernel, rfl,
    fun _ h => CopyClass.valid.inj h ▸ by decide +kernel⟩

/-- Two zones that collide, before the move to RUNNING. -/
def colliding : State :=
  (loaded.setSlot 3 (.live (plain 1 0 (.absolute ⟨0, 0⟩ ⟨0, 9⟩)))).setSlot 5
    (.live { plain 1 0 (.absolute ⟨0, 9⟩ ⟨1, 0⟩) with exclusive := true })

theorem witness_MoveToRunningStartsThePart :
    Good colliding ∧ colliding.device = .starting ∧ colliding.held = false ∧ colliding.load.nextRow = 206 ∧
    colliding.zone 3 = some (plain 1 0 (.absolute ⟨0, 0⟩ ⟨0, 9⟩)) ∧
    colliding.zone 5 = some { plain 1 0 (.absolute ⟨0, 9⟩ ⟨1, 0⟩) with exclusive := true } ∧
    Collides (.absolute ⟨0, 9⟩ ⟨1, 0⟩) true (plain 1 0 (.absolute ⟨0, 0⟩ ⟨0, 9⟩)) ∧ colliding.zone 95 = none :=
  ⟨good_of_check (by decide +kernel), rfl, by decide +kernel, rfl, by decide +kernel, by decide +kernel,
    ⟨by decide +kernel, .inl rfl⟩, by decide +kernel⟩

/-- Bytes that are malformed, one list for each case of R170. -/
def broken : List (List Byte) :=
  [[0x00, 0x21, 0x00], 0x12 :: 0x33 :: 33 :: List.replicate 34 0, [0x12, 0x33, 0x03, 0x11, 0x04, 0x18],
   [0x12, 0x33, 0x02, 0x11, 0x04, 0x19], requestFrame 0x02 0 [5]]

theorem witness_MalformedFramesAreRefused :
    startsWithFetch [0x01, 0x09, 0x00, 0x0B, 0xFF] ∧
    (∀ bytes ∈ broken, bytes ≠ [] ∧ ¬startsWithFetch bytes ∧ malformed bytes) ∧
    (¬startsWithFetch [0x00, 0x21, 0x00, 0xCA] ∧ ¬malformed [0x00, 0x21, 0x00, 0xCA]) ∧ PortFree bench .a := by
  refine ⟨⟨0x09, [0xFF], by decide +kernel⟩, ?_, ⟨?_, fun h => ?_⟩, free_bench⟩
  · intro bytes h
    have hm : malformed bytes := by
      have : (broken.all fun b => decide (b.length < 4 ∨ 32 < (b.getD 2 0).toNat ∨ b.length ≠ 4 + (b.getD 2 0).toNat ∨
        b.getLast? ≠ some (frameCheck b.dropLast) ∨
        (b.getD 0 0 ∈ ([0x00, 0x01, 0x02, 0x03] : List Byte) ∧ b.getD 2 0 ≠ 0))) = true := by decide +kernel
      have := of_decide_eq_true (List.all_eq_true.mp this bytes h)
      exact this
    have hb : (broken.all fun b => decide (b.head? ≠ some 0x01 ∧ b ≠ [])) = true := by decide +kernel
    have := of_decide_eq_true (List.all_eq_true.mp hb bytes h)
    exact ⟨this.2, fun ⟨_, _, he⟩ => this.1 (by rw [he]; rfl), hm⟩
  · rintro ⟨_, _, h⟩
    exact absurd (List.cons.inj h).1 (by decide)
  · unfold malformed at h
    revert h
    decide +kernel

theorem witness_PortAcceptsFrames :
    PortFree bench .a ∧ (List.replicate 32 (0 : Byte)).length ≤ 32 ∧ (∀ c : Command, c.code ≠ 0x04) ∧
      (∀ c : Command, c.code ≠ 0xFF) ∧ PortFree State.reset .b :=
  ⟨free_bench, by decide, by rintro (c | c | c) <;> cases c <;> decide, by rintro (c | c | c) <;> cases c <;> decide,
    by decide +kernel, rfl, rfl⟩

theorem witness_BusyPortRefuses :
    (Instr.deviceStatus .b 1 []).wf = true ∧ occupying (.deviceStatus .b 1 []) = some (.b, []) ∧ claiming.held = false ∧
      (claiming.port .b).transaction.bind Transaction.fetch = none ∧ (claiming.port .b).slot ≠ .empty := by decide +kernel

/-- The bench with a response of 7 bytes to be fetched. -/
def answered : State := bench.setPort .a { bench.port .a with slot := .done ⟨7, 0x10, .ok, [17, 4]⟩ }

theorem witness_FetchShiftsTheResponseOut :
    (answered.held = false ∧ (answered.port .a).transaction.bind Transaction.fetch = none ∧
      heldResponse (answered.port .a).slot = some ⟨7, 0x10, .ok, [17, 4]⟩ ∧
      (responseFrame ⟨7, 0x10, .ok, [17, 4]⟩).length = 7) ∧
    ((fetching none).held = false ∧ ((fetching none).port .b).transaction = some ⟨0x40, none⟩) ∧
    ((fetching (some ⟨9, none⟩)).held = false ∧
      ((fetching (some ⟨9, none⟩)).port .b).transaction.bind Transaction.fetch = some ⟨9, none⟩) := by decide +kernel

theorem witness_PortResetEmptiesThePort :
    (overtaken.held = false ∧ NoFetch overtaken .a ∧ overtaken.device = .running ∧ overtaken.running = none ∧
      (overtaken.port .a).slot = .queued .releaseAll 7 [] ∧ nextClass overtaken = some .portB) ∧
    bench.held = false ∧ NoFetch bench .a ∧ ∀ c tag payload, (bench.port .a).slot ≠ .queued c tag payload :=
  ⟨⟨by decide +kernel, rfl, rfl, rfl, rfl, by decide +kernel⟩, by decide +kernel, rfl, nofun⟩

theorem witness_OrphanedGrantRunsToItsEnd :
    let s := bench.setRunning (some ⟨.a, .releaseAll, []⟩)
    let u := ((s.setRunning none).setPointer .store).setPort .a { s.port .a with slot := .queued .releaseAll 7 [] }
    s.running = some ⟨.a, .releaseAll, []⟩ ∧ Due u .a .releaseAll 7 [] ∧ ∃ t, exec (grantOf .a .releaseAll) u = .next t :=
  ⟨rfl, ⟨rfl, rfl, rfl⟩, _, rfl⟩

theorem witness_ArbiterRotates :
    (claiming.device = .running ∧ claiming.held = false ∧ claiming.running = none) ∧
    (nextClass claiming = some .evaluator ∧ claimWaits claiming .store = true ∧ Claimant.store ≠ .evaluator) := by
  decide +kernel

/-- Axis 2 ACQUIRING, with a pass that became pending before its departure, whose span has been discarded. -/
def passPending : State := acquiring.setPass 2 (some 2)
/-- The dwell timer of zone 62.9 has run out, and nothing else is pending. -/
def expired : State := (bench.setDwell 62 (some ⟨9, 1, 10, some 4⟩)).setPass 1 none
theorem good_passPending : Good passPending := good_of_check (by decide +kernel)
theorem good_expired : Good expired := good_of_check (by decide +kernel)

theorem witness_EvaluatorTakesItemsInOrder :
    (Good bench ∧ nextItem bench = some (.pass 1)) ∧ (Good passPending ∧ nextItem passPending = some (.pass 2)) ∧
    (Good stale ∧ nextItem stale = some (.condition 2 .unsure)) ∧ (Good expired ∧ nextItem expired = some (.expiry 62)) ∧
    (Good empty ∧ nextItem empty = none) :=
  ⟨⟨good_bench, by decide +kernel⟩, ⟨good_passPending, by decide +kernel⟩, ⟨good_stale, by decide +kernel⟩,
    ⟨good_expired, by decide +kernel⟩, ⟨good_empty, by decide +kernel⟩⟩

theorem witness_EventsThatAreNotDueChangeNothing :
    (bench.running = none ∧ ∀ tag payload, ¬Due bench .a .create tag payload) ∧ ¬EvaluatorDue bench (.pass 0) ∧
    ¬EvaluatorDue bench (.condition 2 .unsure) ∧ ¬EvaluatorDue bench (.condition 2 .sure) ∧ ¬EvaluatorDue bench (.expiry 62) ∧
    (∀ d, bench.dwell 0 = some d → d.expired ≠ none) ∧ (bench.tracker 3).timer = none ∧ nextClass bench ≠ some .store ∧
    bench.array ≠ .program ∧ (∀ r judged, bench.array ≠ .sweepRead r judged) ∧ bench.device = .running ∧
    (206 ≤ loaded.load.nextRow ∧ State.reset.load.nextRow ≠ 206) ∧ (bench.port .a).transaction = none ∧
    (((fetching (some ⟨9, none⟩)).port .b).transaction.bind Transaction.fetch = some ⟨9, none⟩ ∧
      occupying (.unknownCommand .b 0x50 1 []) = some (.b, []) ∧ (8 : Byte) ≠ 9) := by
  have hd : bench.dwell 0 = none := by decide +kernel
  have hn : nextItem bench = some (.pass 1) := by decide +kernel
  refine ⟨⟨rfl, fun _ _ h => ?_⟩, ?_, ?_, ?_, ?_, ?_, by decide +kernel, by decide +kernel, nofun, nofun, rfl,
    by decide +kernel, by decide +kernel⟩
  · have e : (bench.port .a).slot = .empty := rfl
    have := h.slot
    rw [e] at this
    cases this
  · exact fun h => absurd (hn.symm.trans h.item) (by decide)
  · exact fun h => absurd (hn.symm.trans h.item) (by decide)
  · exact fun h => absurd (hn.symm.trans h.item) (by decide)
  · exact fun h => absurd (hn.symm.trans h.item) (by decide)
  · intro d h
    rw [hd] at h
    cases h

theorem witness_RefusedCommandsChangeNothing :
    Due (asked .retire [60, 1]) .a .retire 7 [60, 1] ∧
      ((asked .retire [60, 1]).engine = .idle → (asked .retire [60, 1]).queue = []) := ⟨asked_due _ _, fun _ => rfl⟩

theorem witness_ChecksAreMadeInOrder :
    (Due (asked .retire []) .a .retire 7 [] ∧ argsOk .retire [] = false) ∧
    (Due (ask (bench.setFreeze .layout) .a .retire [60, 1]) .a .retire 7 [60, 1] ∧ argsOk .retire [60, 1] = true ∧
      refusedAt .layout .retire = true) ∧
    (Due (ask (bench.setFreeze .fixed) .a .arm [60, 1]) .a .arm 7 [60, 1] ∧ argsOk .arm [60, 1] = true ∧
      refusedAt .fixed .arm = true) ∧
    (Due (asked .retire [7, 255]) .a .retire 7 [7, 255] ∧ guardedHandle .retire [7, 255] = some ⟨7, 255⟩ ∧
      refusedAt .opened .retire = false ∧ (asked .retire [7, 255]).slot 7 = .vacant 255) ∧
    (Due (asked .readZone [44, 3]) .a .readZone 7 [44, 3] ∧ parseHandle [44, 3] = some ⟨44, 3⟩ ∧
      (asked .readZone [44, 3]).slot 44 = .live zone44 ∧ zone44.incarnation ≠ 3) ∧
    (Due (asked .clear [4, 1]) .a .clear 7 [4, 1] ∧ guardedHandle .clear [4, 1] = some ⟨4, 1⟩ ∧
      (asked .clear [4, 1]).slot 4 = .quarantined) ∧
    (Due (asked .transfer [60, 1, 0]) .a .transfer 7 [60, 1, 0] ∧ guardedHandle .transfer [60, 1, 0] = some ⟨60, 1⟩ ∧
      (asked .transfer [60, 1, 0]).slot 60 = .live zone60 ∧ zone60.incarnation = 1 ∧ zone60.owner = ownerOf Port.a.other) :=
  ⟨⟨asked_due _ _, by decide +kernel⟩, ⟨(ready _ _ _).2, by decide +kernel⟩, ⟨(ready _ _ _).2, by decide +kernel⟩,
    ⟨asked_due _ _, by decide +kernel⟩, ⟨asked_due _ _, by decide +kernel⟩, ⟨asked_due _ _, by decide +kernel⟩,
    ⟨asked_due _ _, by decide +kernel⟩⟩

/-- A CREATE of a PERSISTENT, FOLLOW zone: the slot, the choice, axis and exclusive bits, and bounds in turn 5. -/
def createBytes (slot choice axisBits : Byte) (lower upper : Byte) : List Byte :=
  [slot, choice, axisBits, 0x00, 0x0F, 0x00, 0, 0, 0, 5, 0, lower, 0, 5, 0, upper, 0]
/-- What its arguments are. -/
def createArgs (slot : Option SlotNo) (choice : OwnerChoice) (n : Axis) (lower upper : Angle) : CreateArgs :=
  { slot := slot, choice := choice, axis := n, bounds := .absolute ⟨5, lower⟩ ⟨5, upper⟩, hysteresis := 0, dwell := 0
    line := none, priority := 0, action := .follow, policy := .hold, exclusive := false, persistent := true, label := [] }

theorem witness_CreateMakesAZone :
    (let b := createBytes 7 0 0x30 0 10
     Good (asked .create b) ∧ Due (asked .create b) .a .create 7 b ∧
      parseCreate b = some (createArgs (some 7) .self 3 0 10) ∧ (asked .create b).freezeLevel = .opened ∧
      boundsOk (.absolute ⟨5, 0⟩ ⟨5, 10⟩) 0 = true ∧ NoCollision (asked .create b) 3 (.absolute ⟨5, 0⟩ ⟨5, 10⟩) false none ∧
      (asked .create b).slot 7 = .vacant 255) ∧
    (let b := createBytes 0xFF 2 0x30 0 10
     Good (asked .create b) ∧ Due (asked .create b) .a .create 7 b ∧
      parseCreate b = some (createArgs none .shared 3 0 10) ∧ (asked .create b).freezeLevel = .opened ∧
      NoCollision (asked .create b) 3 (.absolute ⟨5, 0⟩ ⟨5, 10⟩) false none ∧
      (asked .create b).slot 0 = .vacant 0 ∧ ∀ j : SlotNo, j < 0 → ∀ r, (asked .create b).slot j ≠ .vacant r) :=
  ⟨⟨asked_good _ _, asked_due _ _, by decide +kernel, rfl, by decide +kernel, noCollision_of (by decide +kernel),
      by decide +kernel⟩,
    ⟨asked_good _ _, asked_due _ _, by decide +kernel, rfl, noCollision_of (by decide +kernel), by decide +kernel,
      fun j h => absurd h (by simp)⟩⟩

/-- A table without a VACANT slot. -/
def full : State := ask { empty with slots := Vector.replicate 96 .quarantined } .a .create (createBytes 0xFF 0 0x30 0 10)
theorem good_full : Good full :=
  good_ask (s := { empty with slots := Vector.replicate 96 .quarantined }) (good_of_check (by decide +kernel)) rfl rfl

theorem witness_CreateIsRefused :
    (let b := createBytes 4 0 0x30 0 10
     Good (asked .create b) ∧ Due (asked .create b) .a .create 7 b ∧
      parseCreate b = some (createArgs (some 4) .self 3 0 10) ∧ (asked .create b).freezeLevel = .opened ∧
      (asked .create b).slot 4 = .quarantined) ∧
    (let b := createBytes 7 0 0x30 11 10
     Good (asked .create b) ∧ Due (asked .create b) .a .create 7 b ∧
      parseCreate b = some (createArgs (some 7) .self 3 11 10) ∧ (asked .create b).slot 7 ≠ .quarantined ∧
      boundsOk (.absolute ⟨5, 11⟩ ⟨5, 10⟩) 0 = false) ∧
    (let b := createBytes 7 0 0x00 100 110
     Good (asked .create b) ∧ Due (asked .create b) .a .create 7 b ∧
      parseCreate b = some (createArgs (some 7) .self 0 100 110) ∧ boundsOk (.absolute ⟨5, 100⟩ ⟨5, 110⟩) 0 = true ∧
      FirstCollision (asked .create b) 0 (.absolute ⟨5, 100⟩ ⟨5, 110⟩) false none ⟨60, 1⟩) ∧
    (let b := createBytes 44 0 0x30 0 10
     Good (asked .create b) ∧ Due (asked .create b) .a .create 7 b ∧
      parseCreate b = some (createArgs (some 44) .self 3 0 10) ∧
      NoCollision (asked .create b) 3 (.absolute ⟨5, 0⟩ ⟨5, 10⟩) false none ∧ (asked .create b).slot 44 = .live zone44) ∧
    (let b := createBytes 0xFF 0 0x30 0 10
     Good full ∧ Due full .a .create 7 b ∧ parseCreate b = some (createArgs none .self 3 0 10) ∧
      full.freezeLevel = .opened ∧ NoCollision full 3 (.absolute ⟨5, 0⟩ ⟨5, 10⟩) false none ∧
      ∀ i r, full.slot i ≠ .vacant r) := by
  refine ⟨⟨asked_good _ _, asked_due _ _, by decide +kernel, rfl, by decide +kernel⟩,
    ⟨asked_good _ _, asked_due _ _, by decide +kernel, by decide +kernel, by decide +kernel⟩,
    ⟨asked_good _ _, asked_due _ _, by decide +kernel, by decide +kernel, ?_⟩,
    ⟨asked_good _ _, asked_due _ _, by decide +kernel, noCollision_of (by decide +kernel), by decide +kernel⟩,
    ⟨good_full, ⟨rfl, rfl, rfl⟩, by decide +kernel, rfl, noCollision_of (by decide +kernel), ?_⟩⟩
  · refine ⟨[44], [61], zone60, rfl, nofun, by decide +kernel, rfl, ⟨by decide +kernel, .inr rfl⟩, ?_⟩
    intro j hj _ x hx hc
    rw [List.mem_singleton] at hj
    subst hj
    have e : (asked .create (createBytes 7 0 0x00 100 110)).zone 44 = some zone44 := by decide +kernel
    rw [e, Option.some.injEq] at hx
    subst hx
    exact absurd hc.1 (by decide +kernel)
  · intro i r
    have : (allSlots.all fun j => decide (full.slot j = .quarantined)) = true := by decide +kernel
    rw [of_decide_eq_true (List.all_eq_true.mp this i (List.mem_finRange i))]
    nofun

/-- An AMEND that names nothing yet. -/
def amends (h : Handle) : AmendArgs :=
  { handle := h, kind := .absolute, axis := none, lower := none, upper := none, start := none, stop := none, hysteresis := none
    dwell := none, line := none, priority := none, action := none, policy := none, exclusive := none, label := none }
/-- The bytes of an AMEND: the handle, the presence set, byte 0, the dwell and two bounds with angles of one byte. -/
def amendBytes (slot incarnation p1 p0 b0 dwell turn lower upper : Byte) : List Byte :=
  [slot, incarnation, p1, p0, b0, 0, 0, dwell, 0, 0, 0, turn, 0, lower, 0, turn, 0, upper, 0]

theorem witness_AmendChangesTheZone :
    (let b := amendBytes 50 3 0x00 0x10 0 5 0 0 0
     Good (asked .amend b) ∧ Due (asked .amend b) .a .amend 7 b ∧ parseAmend b = some { amends ⟨50, 3⟩ with dwell := some 5 } ∧
      (asked .amend b).freezeLevel = .opened ∧ (asked .amend b).zone 50 = some zone50 ∧ zone50.incarnation = 3 ∧
      zone50.owner ≠ ownerOf Port.a.other ∧ zone50.occupancy ≠ .tripped ∧
      AmendArgs.apply { amends ⟨50, 3⟩ with dwell := some 5 } zone50 = some { zone50 with dwell := 5 } ∧
      boundsOk zone50.bounds 0 = true ∧ NoCollision (asked .amend b) 1 zone50.bounds false (some 50) ∧
      { zone50 with dwell := 5 } ≠ zone50) ∧
    (let b := amendBytes 61 255 0x00 0x07 0x10 0 7 0 9
     Good (asked .amend b) ∧ Due (asked .amend b) .a .amend 7 b ∧
      (parseAmend b).bind (fun x => x.apply zone61) = some { zone61 with axis := 1, bounds := .absolute ⟨7, 0⟩ ⟨7, 9⟩ } ∧
      (asked .amend b).zone 61 = some zone61 ∧ NoCollision (asked .amend b) 1 (.absolute ⟨7, 0⟩ ⟨7, 9⟩) false (some 61)) ∧
    (let b := amendBytes 44 2 0x00 0x40 0 0 0 0 0
     Good (asked .amend b) ∧ Due (asked .amend b) .a .amend 7 b ∧
      parseAmend b = some { amends ⟨44, 2⟩ with priority := some 0 } ∧ zone44.occupancy = .tripped ∧
      AmendArgs.namesGeometryOrAction { amends ⟨44, 2⟩ with priority := some 0 } = false) :=
  ⟨⟨asked_good _ _, asked_due _ _, by decide +kernel, rfl, by decide +kernel, rfl, by decide, by decide, by decide +kernel,
      by decide +kernel, noCollision_of (by decide +kernel), by decide +kernel⟩,
    ⟨asked_good _ _, asked_due _ _, by decide +kernel, by decide +kernel, noCollision_of (by decide +kernel)⟩,
    ⟨asked_good _ _, asked_due _ _, by decide +kernel, rfl, by decide +kernel⟩⟩

theorem witness_AmendIsRefused :
    (let b := amendBytes 44 2 0x00 0x10 0 5 0 0 0
     Good (asked .amend b) ∧ Due (asked .amend b) .a .amend 7 b ∧ parseAmend b = some { amends ⟨44, 2⟩ with dwell := some 5 } ∧
      (asked .amend b).zone 44 = some zone44 ∧ zone44.occupancy = .tripped ∧
      AmendArgs.namesGeometryOrAction { amends ⟨44, 2⟩ with dwell := some 5 } = true) ∧
    (let b := amendBytes 61 255 0x00 0x02 0x80 0 7 0 0
     Good (asked .amend b) ∧ Due (asked .amend b) .a .amend 7 b ∧
      parseAmend b = some { amends ⟨61, 255⟩ with kind := .periodic, start := some 7 } ∧
      (asked .amend b).zone 61 = some zone61 ∧
      AmendArgs.apply { amends ⟨61, 255⟩ with kind := .periodic, start := some 7 } zone61 = none) ∧
    (let b := amendBytes 61 255 0x00 0x02 0 0 6 101 0
     Good (asked .amend b) ∧ Due (asked .amend b) .a .amend 7 b ∧
      parseAmend b = some { amends ⟨61, 255⟩ with lower := some ⟨6, 101⟩ } ∧
      (AmendArgs.apply { amends ⟨61, 255⟩ with lower := some ⟨6, 101⟩ } zone61).map (fun y => boundsOk y.bounds y.hysteresis) =
        some false) ∧
    (let b := amendBytes 61 255 0x00 0x06 0 0 5 100 200
     let x := { amends ⟨61, 255⟩ with lower := some ⟨5, 100⟩, upper := some ⟨5, 200⟩ }
     Good (asked .amend b) ∧ Due (asked .amend b) .a .amend 7 b ∧ parseAmend b = some x ∧
      AmendArgs.apply x zone61 = some { zone61 with bounds := .absolute ⟨5, 100⟩ ⟨5, 200⟩ } ∧
      FirstCollision (asked .amend b) 0 (.absolute ⟨5, 100⟩ ⟨5, 200⟩) false (some 61) ⟨60, 1⟩) := by
  refine ⟨⟨asked_good _ _, asked_due _ _, by decide +kernel, by decide +kernel, rfl, by decide +kernel⟩,
    ⟨asked_good _ _, asked_due _ _, by decide +kernel, by decide +kernel, by decide +kernel⟩,
    ⟨asked_good _ _, asked_due _ _, by decide +kernel, by decide +kernel⟩,
    ⟨asked_good _ _, asked_due _ _, by decide +kernel, by decide +kernel, ?_⟩⟩
  refine ⟨[44], [61], zone60, rfl, by decide, by decide +kernel, rfl, ⟨by decide +kernel, .inr rfl⟩, ?_⟩
  intro j hj _ x hx hc
  rw [List.mem_singleton] at hj
  subst hj
  have e : (asked .amend (amendBytes 61 255 0x00 0x06 0 0 5 100 200)).zone 44 = some zone44 := by decide +kernel
  rw [e, Option.some.injEq] at hx
  subst hx
  exact absurd hc.1 (by decide +kernel)

theorem witness_CommandsWithoutAChange :
    (let b := amendBytes 50 3 0x00 0x10 0 0 0 0 0
     Good (asked .amend b) ∧ Due (asked .amend b) .a .amend 7 b ∧ parseAmend b = some { amends ⟨50, 3⟩ with dwell := some 0 } ∧
      AmendArgs.apply { amends ⟨50, 3⟩ with dwell := some 0 } zone50 = some zone50 ∧
      (asked .amend b).zone 50 = some zone50) ∧
    (Good (asked .arm [50, 3]) ∧ Due (asked .arm [50, 3]) .a .arm 7 [50, 3] ∧ parseHandle [50, 3] = some ⟨50, 3⟩ ∧
      (asked .arm [50, 3]).zone 50 = some zone50 ∧ zone50.incarnation = 3 ∧ zone50.owner ≠ ownerOf Port.a.other ∧
      zone50.armed = true) ∧
    (Good (asked .disarm [61, 255]) ∧ Due (asked .disarm [61, 255]) .a .disarm 7 [61, 255] ∧
      (asked .disarm [61, 255]).zone 61 = some zone61 ∧ zone61.incarnation = 255 ∧ zone61.owner ≠ ownerOf Port.a.other ∧
      zone61.armed = false) ∧
    (Good (asked .clear [50, 3]) ∧ Due (asked .clear [50, 3]) .a .clear 7 [50, 3] ∧ zone50.occupancy ≠ .tripped) ∧
    (Good (asked .transfer [50, 3, 0]) ∧ Due (asked .transfer [50, 3, 0]) .a .transfer 7 [50, 3, 0] ∧
      parseTransfer [50, 3, 0] = some (⟨50, 3⟩, .self) ∧ OwnerChoice.self.owner .a = zone50.owner) :=
  ⟨⟨asked_good _ _, asked_due _ _, by decide +kernel, by decide +kernel, by decide +kernel⟩,
    ⟨asked_good _ _, asked_due _ _, by decide +kernel⟩, ⟨asked_good _ _, asked_due _ _, by decide +kernel⟩,
    ⟨asked_good _ _, asked_due _ _, by decide +kernel⟩, ⟨asked_good _ _, asked_due _ _, by decide +kernel⟩⟩

theorem witness_RetireAndReclaimFreeTheSlot :
    (Good (asked .retire [40, 2]) ∧ Due (asked .retire [40, 2]) .a .retire 7 [40, 2] ∧ parseHandle [40, 2] = some ⟨40, 2⟩ ∧
      (asked .retire [40, 2]).freezeLevel = .opened ∧ (asked .retire [40, 2]).zone 40 = some zone40 ∧
      zone40.incarnation = 2 ∧ zone40.owner ≠ ownerOf Port.a.other ∧ zone40.occupancy ≠ .tripped) ∧
    (Good (asked .retire [44, 2]) ∧ Due (asked .retire [44, 2]) .a .retire 7 [44, 2] ∧
      (asked .retire [44, 2]).zone 44 = some zone44 ∧ zone44.incarnation = 2 ∧ zone44.owner ≠ ownerOf Port.a.other ∧
      zone44.occupancy = .tripped) ∧
    (Due (asked .reclaim [BitVec.ofNat 8 (4 : SlotNo).val]) .a .reclaim 7 [BitVec.ofNat 8 (4 : SlotNo).val] ∧
      (asked .reclaim [4]).slot 4 = .quarantined) ∧
    (Due (asked .reclaim [BitVec.ofNat 8 (95 : SlotNo).val]) .a .reclaim 7 [BitVec.ofNat 8 (95 : SlotNo).val] ∧
      (asked .reclaim [95]).slot 95 ≠ .quarantined) :=
  ⟨⟨asked_good _ _, asked_due _ _, by decide +kernel⟩, ⟨asked_good _ _, asked_due _ _, by decide +kernel⟩,
    ⟨asked_due _ _, by decide +kernel⟩, ⟨asked_due _ _, by decide +kernel⟩⟩

theorem witness_ArmAndClearRestartTheJudgement :
    (Good (asked .arm [61, 255]) ∧ Due (asked .arm [61, 255]) .a .arm 7 [61, 255] ∧
      parseHandle [61, 255] = some ⟨61, 255⟩ ∧ (asked .arm [61, 255]).freezeLevel ≠ .fixed ∧
      (asked .arm [61, 255]).zone 61 = some zone61 ∧ zone61.incarnation = 255 ∧ zone61.owner ≠ ownerOf Port.a.other ∧
      zone61.armed = false) ∧
    (Good (asked .clear [44, 2]) ∧ Due (asked .clear [44, 2]) .a .clear 7 [44, 2] ∧ parseHandle [44, 2] = some ⟨44, 2⟩ ∧
      (asked .clear [44, 2]).zone 44 = some zone44 ∧ zone44.incarnation = 2 ∧ zone44.owner ≠ ownerOf Port.a.other ∧
      zone44.occupancy = .tripped) :=
  ⟨⟨asked_good _ _, asked_due _ _, by decide +kernel⟩, ⟨asked_good _ _, asked_due _ _, by decide +kernel⟩⟩

theorem witness_DisarmEndsTheJudgement :
    (Good (asked .disarm [40, 2]) ∧ Due (asked .disarm [40, 2]) .a .disarm 7 [40, 2] ∧
      parseHandle [40, 2] = some ⟨40, 2⟩ ∧ (asked .disarm [40, 2]).freezeLevel ≠ .fixed ∧
      (asked .disarm [40, 2]).zone 40 = some zone40 ∧ zone40.incarnation = 2 ∧ zone40.owner ≠ ownerOf Port.a.other ∧
      zone40.armed = true ∧ zone40.occupancy ≠ .tripped) ∧
    (Good (asked .disarm [44, 2]) ∧ Due (asked .disarm [44, 2]) .a .disarm 7 [44, 2] ∧
      (asked .disarm [44, 2]).zone 44 = some zone44 ∧ zone44.armed = true ∧ zone44.occupancy = .tripped) :=
  ⟨⟨asked_good _ _, asked_due _ _, by decide +kernel⟩, ⟨asked_good _ _, asked_due _ _, by decide +kernel⟩⟩

theorem witness_TransfersChangeTheOwner :
    (Good (asked .transfer [50, 3, 1]) ∧ Due (asked .transfer [50, 3, 1]) .a .transfer 7 [50, 3, 1] ∧
      parseTransfer [50, 3, 1] = some (⟨50, 3⟩, .other) ∧ (asked .transfer [50, 3, 1]).freezeLevel = .opened ∧
      (asked .transfer [50, 3, 1]).zone 50 = some zone50 ∧ zone50.incarnation = 3 ∧ zone50.owner ≠ ownerOf Port.a.other) ∧
    (Due (asked .releaseAll []) .a .releaseAll 7 [] ∧ (asked .releaseAll []).freezeLevel = .opened) :=
  ⟨⟨asked_good _ _, asked_due _ _, by decide +kernel⟩, ⟨asked_due _ _, by decide +kernel⟩⟩

theorem witness_ReadsReturnTheRecords :
    (Good (asked .readZone [51, 1]) ∧ Due (asked .readZone [51, 1]) .a .readZone 7 [51, 1] ∧
      parseHandle [51, 1] = some ⟨51, 1⟩ ∧ (asked .readZone [51, 1]).zone 51 = some zone51 ∧ zone51.incarnation = 1) ∧
    (Good (asked .readConfig [BitVec.ofNat 8 (96 : ItemNo).val]) ∧ 96 ≤ (96 : ItemNo).val ∧
      Due (asked .readConfig [BitVec.ofNat 8 (96 : ItemNo).val]) .a .readConfig 7 [BitVec.ofNat 8 (96 : ItemNo).val]) ∧
    (Good (asked .readConfig [BitVec.ofNat 8 (102 : ItemNo).val]) ∧ 96 ≤ (102 : ItemNo).val ∧
      Due (asked .readConfig [BitVec.ofNat 8 (102 : ItemNo).val]) .a .readConfig 7 [BitVec.ofNat 8 (102 : ItemNo).val]) :=
  ⟨⟨asked_good _ _, asked_due _ _, by decide +kernel⟩, ⟨asked_good _ _, by decide, asked_due _ _⟩,
    ⟨asked_good _ _, by decide, asked_due _ _⟩⟩

theorem witness_FindAndListReturnHandles :
    (let b : List Byte := [1, 0, 0, 0x80, 0xE8]
     Good (asked .find b) ∧ Due (asked .find b) .a .find 7 b ∧ parseFind b = some (1, ⟨0, 33000⟩)) ∧
    (let b : List Byte := [0, 0, 0xFF, 0xFF]
     Good (asked .list b) ∧ Due (asked .list b) .a .list 7 b ∧ parseList b = some (0, .absolute, .start)) ∧
    (let b : List Byte := [0, 0, 60, 1]
     Good (asked .list b) ∧ Due (asked .list b) .a .list 7 b ∧ parseList b = some (0, .absolute, .handle ⟨60, 1⟩) ∧
      (asked .list b).zoneList 0 .absolute = [44] ++ 60 :: [61] ∧ handleIn (asked .list b) 60 = ⟨60, 1⟩) ∧
    (let b : List Byte := [0, 0, 50, 3]
     Good (asked .list b) ∧ Due (asked .list b) .a .list 7 b ∧ parseList b = some (0, .absolute, .handle ⟨50, 3⟩) ∧
      50 ∉ (asked .list b).zoneList 0 .absolute) ∧
    (let b : List Byte := [0, 0, 60, 2]
     Good (asked .list b) ∧ Due (asked .list b) .a .list 7 b ∧ parseList b = some (0, .absolute, .handle ⟨60, 2⟩) ∧
      handleIn (asked .list b) 60 ≠ ⟨60, 2⟩) :=
  ⟨⟨asked_good _ _, asked_due _ _, by decide +kernel⟩, ⟨asked_good _ _, asked_due _ _, by decide +kernel⟩,
    ⟨asked_good _ _, asked_due _ _, by decide +kernel⟩, ⟨asked_good _ _, asked_due _ _, by decide +kernel⟩,
    ⟨asked_good _ _, asked_due _ _, by decide +kernel⟩⟩

/-- A SET_AXIS that names nothing yet. -/
def noAxisChange : AxisChange := ⟨none, none, none, none, none, none, none, none⟩

theorem witness_SetAxisConfiguresTheAxis :
    (let b : List Byte := [2, 0x04, 0, 0x12, 0x34, 0, 0, 0, 0, 0, 0]
     Good (asked .setAxis b) ∧ Due (asked .setAxis b) .a .setAxis 7 b ∧ (asked .setAxis b).freezeLevel = .opened ∧
      parseSetAxis b = some (2, { noAxisChange with offset := some 0x1234 })) ∧
    (let b : List Byte := [3, 0x28, 0, 0, 0, 0x7F, 0xFF, 0, 0, 0, 0]
     Good (asked .setAxis b) ∧ Due (asked .setAxis b) .a .setAxis 7 b ∧
      parseSetAxis b = some (3, { noAxisChange with maxStep := some 32767, staleness := some 0 })) :=
  ⟨⟨asked_good _ _, asked_due _ _, by decide +kernel⟩, ⟨asked_good _ _, asked_due _ _, by decide +kernel⟩⟩

theorem witness_LinesPortsAndFreezeAreConfigured :
    (Due (asked .setLines [0x20, 0, 0, 0]) .a .setLines 7 [0x20, 0, 0, 0] ∧ ((0x20 : Byte) ≠ 0 ∨ (0 : Byte) ≠ 0) ∧
      (asked .setLines [0x20, 0, 0, 0]).freezeLevel = .opened) ∧
    (Due (asked .setPorts [0x09, 0, 0, 2, 0, 0, 0]) .a .setPorts 7 [0x09, 0, 0, 2, 0, 0, 0] ∧
      parseSetPorts [0x09, 0, 0, 2, 0, 0, 0] = some ⟨⟨some .all, none, none⟩, ⟨some .none, none, none⟩⟩) ∧
    (Due (asked .freeze [0]) .a .freeze 7 [0] ∧ parseFreeze [0] = some .opened ∧
      (asked .freeze [0]).freezeLevel.rank ≤ FreezeLevel.opened.rank) ∧
    (Due (ask (bench.setFreeze .fixed) .a .freeze [1]) .a .freeze 7 [1] ∧ parseFreeze [1] = some .layout ∧
      FreezeLevel.layout.rank < (ask (bench.setFreeze .fixed) .a .freeze [1]).freezeLevel.rank) :=
  ⟨⟨asked_due _ _, by decide +kernel⟩, ⟨asked_due _ _, by decide +kernel⟩, ⟨asked_due _ _, by decide +kernel⟩,
    ⟨(ready _ _ _).2, by decide +kernel⟩⟩

theorem witness_TakeChangesAndReadFaultsEmptyTheirSets : PortFree bench .a := free_bench

theorem witness_StatusCommandsAnswer : PortFree bench .a ∧ PortFree State.reset .b :=
  ⟨free_bench, by decide +kernel, rfl, rfl⟩

theorem witness_PortLocalCommandsAreRefused :
    (PortFree State.reset .a ∧ State.reset.device = .starting) ∧ (PortFree bench .a ∧ ([0] : List Byte) ≠ [] ∧
      ([0] : List Byte).length ≤ 32 ∧ parseAxis [4] = none ∧ bench.device = .running ∧ parseSweepStart [206, 0, 0] = none ∧
      parseResync [0, 2, 0, 0] = none ∧ parseResync [3, 1, 0x07, 0xFF] = some (3, some 2047) ∧
      (bench.tracker 3).state = .disabled) ∧
    (PortFree sweeping .a ∧ sweeping.device = .running ∧ parseSweepStart [205, 1, 0] ≠ none ∧
      sweeping.sweep.state = .running) :=
  ⟨⟨⟨by decide +kernel, rfl, rfl⟩, rfl⟩, ⟨free_bench, by decide +kernel⟩,
    ⟨⟨by decide +kernel, rfl, rfl⟩, by decide +kernel⟩⟩

theorem witness_SweepStartsAndStops :
    (Good bench ∧ PortFree bench .a ∧ bench.device = .running ∧ parseSweepStart [205, 0, 1] = some (205, false, true) ∧
      bench.sweep.state ≠ .running) ∧
    (Good programming ∧ PortFree programming .a ∧ programming.sweep.state ≠ .running ∧ programming.array ≠ .free) ∧
    (Good sweeping ∧ PortFree sweeping .a ∧ sweeping.sweep.state = .running) :=
  ⟨⟨good_bench, free_bench, by decide +kernel⟩, ⟨good_programming, ⟨by decide +kernel, rfl, rfl⟩, by decide +kernel⟩,
    ⟨good_sweeping, ⟨by decide +kernel, rfl, rfl⟩, rfl⟩⟩

theorem witness_SyncMarksTheQueue :
    (PortFree bench .a ∧ bench.device = .running ∧ bench.queue = [] ∧ bench.engine = .idle) ∧
    (PortFree claiming .a ∧ claiming.device = .running ∧ claiming.queue ≠ []) :=
  ⟨⟨free_bench, rfl, rfl, rfl⟩, ⟨⟨by decide +kernel, rfl, rfl⟩, rfl, nofun⟩⟩

theorem witness_ResyncRestartsTheTracker :
    Good bench ∧ PortFree bench .a ∧ bench.device = .running ∧ parseResync [2, 1, 0xF8, 0x00] = some (2, some (-2048)) ∧
      parseResync [2, 0, 0x80, 0x00] = some (2, none) ∧ (bench.tracker 2).state ≠ .disabled :=
  ⟨good_bench, free_bench, by decide +kernel⟩

/-! Sample frames (11.5), their checks computed from R186. -/

/-- Sequence 10, VALID, angle 64100. -/
def frame10 : BitVec 32 := 0xA8FA643C

theorem passes_frame10 : Passes 32 frame10 := ⟨⟨by decide, by decide +kernel⟩, by decide, by decide⟩

theorem judged_of {s : State} {n : Axis}
    (h : s.device = .running ∧ s.held = false ∧ (s.tracker n).state ≠ .disabled) : Judged s n false :=
  ⟨⟨h.1, h.2.1⟩, rfl, h.2.2⟩

theorem witness_FramesThatFailTheTests :
    ¬Judged bench 3 false ∧ ¬Judged bench 2 true ∧ ¬Judged State.reset 2 false ∧
    (Judged bench 2 false ∧ ¬Checked 31 frame10 ∧ ¬Checked 32 0xA8FA643D) ∧
    (Judged bench 2 false ∧ Checked 32 0xA9FA64B3 ∧ ¬Passes 32 0xA9FA64B3) :=
  ⟨fun h => absurd h.enabled (by decide +kernel), fun h => absurd h.whole (by decide),
    fun h => absurd h.service.1 (by decide), ⟨judged_of (by decide +kernel), fun h => absurd h.whole (by decide),
      fun h => absurd h.check (by decide +kernel)⟩,
    ⟨judged_of (by decide +kernel), ⟨by decide, by decide +kernel⟩, fun h => absurd h.alarm (by decide)⟩⟩

theorem witness_FramesAcquireTheAxis :
    (Good acquiring ∧ Judged acquiring 2 false ∧ Passes 32 frame10 ∧ (acquiring.tracker 2).state = .acquiring) ∧
    (Good acquiring ∧ Judged acquiring 3 false ∧ (acquiring.tracker 3).state = .lost) :=
  ⟨⟨good_acquiring, judged_of (by decide +kernel), passes_frame10, by decide +kernel⟩,
    ⟨good_acquiring, judged_of (by decide +kernel), by decide +kernel⟩⟩

/-- The bench with axis 2 TRACKING at a position, so many jumps in a row. -/
def trackingFrom (p : ExtPos) (jumps : BitVec 4) : State :=
  bench.setTracker 2 { trackingAt p 9 ⟨p, p⟩ with jumpRun := jumps }

/-- In TRACKING from sequence 9: the frame of the spec's sequence 10, and what its step and turn are. -/
def tracks (s : State) (p : ExtPos) (word : BitVec 32) : Prop :=
  Good s ∧ Judged s 2 false ∧ Passes 32 word ∧ (s.tracker 2).state = .tracking ∧ (s.tracker 2).sequence = some 9 ∧
    (s.tracker 2).position = some p ∧ (s.tracker 2).live = some ⟨p, p⟩ ∧ framesMissed 9 (sequenceOf word) = 0

theorem witness_FramesTrackTheAxis :
    (tracks (trackingFrom ⟨1, 64000⟩ 0) ⟨1, 64000⟩ frame10 ∧ (stepTo 64000 64100).natAbs ≤ 4096 ∧
      turnAfter 1 64000 64100 = 1) ∧
    (tracks (trackingFrom ⟨2047, 65000⟩ 0) ⟨2047, 65000⟩ 0xA800641C ∧ (stepTo 65000 100).natAbs ≤ 4096 ∧
      2047 < turnAfter 2047 65000 100) ∧
    (tracks (trackingFrom ⟨-2048, 100⟩ 0) ⟨-2048, 100⟩ frame10 ∧ (stepTo 100 64100).natAbs ≤ 4096 ∧
      turnAfter (-2048) 100 64100 < -2048) ∧
    (tracks (trackingFrom ⟨1, 20000⟩ 1) ⟨1, 20000⟩ frame10 ∧ 4096 < (stepTo 20000 64100).natAbs ∧
      (1 : BitVec 4).toNat + 1 < (bench.axisConfig 2).jumpLimit.toNat) ∧
    (tracks (trackingFrom ⟨1, 20000⟩ 2) ⟨1, 20000⟩ frame10 ∧ 4096 < (stepTo 20000 64100).natAbs ∧
      (bench.axisConfig 2).jumpLimit.toNat ≤ (2 : BitVec 4).toNat + 1) := by
  refine ⟨⟨⟨?_, judged_of (by decide +kernel), passes_frame10, by decide +kernel⟩, by decide +kernel⟩,
    ⟨⟨?_, judged_of (by decide +kernel), ⟨⟨by decide, by decide +kernel⟩, by decide, by decide⟩, by decide +kernel⟩,
      by decide +kernel⟩,
    ⟨⟨?_, judged_of (by decide +kernel), passes_frame10, by decide +kernel⟩, by decide +kernel⟩,
    ⟨⟨?_, judged_of (by decide +kernel), passes_frame10, by decide +kernel⟩, by decide +kernel⟩,
    ⟨⟨?_, judged_of (by decide +kernel), passes_frame10, by decide +kernel⟩, by decide +kernel⟩⟩
  all_goals exact good_setTracker good_bench _ _ (by decide +kernel)

/-- Axis 2 STALE at a position, its departure taken. -/
def staleAt (p : ExtPos) : State := settled.setTracker 2 { settled.tracker 2 with position := some p, lastAngle := p.angle }

/-- In STALE from sequence 9. -/
def decides (s : State) (p : ExtPos) (word : BitVec 32) : Prop :=
  Good s ∧ Judged s 2 false ∧ Passes 32 word ∧ (s.tracker 2).state = .stale ∧ (s.tracker 2).sequence = some 9 ∧
    (s.tracker 2).position = some p ∧ framesMissed 9 (sequenceOf word) = 0

theorem witness_FramesRecoverOrLoseTheAxis :
    (decides (staleAt ⟨1, 64000⟩) ⟨1, 64000⟩ frame10 ∧ (stepTo 64000 64100).natAbs ≤ 4096 ∧
      turnAfter 1 64000 64100 = 1) ∧
    (decides (staleAt ⟨-2048, 100⟩) ⟨-2048, 100⟩ frame10 ∧ (stepTo 100 64100).natAbs ≤ 4096 ∧
      turnAfter (-2048) 100 64100 < -2048) ∧
    (decides (staleAt ⟨1, 20000⟩) ⟨1, 20000⟩ frame10 ∧ 4096 < (stepTo 20000 64100).natAbs) := by
  refine ⟨⟨⟨?_, judged_of (by decide +kernel), passes_frame10, by decide +kernel⟩, by decide +kernel⟩,
    ⟨⟨?_, judged_of (by decide +kernel), passes_frame10, by decide +kernel⟩, by decide +kernel⟩,
    ⟨⟨?_, judged_of (by decide +kernel), passes_frame10, by decide +kernel⟩, by decide +kernel⟩⟩
  all_goals exact good_setTracker good_settled _ _ (by decide +kernel)

theorem witness_StalenessMakesTheAxisStale :
    Good bench ∧ bench.device = .running ∧ bench.held = false ∧ (bench.tracker 2).state = .tracking ∧
      (bench.tracker 2).timer ≠ none := ⟨good_bench, by decide +kernel⟩

/-- The evaluator's turn. -/
abbrev evaluating (s : State) : State := s.setPointer .portB

theorem witness_PassJudgesTheZones :
    (Good (evaluating bench) ∧ EvaluatorDue (evaluating bench) (.pass 1) ∧
      passSpan ((evaluating bench).tracker 1) = some ⟨⟨⟨0, 20000⟩, ⟨0, 41500⟩⟩, ⟨0, 33500⟩⟩) ∧
    (Good (evaluating passPending) ∧ EvaluatorDue (evaluating passPending) (.pass 2) ∧
      passSpan ((evaluating passPending).tracker 2) = none) :=
  ⟨⟨good_setPointer good_bench _, evaluatorDue_of (by decide +kernel), by decide +kernel⟩,
    ⟨good_setPointer good_passPending _, evaluatorDue_of (by decide +kernel), by decide +kernel⟩⟩

theorem witness_DwellCompletesTheEntry :
    (bench.device = .running ∧ bench.held = false ∧ bench.dwell 62 = some ⟨9, 1, 10, none⟩) ∧
    (Good (evaluating expired) ∧ EvaluatorDue (evaluating expired) (.expiry 62)) :=
  ⟨by decide +kernel, good_setPointer good_expired _, evaluatorDue_of (by decide +kernel)⟩

/-- Axis 2 has its position again, and the axis-sure condition is pending. -/
def recovered : State := (settled.setTracker 2 (bench.tracker 2)).setConditions 2 [⟨.sure, 4⟩]
theorem good_recovered : Good recovered := good_of_check (by decide +kernel)

theorem witness_AxisConditionsSettleTheZones :
    (Good (evaluating stale) ∧ EvaluatorDue (evaluating stale) (.condition 2 .unsure)) ∧
    (Good (evaluating recovered) ∧ EvaluatorDue (evaluating recovered) (.condition 2 .sure)) :=
  ⟨⟨good_setPointer good_stale _, evaluatorDue_of (by decide +kernel)⟩,
    ⟨good_setPointer good_recovered _, evaluatorDue_of (by decide +kernel)⟩⟩

/-- The claim of the engine for the QUARANTINED slot 4. -/
def cancelled : State := claiming.setEngine (.claiming 4 ⟨false, true⟩)
theorem good_cancelled : Good cancelled := good_of_check (by decide +kernel)

theorem witness_StoreGrantBeginsTheCommit :
    (Good (claiming.setPointer .evaluator) ∧ nextClass (claiming.setPointer .evaluator) = some .store ∧
      contentAt (claiming.setPointer .evaluator) 50 = some (.live zone50) ∧
      Targets ((claiming.setPointer .evaluator).item 50) 1 ∧ (claiming.setPointer .evaluator).array = .free) ∧
    (Good (cancelled.setPointer .evaluator) ∧ nextClass (cancelled.setPointer .evaluator) = some .store ∧
      (cancelled.setPointer .evaluator).engine = .claiming 4 ⟨false, true⟩ ∧
      contentAt (cancelled.setPointer .evaluator) 4 = none) ∧
    (Good exhausted ∧ nextClass exhausted = some .store ∧ contentAt exhausted 50 ≠ none ∧
      (exhausted.item 50).copies[0] = .worn ∧ (exhausted.item 50).copies[1] = .worn) :=
  ⟨⟨good_setPointer good_claiming _, by decide +kernel, by decide +kernel,
      .older1 (by decide +kernel) (by decide +kernel) (by decide +kernel), rfl⟩,
    ⟨good_setPointer good_cancelled _, by decide +kernel⟩,
    ⟨good_of_check (by decide +kernel), by decide +kernel⟩⟩

theorem witness_VerifyEndsTheProgram :
    (Good programming ∧ programming.array = .program ∧ programOf programming.engine = some program50 ∧
      VerifyRead.reads (.clean program50.image) = .reads (.clean program50.image)) ∧
    (Good retrying ∧ retrying.array = .program ∧ programOf retrying.engine = some program50 ∧
      VerifyRead.reads .blank ≠ .asWritten ∧ VerifyRead.reads .blank ≠ .reads (.clean program50.image) ∧
      retrying.engine = .retrying program50 ∧ (retrying.item 50).copies[1 - program50.target] ≠ .worn) ∧
    (Good lastAttempt ∧ lastAttempt.engine = .retrying program50 ∧
      (lastAttempt.item 50).copies[1 - program50.target] = .worn) ∧
    (Good repairing ∧ repairing.array = .program ∧ programOf repairing.engine = some program50 ∧
      repairing.worn (programRow program50) = true) :=
  ⟨⟨good_programming, by decide +kernel⟩, ⟨good_retrying, by decide +kernel⟩,
    ⟨good_of_check (by decide +kernel), by decide +kernel⟩, ⟨good_of_check (by decide +kernel), by decide +kernel⟩⟩

/-- The sweep was stopped while its read was in the array. -/
def stopped : State := (sweeping.setSweep { sweeping.sweep with state := .stopped }).setArray (.sweepRead 101 false)
theorem good_stopped : Good stopped := good_of_check (by decide +kernel)

theorem witness_SweepReadJudgesTheRow :
    (Good sweeping ∧ sweeping.array = .sweepRead 101 true) ∧ (Good stopped ∧ stopped.array = .sweepRead 101 false) :=
  ⟨⟨good_sweeping, rfl⟩, ⟨good_stopped, rfl⟩⟩

theorem witness_ZoneTestsJudgeByCounts :
    boundsOk (.absolute ⟨-2048, 0⟩ ⟨2047, 65535⟩) 4095 = true ∧ boundsOk (.periodic 60000 500) 4095 = true ∧
    (Bounds.periodic 60000 500).contains ⟨7, 0⟩ = true ∧
    (let x : Span := ⟨⟨-1, 60000⟩, ⟨0, 4000⟩⟩
     x.lowest.counts ≤ x.highest.counts ∧ x.lowest.counts ≤ (⟨0, 0⟩ : ExtPos).counts ∧
      (⟨0, 0⟩ : ExtPos).counts ≤ x.highest.counts) := by decide +kernel

theorem witness_LinesReportTheirDrivingSet : LinesOk bench ∧ bench.device = .running := ⟨good_bench.lines, rfl⟩

/-- A step of the bench: port A's CLEAR of the TRIPPED zone 44.2 is granted. -/
def clearing : State := (asked .clear [44, 2]).setPending [.clear .a]

theorem witness_StepsKeepTheZones : Good clearing ∧ ∃ t, step clearing = .next t :=
  ⟨good_setPending (asked_good _ _) _, _, rfl⟩
theorem witness_StepsKeepTheTableAndTheLines : Good clearing ∧ ∃ t, step clearing = .next t := witness_StepsKeepTheZones
theorem witness_StepsKeepTheAxesAndTheDevice : Good clearing ∧ ∃ t, step clearing = .next t := witness_StepsKeepTheZones
theorem witness_StepsKeepTheStore : Good clearing ∧ ∃ t, step clearing = .next t := witness_StepsKeepTheZones

theorem witness_TripsStayUntilCleared :
    Good clearing ∧ clearing.device = .running ∧ (∃ t, step clearing = .next t) ∧ clearing.zone 44 = some zone44 ∧
      zone44.occupancy = .tripped :=
  ⟨witness_StepsKeepTheZones.1, rfl, ⟨_, rfl⟩, by decide +kernel, rfl⟩

theorem witness_OwnersAndFreezeLevelsProtect :
    (Good (asked .retire [60, 1]) ∧ Due (asked .retire [60, 1]) .a .retire 7 [60, 1] ∧
      (∃ t, exec (grantOf .a .retire) (asked .retire [60, 1]) = .next t) ∧
      (asked .retire [60, 1]).zone 60 = some zone60 ∧ zone60.owner = ownerOf Port.a.other) ∧
    (let s := (ask (bench.setFreeze .fixed) .a .disarm [40, 2]).setPending [.disarm .a]
     Good s ∧ s.device = .running ∧ (∃ t, step s = .next t ∧ t.device = .running) ∧ s.freezeLevel = .fixed ∧
      s.zone 40 = some zone40 ∧ s.zone 7 = none) :=
  ⟨⟨asked_good _ _, asked_due _ _, ⟨_, rfl⟩, by decide +kernel, by decide +kernel⟩,
    ⟨good_setPending (ready _ _ _).1 _, rfl, ⟨_, rfl, by decide +kernel⟩, rfl, by decide +kernel, by decide +kernel⟩⟩

theorem witness_HostFramesDecodeAsEncoded :
    (Instr.fetch .a 9 (.ends 24)).wf = true ∧ (transactionOf (.fetch .a 9 (.ends 24))).isSome = true ∧ 24 % 8 = 0 ∧
    (Instr.resync .b 2 (List.replicate 32 0xFF) .together).wf = true ∧
      (transactionOf (.resync .b 2 (List.replicate 32 0xFF) .together)).isSome = true := by decide +kernel

theorem witness_ImagesDecodeAsEncoded :
    ProperContent 95 (.vacant 255) ∧ ProperContent 44 (.live zone44) ∧ ProperContent 99 (.axis AxisConfig.default) ∧
    ProperContent 100 (.lines bench.lineConfig) ∧ ProperContent 101 (.ports bench.portConfig) ∧
    ProperContent 102 (.freeze .fixed) :=
  ⟨(by decide : (95 : ItemNo).val < 96), ⟨by decide, zoneOk_of_check (by decide +kernel), rfl⟩,
    ⟨by decide, by decide, by decide, by decide⟩, rfl, rfl, rfl⟩

end Sys2Proof.Tests
end

section
/-! The evaluator's work items: what `earliest` picks out of each list of pending work, and the order in which the
evaluator takes its work items (R17). -/

namespace Sys2Proof.Machine

/-! ### The earliest entry -/

theorem earliest_eq_none_iff {α : Type} (l : List (Nat × α)) : earliest l = none ↔ l = [] := by
  cases l with
  | nil => simp [earliest]
  | cons x rest =>
    rw [earliest]
    split
    · split <;> simp
    · simp

/-- The earliest entry of a list is its head, where no entry of the tail is strictly earlier, and else that of the tail. -/
theorem earliest_cons_cases {α : Type} {x y : Nat × α} {rest : List (Nat × α)} (h : earliest (x :: rest) = some y) :
    (y = x ∧ ∀ z, earliest rest = some z → x.1 ≤ z.1) ∨ (earliest rest = some y ∧ y.1 < x.1) := by
  rw [earliest] at h
  split at h
  next z hz =>
    split at h
    next hlt => cases h; exact .inr ⟨hz, hlt⟩
    next hle => cases h; exact .inl ⟨rfl, by simpa [hz] using hle⟩
  next hnone => cases h; exact .inl ⟨rfl, by simp [hnone]⟩

/-- Of the entries that ascending numbers give, the earliest is that of the lowest number among those of the least moment. -/
theorem earliest_filterMap {α : Type} {k : Nat} {f : Fin k → Option (Nat × α)} {l : List (Fin k)}
    (hl : l.Pairwise (· < ·)) {x : Nat × α} (h : earliest (l.filterMap f) = some x) :
    ∃ n, f n = some x ∧ ∀ n' ∈ l, ∀ y, f n' = some y → x.1 < y.1 ∨ (x.1 = y.1 ∧ n ≤ n') := by
  induction l generalizing x with
  | nil => cases h
  | cons i l ih =>
    obtain ⟨hi, hl⟩ := List.pairwise_cons.mp hl
    cases hf : f i with
    | none =>
      rw [List.filterMap_cons_none hf] at h
      obtain ⟨n, hn, hfirst⟩ := ih hl h
      exact ⟨n, hn, by simpa [hf] using hfirst⟩
    | some a =>
      rw [List.filterMap_cons_some hf] at h
      rcases earliest_cons_cases h with ⟨rfl, hhead⟩ | ⟨htail, hlt⟩
      · refine ⟨i, hf, fun n' hn' y hy => ?_⟩
        rcases List.mem_cons.mp hn' with rfl | hmem
        · cases hf.symm.trans hy
          exact .inr ⟨rfl, le_rfl⟩
        · have hle : x.1 ≤ y.1 := by
            cases hr : earliest (l.filterMap f) with
            | none =>
              have hnil := (earliest_eq_none_iff _).mp hr
              cases hy.symm.trans (List.filterMap_eq_nil_iff.mp hnil n' hmem)
            | some z =>
              obtain ⟨_, -, hfirst⟩ := ih hl hr
              have hxz := hhead z hr
              have hzy := hfirst n' hmem y hy
              omega
          exact hle.lt_or_eq.imp_right fun he => ⟨he, (hi n' hmem).le⟩
      · obtain ⟨n, hn, hfirst⟩ := ih hl htail
        refine ⟨n, hn, List.forall_mem_cons.mpr ⟨fun y hy => ?_, hfirst⟩⟩
        cases hf.symm.trans hy
        exact .inl hlt

/-! ### Which entry comes first, by kind of work -/

/-- Number `n`, pending since moment `m`, comes first: nothing is pending since an earlier moment, nor under a lower number
since the same moment (R17). -/
def IsFirst {k : Nat} (pending : Fin k → Nat → Prop) (n : Fin k) (m : Nat) : Prop :=
  pending n m ∧ ∀ n' m', pending n' m' → m < m' ∨ (m = m' ∧ n ≤ n')

/-- The earliest of the entries of all axes, or of all slots, is of the number that comes first. -/
theorem earliest_isFirst {k : Nat} {pending : Fin k → Nat → Prop} {f : Fin k → Option (Nat × WorkItem)} {m : Nat}
    {w : WorkItem} (hf : ∀ n m, pending n m ↔ ∃ w, f n = some (m, w))
    (h : earliest ((List.finRange k).filterMap f) = some (m, w)) : ∃ n, f n = some (m, w) ∧ IsFirst pending n m := by
  obtain ⟨n, hn, hfirst⟩ := earliest_filterMap (List.pairwise_lt_finRange k) h
  refine ⟨n, hn, (hf n m).mpr ⟨w, hn⟩, fun n' m' hp => ?_⟩
  obtain ⟨w', hw'⟩ := (hf n' m').mp hp
  exact hfirst n' (List.mem_finRange n') _ hw'

/-- A pass is pending since moment `m` on an axis that also has a pending condition. -/
def PassBeforeCondition (s : State) (n : Axis) (m : Nat) : Prop := s.pendingPass n = some m ∧ s.pendingConditions n ≠ []

/-- The first pending condition of an axis was posted at moment `m`. -/
def FirstPosted (s : State) (n : Axis) (m : Nat) : Prop := ∃ c, (s.pendingConditions n).head? = some c ∧ c.posted = m

/-- The dwell timer of a slot has been expired since moment `m`. -/
def ExpiredSince (s : State) (i : SlotNo) (m : Nat) : Prop := ∃ d, s.dwell i = some d ∧ d.expired = some m

theorem earliest_passesBeforeConditions {s : State} {m : Nat} {w : WorkItem}
    (h : earliest (passesBeforeConditions s) = some (m, w)) : ∃ n, w = .pass n ∧ IsFirst (PassBeforeCondition s) n m := by
  obtain ⟨n, hn, hfirst⟩ := earliest_isFirst (pending := PassBeforeCondition s)
    (fun n m => by by_cases hc : s.pendingConditions n = [] <;> simp [PassBeforeCondition, hc]) h
  by_cases hc : s.pendingConditions n = []
  · simp [hc] at hn
  · exact ⟨n, by simp_all, hfirst⟩

theorem earliest_firstConditions {s : State} {m : Nat} {w : WorkItem}
    (h : earliest (firstConditions s) = some (m, w)) :
    ∃ n c, w = .condition n c.kind ∧ (s.pendingConditions n).head? = some c ∧ c.posted = m ∧ IsFirst (FirstPosted s) n m := by
  obtain ⟨n, hn, hfirst⟩ := earliest_isFirst (pending := FirstPosted s)
    (fun n m => by cases hc : s.pendingConditions n <;> simp [FirstPosted, hc]) h
  cases hc : s.pendingConditions n with
  | nil => simp [hc] at hn
  | cons c _ =>
    simp only [hc, Option.some.injEq, Prod.mk.injEq] at hn
    exact ⟨n, c, hn.2.symm, by simp [hc], hn.1, hfirst⟩

theorem earliest_expiries {s : State} {m : Nat} {w : WorkItem} (h : earliest (expiries s) = some (m, w)) :
    ∃ i, w = .expiry i ∧ IsFirst (ExpiredSince s) i m := by
  obtain ⟨i, hi, hfirst⟩ := earliest_isFirst (pending := ExpiredSince s)
    (fun i m => by cases hd : s.dwell i <;> simp [ExpiredSince, hd]) h
  cases hd : s.dwell i with
  | none => simp [hd] at hi
  | some d => exact ⟨i, by simp_all, hfirst⟩

theorem earliest_allPasses {s : State} {m : Nat} {w : WorkItem} (h : earliest (allPasses s) = some (m, w)) :
    ∃ n, w = .pass n ∧ IsFirst (fun n m => s.pendingPass n = some m) n m := by
  obtain ⟨n, hn, hfirst⟩ := earliest_isFirst (pending := fun n m => s.pendingPass n = some m) (by simp) h
  exact ⟨n, by simp_all, hfirst⟩

/-! ### Where a kind of work has nothing pending -/

theorem earliest_passesBeforeConditions_eq_none (s : State) :
    earliest (passesBeforeConditions s) = none ↔ ∀ n, s.pendingConditions n ≠ [] → s.pendingPass n = none := by
  simp [earliest_eq_none_iff, passesBeforeConditions, allAxes]

theorem earliest_firstConditions_eq_none (s : State) :
    earliest (firstConditions s) = none ↔ ∀ n, s.pendingConditions n = [] := by
  rw [earliest_eq_none_iff, firstConditions, List.filterMap_eq_nil_iff]
  refine ⟨fun h n => ?_, fun h n _ => by rw [h n]⟩
  have hn := h n (List.mem_finRange n)
  cases hc : s.pendingConditions n with
  | nil => rfl
  | cons c rest => simp [hc] at hn

theorem earliest_expiries_eq_none (s : State) :
    earliest (expiries s) = none ↔ ∀ i d, s.dwell i = some d → d.expired = none := by
  rw [earliest_eq_none_iff, expiries, List.filterMap_eq_nil_iff]
  refine ⟨fun h i d hd => ?_, fun h i _ => ?_⟩
  · simpa [hd] using h i (List.mem_finRange i)
  · cases hd : s.dwell i with
    | none => rfl
    | some d => simp [h i d hd]

theorem earliest_allPasses_eq_none (s : State) : earliest (allPasses s) = none ↔ ∀ n, s.pendingPass n = none := by
  simp [earliest_eq_none_iff, allPasses, allAxes]

/-! ### The item an EVALUATOR grant takes -/

/-- The four kinds of work in the order of R17: an item is the first of its kind, and nothing of an earlier kind is pending. -/
theorem nextItem_cases {s : State} {w : WorkItem} (h : nextItem s = some w) :
    (∃ n m, w = .pass n ∧ IsFirst (PassBeforeCondition s) n m) ∨
    ((∀ n, s.pendingConditions n ≠ [] → s.pendingPass n = none) ∧ ∃ n c, w = .condition n c.kind ∧
      (s.pendingConditions n).head? = some c ∧ IsFirst (FirstPosted s) n c.posted) ∨
    ((∀ n, s.pendingConditions n = []) ∧ ∃ i m, w = .expiry i ∧ IsFirst (ExpiredSince s) i m) ∨
    ((∀ n, s.pendingConditions n = []) ∧ (∀ i d, s.dwell i = some d → d.expired = none) ∧
      ∃ n m, w = .pass n ∧ IsFirst (fun n m => s.pendingPass n = some m) n m) := by
  rw [nextItem] at h
  split at h
  next hpass =>
    cases h
    obtain ⟨n, hn⟩ := earliest_passesBeforeConditions hpass
    exact .inl ⟨n, _, hn⟩
  next hpass =>
    rw [earliest_passesBeforeConditions_eq_none] at hpass
    split at h
    next hcond =>
      cases h
      obtain ⟨n, c, hw, hhead, hposted, hfirst⟩ := earliest_firstConditions hcond
      exact .inr (.inl ⟨hpass, n, c, hw, hhead, hposted ▸ hfirst⟩)
    next hcond =>
      rw [earliest_firstConditions_eq_none] at hcond
      split at h
      next hexp =>
        cases h
        obtain ⟨i, hi⟩ := earliest_expiries hexp
        exact .inr (.inr (.inl ⟨hcond, i, _, hi⟩))
      next hexp =>
        rw [earliest_expiries_eq_none] at hexp
        obtain ⟨⟨m, w'⟩, hall, rfl⟩ := Option.map_eq_some_iff.mp h
        obtain ⟨n, hn⟩ := earliest_allPasses hall
        exact .inr (.inr (.inr ⟨hcond, hexp, n, m, hn⟩))

theorem nextItem_eq_none_iff (s : State) :
    nextItem s = none ↔ (∀ n, s.pendingPass n = none) ∧ (∀ n, s.pendingConditions n = []) ∧
      ∀ i d, s.dwell i = some d → d.expired = none := by
  rw [← earliest_allPasses_eq_none, ← earliest_firstConditions_eq_none, ← earliest_expiries_eq_none]
  have hpass : earliest (allPasses s) = none → earliest (passesBeforeConditions s) = none := by
    rw [earliest_allPasses_eq_none, earliest_passesBeforeConditions_eq_none]
    exact fun h n _ => h n
  cases hp : earliest (passesBeforeConditions s) with
  | some x =>
    have hall : earliest (allPasses s) ≠ none := fun hn => by simp [hpass hn] at hp
    simp [nextItem, hp, hall]
  | none =>
    cases hc : earliest (firstConditions s) <;> cases he : earliest (expiries s) <;> simp [nextItem, hp, hc, he]

/-- The conditions of an axis stand in posting order (R80), so its first was posted no later than any of them. -/
theorem firstPosted_of_mem {s : State} (hs : Good s) {n : Axis} {c : Condition} (h : c ∈ s.pendingConditions n) :
    ∃ m, FirstPosted s n m ∧ m ≤ c.posted := by
  have horder := (hs.axes n).posting
  cases hc : s.pendingConditions n with
  | nil => simp [hc] at h
  | cons c₀ rest =>
    refine ⟨c₀.posted, ⟨c₀, by simp [hc], rfl⟩, ?_⟩
    rw [hc] at h horder
    rcases List.mem_cons.mp h with rfl | hmem
    · exact le_rfl
    · exact (List.pairwise_cons.mp horder).1 c hmem

/-- The first among the axes' first conditions is the first among all conditions that are pending. -/
theorem isFirst_firstPosted_le {s : State} (hs : Good s) {n : Axis} {m : Nat} (h : IsFirst (FirstPosted s) n m)
    {n' : Axis} {c : Condition} (hc : c ∈ s.pendingConditions n') : m < c.posted ∨ (m = c.posted ∧ n ≤ n') := by
  obtain ⟨m', hm', hle⟩ := firstPosted_of_mem hs hc
  rcases h.2 n' m' hm' with hlt | ⟨rfl, hn⟩
  · exact .inl (hlt.trans_le hle)
  · exact hle.lt_or_eq.imp_right fun he => ⟨he, hn⟩

/-- Settles O16, by cases over the four kinds of work in the order of R17. -/
theorem evaluatorTakesItemsInOrder : Obligations.EvaluatorTakesItemsInOrder := by
  intro s hs
  refine ⟨fun n h => ?_, fun n k h => ?_, fun i h => ?_, nextItem_eq_none_iff s⟩
  · rcases nextItem_cases h with ⟨_, m, hw, ⟨hp, hc⟩, hfirst⟩ | ⟨_, _, _, hw, _⟩ | ⟨_, _, _, hw, _⟩ |
      ⟨hnone, hexp, _, m, hw, hp, hfirst⟩
    · cases hw
      exact ⟨m, hp, .inl ⟨hc, fun n' m' hp' hc' => hfirst n' m' ⟨hp', hc'⟩⟩⟩
    · cases hw
    · cases hw
    · cases hw
      exact ⟨m, hp, .inr ⟨hnone, hexp, hfirst⟩⟩
  · rcases nextItem_cases h with ⟨_, _, hw, _⟩ | ⟨hpass, _, c, hw, hhead, hfirst⟩ | ⟨_, _, _, hw, _⟩ | ⟨_, _, _, _, hw, _⟩
    · cases hw
    · cases hw
      exact ⟨c, hhead, rfl, hpass, fun _ _ hc' => isFirst_firstPosted_le hs hfirst hc'⟩
    · cases hw
    · cases hw
  · rcases nextItem_cases h with ⟨_, _, hw, _⟩ | ⟨_, _, _, hw, _⟩ | ⟨hnone, _, m, hw, ⟨d, hd, hm⟩, hfirst⟩ |
      ⟨_, _, _, _, hw, _⟩
    · cases hw
    · cases hw
    · cases hw
      exact ⟨d, m, hd, hm, hnone, fun i' d' m' hd' hm' => hfirst i' m' ⟨d', hd', hm'⟩⟩
    · cases hw

end Sys2Proof.Machine
end

section
/-! The zone tests by counts (R84, R85). The model judges an angle set by comparing its two ends; the rules walk from start
forward to end. The bridge between them is the forward distance `(b - a).toNat` from an angle `a` to an angle `b`. -/

namespace Sys2Proof.Machine

/-! ### Forward distances between angles -/

theorem sub_toNat_add_ofNat (a : Angle) (k : Nat) : (a + BitVec.ofNat 16 k - a).toNat = k % 65536 := by
  rw [add_sub_cancel_left, BitVec.toNat_ofNat]

theorem add_ofNat_sub_toNat (a b : Angle) : a + BitVec.ofNat 16 (b - a).toNat = b := by
  rw [BitVec.ofNat_toNat, BitVec.setWidth_eq, add_sub_cancel]

/-- The angles from `a` forward by at most `n` counts are those whose forward distance from `a` is at most `n`. -/
theorem exists_forward_iff (a b : Angle) (n : Nat) :
    (∃ i, i ≤ n ∧ b = a + BitVec.ofNat 16 i) ↔ (b - a).toNat ≤ n := by
  constructor
  · rintro ⟨i, hi, rfl⟩
    rw [sub_toNat_add_ofNat]
    exact (Nat.mod_le i 65536).trans hi
  · exact fun h => ⟨_, h, (add_ofNat_sub_toNat a b).symm⟩

/-! ### Angle sets -/

/-- An angle lies in the angle set where it is no further forward of the start than the end is (R4). -/
theorem arcContains_iff (start stop a : Angle) :
    arcContains start stop a = true ↔ (a - start).toNat ≤ (stop - start).toNat := by
  unfold arcContains
  split
  next hplain =>
    rw [Bool.and_eq_true, decide_eq_true_eq, decide_eq_true_eq]
    bv_omega
  next hwrapped =>
    rw [Bool.or_eq_true, decide_eq_true_eq, decide_eq_true_eq]
    bv_omega

theorem arcContains_iff_exists (start stop a : Angle) :
    arcContains start stop a = true ↔ ∃ i, i ≤ (stop - start).toNat ∧ a = start + BitVec.ofNat 16 i := by
  rw [arcContains_iff, exists_forward_iff]

theorem arcContains_start (start stop : Angle) : arcContains start stop start = true := by simp [arcContains_iff]

theorem arcWidth_eq (start stop : Angle) : arcWidth start stop = (stop - start).toNat + 1 := by
  unfold arcWidth
  split <;> bv_omega

/-- The widened set reaches hysteresis counts further either way: the bounds condition of R4 keeps it short of the circle. -/
theorem widened_sub_toNat {start stop : Angle} {h : BitVec 12} (hb : boundsOk (.periodic start stop) h = true) :
    (stop + h.setWidth 16 - (start - h.setWidth 16)).toNat = (stop - start).toNat + 2 * h.toNat := by
  simp only [boundsOk, decide_eq_true_eq, arcWidth_eq] at hb
  have hext : (h.setWidth 16).toNat = h.toNat := BitVec.toNat_setWidth_of_le (by decide)
  bv_omega

/-- Two angle sets meet where an angle on the way from the first's start to its end is in the second (R85). From outside the
second set that way comes upon it at its start, which therefore lies in the first. -/
theorem arcsMeet_iff_exists (s₁ e₁ s₂ e₂ : Angle) :
    arcsMeet s₁ e₁ s₂ e₂ = true ↔
      ∃ k, k ≤ (e₁ - s₁).toNat ∧ arcContains s₂ e₂ (s₁ + BitVec.ofNat 16 k) = true := by
  rw [arcsMeet, Bool.or_eq_true]
  constructor
  · rintro (hfirst | hsecond)
    · obtain ⟨k, hk, he⟩ := (arcContains_iff_exists s₁ e₁ s₂).mp hfirst
      exact ⟨k, hk, he ▸ arcContains_start s₂ e₂⟩
    · exact ⟨0, Nat.zero_le _, by simpa using hsecond⟩
  · rintro ⟨k, hk, hin⟩
    simp only [arcContains_iff] at hin ⊢
    have hk' : (BitVec.ofNat 16 k).toNat = k := Nat.mod_eq_of_lt (hk.trans_lt (e₁ - s₁).isLt)
    bv_omega

/-! ### Positions by counts -/

theorem ExtPos.le_iff (p q : ExtPos) : p.le q = true ↔ p.counts ≤ q.counts := decide_eq_true_iff

/-- No position is below -2048:0 or above +2047:65535. -/
theorem ExtPos.counts_bounds (p : ExtPos) : -2048 * 65536 ≤ p.counts ∧ p.counts ≤ 2047 * 65536 + 65535 := by
  have hangle := p.angle.isLt
  have hlow : -2048 ≤ p.turn.toInt := BitVec.le_toInt p.turn
  have hhigh : p.turn.toInt < 2048 := BitVec.toInt_lt
  unfold ExtPos.counts
  omega

/-- The angle of a position is its count, taken round the circle. -/
theorem ExtPos.ofInt_counts (p : ExtPos) : BitVec.ofInt 16 p.counts = p.angle := by
  apply BitVec.eq_of_toNat_eq
  have hangle := p.angle.isLt
  rw [BitVec.toNat_ofInt, ExtPos.counts]
  omega

/-- A position `k` counts above another has the angle `k` counts forward of the other's. -/
theorem ExtPos.angle_eq_add {p q : ExtPos} {k : Nat} (h : q.counts = p.counts + k) :
    q.angle = p.angle + BitVec.ofNat 16 k := by
  rw [← q.ofInt_counts, h, BitVec.ofInt_add, p.ofInt_counts, BitVec.ofInt_natCast]

/-- Below a whole revolution, the forward distance between two angles is the distance between the positions. -/
theorem ExtPos.angle_sub_toNat {p q : ExtPos} (hle : p.counts ≤ q.counts) (hlt : q.counts - p.counts < 65536) :
    ((q.angle - p.angle).toNat : Int) = q.counts - p.counts := by
  obtain ⟨k, hk⟩ := Int.le.dest hle
  rw [ExtPos.angle_eq_add hk.symm, sub_toNat_add_ofNat]
  omega

/-! ### The three tests -/

theorem contains_absolute_iff (lower upper f : ExtPos) :
    (Bounds.absolute lower upper).contains f = true ↔ lower.counts ≤ f.counts ∧ f.counts ≤ upper.counts := by
  rw [Bounds.contains, Bool.and_eq_true, ExtPos.le_iff, ExtPos.le_iff]

theorem holds_absolute_iff (lower upper f : ExtPos) (h : BitVec 12) :
    (Bounds.absolute lower upper).holds h f = true ↔
      lower.counts - h.toNat ≤ f.counts ∧ f.counts ≤ upper.counts + h.toNat := by
  rw [Bounds.holds, Bool.and_eq_true, decide_eq_true_eq, decide_eq_true_eq]

/-- A widened bound that would fall beyond an extreme position ends there (R84). -/
theorem holds_absolute_iff_clamped (lower upper f : ExtPos) (h : BitVec 12) :
    (Bounds.absolute lower upper).holds h f = true ↔
      max (lower.counts - h.toNat) (-2048 * 65536) ≤ f.counts ∧
      f.counts ≤ min (upper.counts + h.toNat) (2047 * 65536 + 65535) := by
  obtain ⟨hlow, hhigh⟩ := f.counts_bounds
  rw [holds_absolute_iff, max_le_iff, le_min_iff, and_iff_left hlow, and_iff_left hhigh]

theorem contains_periodic_iff (start stop : Angle) (f : ExtPos) :
    (Bounds.periodic start stop).contains f = true ↔
      ∃ i, i ≤ (stop - start).toNat ∧ f.angle = start + BitVec.ofNat 16 i :=
  arcContains_iff_exists start stop f.angle

theorem holds_periodic_iff {start stop : Angle} {h : BitVec 12} (hb : boundsOk (.periodic start stop) h = true) (f : ExtPos) :
    (Bounds.periodic start stop).holds h f = true ↔
      ∃ i, i ≤ (stop - start).toNat + 2 * h.toNat ∧ f.angle = start - h.setWidth 16 + BitVec.ofNat 16 i := by
  rw [Bounds.holds, arcContains_iff_exists, widened_sub_toNat hb]

theorem holds_zero_eq_contains (b : Bounds) (f : ExtPos) : b.holds 0 f = b.contains f := by
  rw [Bool.eq_iff_iff]
  cases b with
  | absolute lower upper => simp [holds_absolute_iff, contains_absolute_iff]
  | periodic start stop => simp [Bounds.holds, Bounds.contains]

/-- What is `i` counts forward of the start is `i` and the hysteresis forward of the widened start. -/
theorem holds_of_contains {b : Bounds} {h : BitVec 12} {f : ExtPos} (hb : boundsOk b h = true) (hin : b.contains f = true) :
    b.holds h f = true := by
  cases b with
  | absolute lower upper =>
    obtain ⟨hlow, hhigh⟩ := (contains_absolute_iff lower upper f).mp hin
    exact (holds_absolute_iff lower upper f h).mpr ⟨by omega, by omega⟩
  | periodic start stop =>
    obtain ⟨i, hi, hf⟩ := (contains_periodic_iff start stop f).mp hin
    refine (holds_periodic_iff hb f).mpr ⟨i + h.toNat, by omega, ?_⟩
    rw [hf, BitVec.ofNat_add, BitVec.ofNat_toNat]
    abel

theorem touched_absolute_iff (lower upper : ExtPos) (x : Span) :
    (Bounds.absolute lower upper).touched x = true ↔
      x.lowest.counts ≤ upper.counts ∧ lower.counts ≤ x.highest.counts := by
  rw [Bounds.touched, Bool.and_eq_true, ExtPos.le_iff, ExtPos.le_iff]

/-- The arc of a span shorter than a revolution is as long as the span; a longer span touches every set (R85). -/
theorem touched_periodic_iff {start stop : Angle} {x : Span} (hx : x.lowest.counts ≤ x.highest.counts) :
    (Bounds.periodic start stop).touched x = true ↔
      65536 ≤ x.highest.counts - x.lowest.counts ∨
      ∃ k : Nat, (k : Int) ≤ x.highest.counts - x.lowest.counts ∧
        (Bounds.periodic start stop).contains ⟨0, x.lowest.angle + BitVec.ofNat 16 k⟩ = true := by
  rw [Bounds.touched, Bool.or_eq_true, decide_eq_true_eq, arcsMeet_iff_exists]
  refine or_congr_right' fun hshort => exists_congr fun k => and_congr_left' ?_
  rw [← ExtPos.angle_sub_toNat hx (not_le.mp hshort), Int.ofNat_le]

theorem touched_of_contains {b : Bounds} {x : Span} {f : ExtPos} (hlow : x.lowest.counts ≤ f.counts)
    (hhigh : f.counts ≤ x.highest.counts) (hin : b.contains f = true) : b.touched x = true := by
  cases b with
  | absolute lower upper =>
    obtain ⟨hl, hu⟩ := (contains_absolute_iff lower upper f).mp hin
    exact (touched_absolute_iff lower upper x).mpr ⟨hlow.trans hu, hl.trans hhigh⟩
  | periodic start stop =>
    obtain ⟨k, hk⟩ := Int.le.dest hlow
    refine (touched_periodic_iff (hlow.trans hhigh)).mpr (.inr ⟨k, by omega, ?_⟩)
    rw [← ExtPos.angle_eq_add hk.symm]
    exact hin

/-- Settles O50: each test of the two kinds of bounds has its lemma above. -/
theorem zoneTestsJudgeByCounts : Obligations.ZoneTestsJudgeByCounts :=
  ⟨fun lower upper f h _ => ⟨contains_absolute_iff lower upper f, holds_absolute_iff_clamped lower upper f h⟩,
    fun start stop f _ hb => ⟨contains_periodic_iff start stop f, holds_periodic_iff hb f⟩,
    holds_zero_eq_contains, fun _ _ _ hb hin => holds_of_contains hb hin,
    touched_absolute_iff, fun _ _ _ hx => touched_periodic_iff hx,
    fun _ _ _ hlow hhigh hin => touched_of_contains hlow hhigh hin⟩

end Sys2Proof.Machine
end

section
/-! The zone lines (R100 to R102): what a driving set holds, which of its zones has the highest priority, and what a line
record therefore reports. -/

namespace Sys2Proof.Machine

/-! ### The driving set -/

/-- Slot `i` holds zone `z`, which is in the driving set of line `l` (R100). -/
def InDrivingSet (s : State) (l : LineNo) (i : SlotNo) (z : Zone) : Prop :=
  s.zone i = some z ∧ z.line = some l ∧ (z.occupancy = .inside ∨ z.occupancy = .tripped)

theorem Occupancy.active_iff (o : Occupancy) : o.active = true ↔ o = .inside ∨ o = .tripped := by
  cases o <;> simp [Occupancy.active]

theorem drives_iff (z : Zone) (l : LineNo) :
    drives z l = true ↔ z.line = some l ∧ (z.occupancy = .inside ∨ z.occupancy = .tripped) := by
  rw [drives, Bool.and_eq_true, decide_eq_true_eq, Occupancy.active_iff]

/-- What slot `i` puts into the driving set of line `l`: itself and its zone, where the zone drives the line. -/
def driverAt (s : State) (l : LineNo) (i : SlotNo) : Option (SlotNo × Zone) :=
  ((s.zone i).filter fun z => drives z l).map fun z => (i, z)

theorem drivingSet_eq_filterMap (s : State) (l : LineNo) : drivingSet s l = allSlots.filterMap (driverAt s l) := by
  refine congrArg (allSlots.filterMap ·) (funext fun i => ?_)
  cases hz : s.zone i with
  | none => simp [driverAt, hz]
  | some z => cases hd : drives z l <;> simp [driverAt, hz, hd, Option.filter]

theorem driverAt_eq_some_iff {s : State} {l : LineNo} {i : SlotNo} {x : SlotNo × Zone} :
    driverAt s l i = some x ↔ x.1 = i ∧ InDrivingSet s l i x.2 := by
  simp only [driverAt, Option.map_eq_some_iff, Option.filter_eq_some_iff, drives_iff, InDrivingSet]
  constructor
  · rintro ⟨z, hz, rfl⟩
    exact ⟨rfl, hz⟩
  · rintro ⟨rfl, hz⟩
    exact ⟨x.2, hz, rfl⟩

theorem mem_drivingSet_iff {s : State} {l : LineNo} {x : SlotNo × Zone} :
    x ∈ drivingSet s l ↔ InDrivingSet s l x.1 x.2 := by
  rw [drivingSet_eq_filterMap, List.mem_filterMap]
  constructor
  · rintro ⟨i, -, hi⟩
    obtain ⟨rfl, hin⟩ := driverAt_eq_some_iff.mp hi
    exact hin
  · exact fun hin => ⟨x.1, List.mem_finRange x.1, driverAt_eq_some_iff.mpr ⟨rfl, hin⟩⟩

/-- A driving set is listed in ascending slot order, each slot once. -/
theorem drivingSet_ascending (s : State) (l : LineNo) : (drivingSet s l).Pairwise fun x y => x.1 < y.1 := by
  rw [drivingSet_eq_filterMap]
  refine (List.pairwise_lt_finRange 96).filterMap _ fun i j hij x hx y hy => ?_
  obtain ⟨rfl, -⟩ := driverAt_eq_some_iff.mp hx
  obtain ⟨rfl, -⟩ := driverAt_eq_some_iff.mp hy
  exact hij

theorem drivingSet_eq_nil_iff (s : State) (l : LineNo) : drivingSet s l = [] ↔ ∀ j y, ¬InDrivingSet s l j y := by
  simp [List.eq_nil_iff_forall_not_mem, mem_drivingSet_iff]

/-- The slots of a driving set, in ascending order. -/
def drivingSlots (s : State) (l : LineNo) : List SlotNo := (drivingSet s l).map Prod.fst

theorem mem_drivingSlots_iff {s : State} {l : LineNo} {i : SlotNo} :
    i ∈ drivingSlots s l ↔ ∃ z, InDrivingSet s l i z := by
  simp [drivingSlots, mem_drivingSet_iff]

theorem drivingSlots_nodup (s : State) (l : LineNo) : (drivingSlots s l).Nodup :=
  List.pairwise_map.mpr ((drivingSet_ascending s l).imp ne_of_lt)

theorem drivingSlots_length_le (s : State) (l : LineNo) : (drivingSlots s l).length ≤ 96 := by
  simpa using (drivingSlots_nodup s l).length_le_card

/-! ### The highest priority -/

/-- The first zone has the higher priority, or the two share it and the first is in no higher a slot (R102). -/
def Precedes (x y : SlotNo × Zone) : Prop := y.2.priority < x.2.priority ∨ (y.2.priority = x.2.priority ∧ x.1 ≤ y.1)

theorem precedes_iff_toNat {x y : SlotNo × Zone} :
    Precedes x y ↔ y.2.priority.toNat < x.2.priority.toNat ∨
      (y.2.priority.toNat = x.2.priority.toNat ∧ x.1.val ≤ y.1.val) := by
  rw [Precedes, BitVec.lt_def, ← BitVec.toNat_inj, Fin.le_def]

theorem Precedes.refl (x : SlotNo × Zone) : Precedes x x := .inr ⟨rfl, le_rfl⟩

theorem Precedes.trans {x y z : SlotNo × Zone} (hxy : Precedes x y) (hyz : Precedes y z) : Precedes x z := by
  rw [precedes_iff_toNat] at hxy hyz ⊢
  omega

theorem Precedes.slot_eq {x y : SlotNo × Zone} (hxy : Precedes x y) (hyx : Precedes y x) : x.1 = y.1 := by
  rw [precedes_iff_toNat] at hxy hyx
  apply Fin.ext
  omega

/-- A zone in a lower slot gives way to a strictly higher priority alone. -/
theorem Precedes.of_slot_lt {x y : SlotNo × Zone} (hslot : x.1 < y.1) (hle : ¬x.2.priority < y.2.priority) :
    Precedes x y := by
  rw [Fin.lt_def] at hslot
  rw [BitVec.lt_def] at hle
  rw [precedes_iff_toNat]
  omega

theorem highestPriority_eq_none_iff (set : List (SlotNo × Zone)) : highestPriority set = none ↔ set = [] := by
  cases set with
  | nil => simp [highestPriority]
  | cons x rest =>
    rw [highestPriority]
    split
    · split <;> simp
    · simp

/-- The head of an ascending list keeps the lead unless the tail's choice has a strictly higher priority. -/
theorem highestPriority_precedes {set : List (SlotNo × Zone)} (hset : set.Pairwise fun x y => x.1 < y.1)
    {x : SlotNo × Zone} (h : highestPriority set = some x) : x ∈ set ∧ ∀ y ∈ set, Precedes x y := by
  induction set generalizing x with
  | nil => cases h
  | cons a rest ih =>
    obtain ⟨ha, hrest⟩ := List.pairwise_cons.mp hset
    rw [highestPriority] at h
    split at h
    next b hb =>
      obtain ⟨hmem, hfirst⟩ := ih hrest hb
      split at h
      next hlt =>
        cases h
        exact ⟨.tail _ hmem, List.forall_mem_cons.mpr ⟨.inl hlt, hfirst⟩⟩
      next hge =>
        cases h
        have hab : Precedes a b := .of_slot_lt (ha b hmem) hge
        exact ⟨.head _, List.forall_mem_cons.mpr ⟨.refl a, fun y hy => hab.trans (hfirst y hy)⟩⟩
    next hnone =>
      cases h
      cases (highestPriority_eq_none_iff rest).mp hnone
      exact ⟨.head _, List.forall_mem_cons.mpr ⟨.refl a, List.forall_mem_nil _⟩⟩

theorem highestPriority_drivingSet_iff {s : State} {l : LineNo} {x : SlotNo × Zone} :
    highestPriority (drivingSet s l) = some x ↔
      InDrivingSet s l x.1 x.2 ∧ ∀ j y, InDrivingSet s l j y → Precedes x (j, y) := by
  have hfirst : ∀ {x}, highestPriority (drivingSet s l) = some x →
      InDrivingSet s l x.1 x.2 ∧ ∀ j y, InDrivingSet s l j y → Precedes x (j, y) := fun h =>
    have ⟨hmem, hle⟩ := highestPriority_precedes (drivingSet_ascending s l) h
    ⟨mem_drivingSet_iff.mp hmem, fun j y hy => hle (j, y) (mem_drivingSet_iff.mpr hy)⟩
  refine ⟨hfirst, fun ⟨hx, hxle⟩ => ?_⟩
  cases hp : highestPriority (drivingSet s l) with
  | none => exact absurd hx ((drivingSet_eq_nil_iff s l).mp ((highestPriority_eq_none_iff _).mp hp) _ _)
  | some y =>
    obtain ⟨hy, hyle⟩ := hfirst hp
    have hslot : y.1 = x.1 := (hyle _ _ hx).slot_eq (hxle _ _ hy)
    have hzone : y.2 = x.2 := Option.some_inj.mp (hy.1.symm.trans (hslot ▸ hx.1))
    rw [Prod.ext hslot hzone]

/-! ### The line record -/

theorem lineRecordOf_driving_iff {s : State} {l : LineNo} {h : Handle} :
    (lineRecordOf s l).driving = some h ↔ ∃ z, InDrivingSet s l h.slot z ∧ h.incarnation = z.incarnation ∧
      ∀ j y, InDrivingSet s l j y → y.priority < z.priority ∨ (y.priority = z.priority ∧ h.slot ≤ j) := by
  simp only [lineRecordOf, Option.map_eq_some_iff, highestPriority_drivingSet_iff]
  constructor
  · rintro ⟨⟨i, z⟩, ⟨hin, hfirst⟩, rfl⟩
    exact ⟨z, hin, rfl, hfirst⟩
  · rintro ⟨z, hin, hinc, hfirst⟩
    refine ⟨(h.slot, z), ⟨hin, hfirst⟩, ?_⟩
    rw [handleAt, ← hinc]

theorem lineRecordOf_driving_eq_none_iff (s : State) (l : LineNo) :
    (lineRecordOf s l).driving = none ↔ ∀ j y, ¬InDrivingSet s l j y := by
  rw [← drivingSet_eq_nil_iff, ← highestPriority_eq_none_iff]
  exact Option.map_eq_none_iff

theorem lineRecordOf_count (s : State) (l : LineNo) : (lineRecordOf s l).count = (drivingSlots s l).length :=
  (List.length_map _).symm

theorem lineRecordOf_active_iff (s : State) (l : LineNo) :
    (lineRecordOf s l).active = true ↔ s.lineConfig[l].enabled = true ∧ ∃ j y, InDrivingSet s l j y := by
  have hset : (drivingSet s l).isEmpty = false ↔ ∃ j y, InDrivingSet s l j y := by
    simpa using not_congr (drivingSet_eq_nil_iff s l)
  rw [← hset, ← Bool.not_eq_true', ← Bool.and_eq_true]
  rfl

theorem lineRecordOf_pin (s : State) (l : LineNo) :
    (lineRecordOf s l).pin = pinLevel (lineRecordOf s l).active s.lineConfig[l].polarity := rfl

theorem LinesOk.line_eq {s : State} (hs : LinesOk s) (hd : s.device = .running) (l : LineNo) :
    s.line l = lineRecordOf s l := by
  have hl := hs l
  rw [hd] at hl
  exact hl

/-- Settles O51: in a RUNNING part every line's record is the one its driving set gives, of which each field has its lemma
above. -/
theorem linesReportTheirDrivingSet : Obligations.LinesReportTheirDrivingSet := by
  intro s l hs hd
  rw [hs.line_eq hd l]
  refine ⟨fun h => lineRecordOf_driving_iff, lineRecordOf_driving_eq_none_iff s l, ?_, lineRecordOf_active_iff s l,
    lineRecordOf_pin s l⟩
  have hcount := lineRecordOf_count s l
  exact ⟨drivingSlots s l, drivingSlots_nodup s l, fun i => mem_drivingSlots_iff, hcount,
    hcount.trans_le (drivingSlots_length_le s l)⟩

end Sys2Proof.Machine
end

section
/-! Frames refused as malformed (R170): the bytes of a transaction are no FETCH and fewer than four, or they are a code, a
tag, a length, a body and a check byte, of which `judgeFrame` and the cases of the rule say the same. What refusing them does
is one write of the port's own state. -/

namespace Sys2Proof.Machine

/-! ### FETCH frames -/

theorem recognisedFetch_eq_some_iff {bytes : List Byte} {tag : Byte} :
    recognisedFetch bytes = some tag ↔ ∃ rest, bytes = 0x01 :: tag :: 0x00 :: frameCheck [0x01, tag, 0x00] :: rest := by
  constructor
  · intro h
    rw [recognisedFetch.eq_def] at h
    split at h
    next code tag' len check rest =>
      simp only [Option.ite_none_right_eq_some, Bool.and_eq_true, beq_iff_eq, Option.some.injEq] at h
      obtain ⟨⟨⟨rfl, rfl⟩, rfl⟩, rfl⟩ := h
      exact ⟨rest, rfl⟩
    next => cases h
  · rintro ⟨rest, rfl⟩
    simp [recognisedFetch]

theorem recognisedFetch_eq_none {bytes : List Byte} (h : ¬startsWithFetch bytes) : recognisedFetch bytes = none :=
  Option.eq_none_iff_forall_ne_some.mpr fun tag ht => h ⟨tag, recognisedFetch_eq_some_iff.mp ht⟩

/-- A FETCH is judged on its first four bytes alone (R170). -/
theorem judgeFrame_of_startsWithFetch {bytes : List Byte} (h : startsWithFetch bytes) :
    ∃ tag, judgeFrame bytes = .wellFormed 0x01 tag [] ∧ bytes[1]? = some tag := by
  obtain ⟨tag, rest, rfl⟩ := h
  refine ⟨tag, ?_, rfl⟩
  rw [judgeFrame, recognisedFetch_eq_some_iff.mpr ⟨rest, rfl⟩]

/-! ### The parts of a frame -/

/-- Bytes are fewer than four, or they fall into the parts of a frame: code, tag, length, body and check byte (R170). -/
theorem length_lt_four_or_eq_parts (bytes : List Byte) :
    bytes.length < 4 ∨ ∃ code tag len body check, bytes = code :: tag :: len :: (body ++ [check]) := by
  match bytes with
  | [] | [_] | [_, _] => simp
  | code :: tag :: len :: rest =>
    rcases List.eq_nil_or_concat' rest with rfl | ⟨body, check, rfl⟩
    · simp
    · exact .inr ⟨code, tag, len, body, check, rfl⟩

/-- What is wrong with a frame of at least four bytes, in terms of its parts (R170). -/
def PartsMalformed (code tag len : Byte) (body : List Byte) (check : Byte) : Prop :=
  32 < len.toNat ∨ body.length ≠ len.toNat ∨ check ≠ frameCheck (code :: tag :: len :: body) ∨
    (isControlCode code = true ∧ len ≠ 0)

theorem isControlCode_iff (code : Byte) : isControlCode code = true ↔ code ∈ ([0x00, 0x01, 0x02, 0x03] : List Byte) := by
  simp [isControlCode, or_assoc]

theorem malformed_parts_iff (code tag len : Byte) (body : List Byte) (check : Byte) :
    malformed (code :: tag :: len :: (body ++ [check])) ↔ PartsMalformed code tag len body check := by
  have hlength : (code :: tag :: len :: (body ++ [check])).length = 4 + body.length := by simp; omega
  have hfront : code :: tag :: len :: (body ++ [check]) = (code :: tag :: len :: body) ++ [check] := rfl
  rw [malformed, PartsMalformed, hlength, isControlCode_iff, hfront, List.getLast?_concat, List.dropLast_concat]
  simp

/-! ### The judgement -/

theorem judgeFrame_short {bytes : List Byte} (hne : bytes ≠ []) (hshort : bytes.length < 4) :
    judgeFrame bytes = .malformed := by
  match bytes with
  | [_] | [_, _] | [_, _, _] => rfl

/-- A frame that is no FETCH is refused at the first of its parts that is wrong, and well formed where none is (R170). -/
theorem judgeFrame_parts_cases {code tag len check : Byte} {body : List Byte}
    (hfetch : ¬startsWithFetch (code :: tag :: len :: (body ++ [check]))) :
    (PartsMalformed code tag len body check ∧ judgeFrame (code :: tag :: len :: (body ++ [check])) = .malformed) ∨
    (¬PartsMalformed code tag len body check ∧
      judgeFrame (code :: tag :: len :: (body ++ [check])) = .wellFormed code tag body) := by
  have hrest : body ++ [check] ≠ [] := List.concat_ne_nil check body
  simp only [judgeFrame, recognisedFetch_eq_none hfetch, if_neg hrest, List.length_append, List.length_singleton,
    List.getLast?_concat, List.dropLast_concat]
  split_ifs with hlong hlength hcheck hcontrol
  · exact .inl ⟨.inl hlong, rfl⟩
  · exact .inl ⟨.inr (.inl (by omega)), rfl⟩
  · exact .inl ⟨.inr (.inr (.inl (by simpa using hcheck))), rfl⟩
  · exact .inl ⟨.inr (.inr (.inr (by simpa using hcontrol))), rfl⟩
  · refine .inr ⟨?_, rfl⟩
    rintro (h | h | h | h)
    · exact hlong h
    · omega
    · exact hcheck (by simpa using h)
    · exact hcontrol (by simpa using h)

theorem requestFrame_of_parts {code tag len check : Byte} {body : List Byte} (hgood : ¬PartsMalformed code tag len body check) :
    requestFrame code tag body = code :: tag :: len :: (body ++ [check]) := by
  simp only [PartsMalformed, not_or, not_not] at hgood
  obtain ⟨-, hlength, rfl, -⟩ := hgood
  rw [requestFrame, hlength, BitVec.ofNat_toNat, BitVec.setWidth_eq]
  rfl

theorem judgeFrame_of_malformed {bytes : List Byte} (hne : bytes ≠ []) (hfetch : ¬startsWithFetch bytes)
    (hbad : malformed bytes) : judgeFrame bytes = .malformed := by
  rcases length_lt_four_or_eq_parts bytes with hshort | ⟨code, tag, len, body, check, rfl⟩
  · exact judgeFrame_short hne hshort
  · rw [malformed_parts_iff] at hbad
    rcases judgeFrame_parts_cases hfetch with ⟨-, hjudged⟩ | ⟨hgood, -⟩
    · exact hjudged
    · exact absurd hbad hgood

theorem judgeFrame_of_not_malformed {bytes : List Byte} (hfetch : ¬startsWithFetch bytes) (hgood : ¬malformed bytes) :
    ∃ code tag payload, judgeFrame bytes = .wellFormed code tag payload ∧ bytes = requestFrame code tag payload := by
  rcases length_lt_four_or_eq_parts bytes with hshort | ⟨code, tag, len, body, check, rfl⟩
  · exact absurd (.inl hshort) hgood
  · rw [malformed_parts_iff] at hgood
    rcases judgeFrame_parts_cases hfetch with ⟨hbad, -⟩ | ⟨-, hjudged⟩
    · exact absurd hbad hgood
    · exact ⟨code, tag, body, hjudged, (requestFrame_of_parts hgood).symm⟩

/-! ### Writes of one port -/

theorem State.setPort_setPort (s : State) (p : Port) (v w : PortState) : (s.setPort p v).setPort p w = s.setPort p w := by
  simp [State.setPort]

/-- A write of a port's own state leaves all else as it was. -/
theorem OnlyPort.setPort (s : State) (p : Port) (v : PortState) : OnlyPort s (s.setPort p v) p where
  behind := ⟨⟨rfl, rfl, rfl, rfl⟩, ⟨rfl, rfl, rfl⟩, ⟨rfl, rfl, rfl, rfl⟩, ⟨rfl, rfl, rfl, rfl⟩, rfl, rfl,
    ⟨⟨rfl, rfl, rfl, rfl⟩, ⟨rfl, rfl⟩, ⟨rfl, rfl⟩⟩⟩
  arbiter := ⟨rfl, rfl⟩
  other := State.setPort_other s p v

theorem judgesFrames_of_noFetch {s : State} {p : Port} (hheld : s.held = false) (hfetch : NoFetch s p) :
    judgesFrames s p = true := by
  simp [judgesFrames, hheld, noFetch_fetchInProgress hfetch]

theorem shiftOut_eq_setPort (p : Port) (n : Nat) (s : State) : shiftOut p n s = s.setPort p (shiftedPort s p n) := by
  rw [shiftOut, openingStatus_eq]
  rfl

/-- A port as a refused frame of `n` bytes leaves it (R170, R172). -/
def formatRefusedPort (s : State) (p : Port) (n : Nat) : PortState :=
  { shiftedPort s p n with
    lastFrame := .refusedFormat
    formatRefusals := addSaturating (s.port p).formatRefusals 1
    faults := (s.port p).faults ||| Flag.frameFault.mask }

theorem exec_refusedFormat {s : State} {p : Port} {bytes : List Byte} (hjudges : judgesFrames s p = true)
    (hbad : judgeFrame bytes = .malformed) :
    exec (.refusedFormat p bytes) s = .next (s.setPort p (formatRefusedPort s p bytes.length)) := by
  change execRefusedFormat p bytes s = _
  rw [execRefusedFormat, if_pos ⟨hjudges, hbad⟩]
  simp [shiftOut_eq_setPort, setLastFrame, raiseAt, State.setPort_setPort, formatRefusedPort, shiftedPort, FlagSet.raised]

/-- Settles O9: the judgement by the parts of a frame, and the one write that a refusal is. -/
theorem malformedFramesAreRefused : Obligations.MalformedFramesAreRefused := by
  refine ⟨fun bytes hne => ⟨judgeFrame_of_startsWithFetch, judgeFrame_of_malformed hne, judgeFrame_of_not_malformed⟩, ?_⟩
  intro s p bytes hheld hfetch hne hstart hbad
  have hexec := exec_refusedFormat (judgesFrames_of_noFetch hheld hfetch) (judgeFrame_of_malformed hne hstart hbad)
  exact ⟨_, hexec, .setPort s p _, State.setPort_same s p _⟩

end Sys2Proof.Machine
end

section
/-! The judging of frames at the host ports (R168 to R177): what an accepted frame, a refused frame and an answer make of a
port, and the statements about frames that settle within one port. -/

namespace Sys2Proof.Machine

/-- Settles O1: both clauses are the two arms of the step function. -/
theorem stepTakesTheFront : Obligations.StepTakesTheFront := by
  constructor <;> intro s
  · intro c rest h; simp [step, h]
  · intro h; simp [step, h]

/-! ### Accepted frames -/

/-- An accepted frame leaves its port with the slot empty, for the command to be served (R171). -/
def accepted (s : State) (p : Port) (payload : List Byte) : State := s.setPort p (acceptedPort s p payload .empty)

theorem occupy_accepted {s : State} {p : Port} {payload : List Byte} (serve : State → State) (h : PortFree s p)
    (fits : payload.length ≤ 32) : occupy p payload serve s = serve (accepted s p payload) := by
  have hn : frameLength payload - 1 = payload.length + 3 := by simp [frameLength]; omega
  rw [occupy_free serve h fits, shiftOut_eq_setPort]
  simp [setLastFrame, State.setPort_setPort, accepted, acceptedPort, shiftedPort, hn, h.slot]

@[simp] theorem accepted_port (s : State) (p : Port) (payload : List Byte) :
    (accepted s p payload).port p = acceptedPort s p payload .empty := State.setPort_same ..

/-- A served command that changes its slot alone. -/
theorem setPort_accepted (s : State) (p : Port) (payload : List Byte) (v : PortState) :
    (accepted s p payload).setPort p v = s.setPort p v := State.setPort_setPort ..

theorem placeResponse_accepted (s : State) (p : Port) (payload : List Byte) (r : Response) :
    placeResponse p r (accepted s p payload) = s.setPort p (acceptedPort s p payload (.done r)) := by
  simp [placeResponse, setPort_accepted, acceptedPort]

theorem answer_accepted (s : State) (p : Port) (payload : List Byte) (c : LocalCommand) (tag : Byte) (r : Result)
    (bytes : List Byte) : answer p c tag r bytes (accepted s p payload) =
      s.setPort p (acceptedPort s p payload (.done ⟨tag, c.code, r, bytes⟩)) :=
  placeResponse_accepted ..

theorem answeredLocally_setPort (s : State) (p : Port) (c : LocalCommand) (tag : Byte) (payload : List Byte) (r : Result)
    (bytes : List Byte) :
    AnsweredLocally s (s.setPort p (acceptedPort s p payload (.done ⟨tag, c.code, r, bytes⟩))) p c tag payload r bytes :=
  ⟨State.setPort_same .., .setPort ..⟩

/-- A port-local command that is served by an answer alone. -/
theorem answered_of_occupy {s : State} {p : Port} {payload : List Byte} {serve : State → State} {c : LocalCommand} {tag : Byte}
    {r : Result} {bytes : List Byte} (h : PortFree s p) (fits : payload.length ≤ 32)
    (hserve : serve (accepted s p payload) = answer p c tag r bytes (accepted s p payload)) :
    ∃ t, (.next (occupy p payload serve s) : Host.Outcome State Fault Refusal) = .next t ∧
      AnsweredLocally s t p c tag payload r bytes := by
  refine ⟨_, rfl, ?_⟩
  rw [occupy_accepted serve h fits, hserve, answer_accepted]
  exact answeredLocally_setPort ..

/-! ### Codes -/

/-- No command has a code that the table of codes does not find (11.3, R171). -/
theorem commandOfCode_eq_none {code : Byte} (h : ∀ c : Command, c.code ≠ code) : commandOfCode code = none := by
  rw [commandOfCode, List.find?_eq_none]
  intro c _
  simpa using h c

/-- Settles O10: each frame is one write of its port. -/
theorem portAcceptsFrames : Obligations.PortAcceptsFrames := by
  refine ⟨fun s p code tag payload h fits hcode => ?_, fun s p tag hheld hfetch => ?_, fun s p c tag payload h fits => ?_⟩
  · refine ⟨s.setPort p (acceptedPort s p payload (.done ⟨tag, code, .unknownCommand, []⟩)), ?_, .setPort .., State.setPort_same ..⟩
    change execUnknownCommand p code tag payload s = _
    rw [execUnknownCommand, commandOfCode_eq_none hcode]
    simp only [occupy_accepted _ h fits, placeResponse_accepted]
  · refine ⟨s.setPort p { shiftedPort s p 4 with lastFrame := .accepted }, ?_, .setPort .., State.setPort_same ..⟩
    change execNop p tag s = _
    rw [execNop, if_pos (judgesFrames_of_noFetch hheld hfetch), shiftOut_eq_setPort]
    simp [setLastFrame, State.setPort_setPort]
  · refine ⟨_, rfl, ?_⟩
    rw [occupy_accepted _ h fits]
    unfold acceptTable
    have hdev : (accepted s p payload).device = s.device := rfl
    cases hd : s.device with
    | starting =>
      simp only [hdev, hd, placeResponse_accepted]
      exact ⟨.setPort .., State.setPort_same ..⟩
    | running =>
      simp only [hdev, hd, setPort_accepted, accepted_port]
      exact ⟨.setPort .., State.setPort_same ..⟩

/-! ### Refusals at a busy port -/

/-- A command that occupies the slot goes through the judgement of a well-formed frame, whatever it is served by. -/
theorem exec_occupying {c : Instr} {p : Port} {payload : List Byte} (s : State) (h : occupying c = some (p, payload)) :
    exec c s = .next s ∧ c.wf = false ∨ ∃ serve, exec c s = .next (occupy p payload serve s) := by
  cases c <;> cases h
  case unknownCommand code tag =>
    cases hc : commandOfCode code with
    | none =>
      exact .inr ⟨placeResponse p ⟨tag, code, .unknownCommand, []⟩, by simp only [exec, execUnknownCommand, hc]⟩
    | some d => exact .inl ⟨by simp only [exec, execUnknownCommand, hc], by simp [Instr.wf, hc]⟩
  all_goals exact .inr ⟨_, rfl⟩

theorem payload_fits {c : Instr} {p : Port} {payload : List Byte} (hw : c.wf = true) (h : occupying c = some (p, payload)) :
    payload.length ≤ 32 := by
  cases c <;> cases h <;> simp_all [Instr.wf, payloadFits]

/-- A port as a frame refused for its busy slot leaves it (R171, R172). -/
def busyRefusedPort (s : State) (p : Port) (payload : List Byte) : PortState :=
  { shiftedPort s p (4 + payload.length) with
    lastFrame := .refusedBusy
    busyRefusals := addSaturating (s.port p).busyRefusals 1 }

theorem occupy_busy {s : State} {p : Port} {payload : List Byte} (serve : State → State) (hjudges : judgesFrames s p = true)
    (fits : payload.length ≤ 32) (hbusy : (s.port p).slot ≠ .empty) :
    occupy p payload serve s = s.setPort p (busyRefusedPort s p payload) := by
  have hslot : ((shiftOut p (frameLength payload) s).port p).slot = (s.port p).slot := by simp [shiftOut]
  simp only [occupy, hjudges, payloadFits, fits, decide_true, Bool.not_true, Bool.or_self, Bool.false_eq_true, if_false]
  split
  · rename_i he; rw [hslot] at he; exact absurd he hbusy
  · simp [shiftOut_eq_setPort, setLastFrame, State.setPort_setPort, busyRefusedPort, shiftedPort, frameLength]

/-- Settles O11: every command that occupies the slot goes through one judgement, which refuses it where the slot is busy. -/
theorem busyPortRefuses : Obligations.BusyPortRefuses := by
  intro s c p payload hw hc hheld hfetch hbusy
  refine ⟨s.setPort p (busyRefusedPort s p payload), ?_, .setPort .., State.setPort_same ..⟩
  rcases exec_occupying s hc with ⟨_, hbad⟩ | ⟨serve, he⟩
  · simp [hw] at hbad
  · rw [he, occupy_busy serve (judgesFrames_of_noFetch hheld hfetch) (payload_fits hw hc) hbusy]

/-! ### The moments of a FETCH -/

theorem recognise_eq (slot : CommandSlot) (tag : Byte) : recognise slot tag = ⟨tag, heldResponse slot⟩ := by
  cases slot <;> rfl

theorem isDone_iff (slot : CommandSlot) : slot.isDone = true ↔ heldResponse slot ≠ none := by
  cases slot <;> simp [CommandSlot.isDone, heldResponse]

theorem noFetch_cases {s : State} {p : Port} (h : NoFetch s p) :
    (s.port p).transaction = none ∨ ∃ status, (s.port p).transaction = some ⟨status, none⟩ := by
  unfold NoFetch at h
  match hx : (s.port p).transaction with
  | none => exact .inl rfl
  | some ⟨status, f⟩ => rw [hx] at h; exact .inr ⟨status, by simp_all⟩

/-- The FETCH of a transaction that ends is the one recognised earlier, or the one recognised at the end (R175). -/
theorem fetchAtEnd_eq {s : State} {p : Port} {tag : Byte} {held : Option Response}
    (h : (s.port p).transaction.bind Transaction.fetch = some ⟨tag, held⟩ ∨
      (NoFetch s p ∧ held = heldResponse (s.port p).slot)) : fetchAtEnd (s.port p) tag = ⟨tag, held⟩ := by
  rcases h with h | ⟨hno, rfl⟩
  · obtain ⟨x, hx, hf⟩ := Option.bind_eq_some_iff.mp h
    simp [fetchAtEnd, hx, hf]
  · rcases noFetch_cases hno with h | ⟨status, h⟩ <;> simp [fetchAtEnd, h, recognise_eq]

/-- What is shifted out after the four bytes is the frame and then fill bytes, as far as it was clocked (R175). -/
theorem fetchBytes_getElem? (frame : List Byte) {clocked i : Nat} (h : i < clocked / 8) :
    (fetchBytes frame clocked)[i]? = some (frame.getD i 0xFF) := by
  rw [fetchBytes, List.getElem?_take_of_lt h, List.getElem?_append]
  split
  · next hi => simp [hi]
  · next hi =>
    rw [List.getElem?_replicate, if_pos (by omega), List.getD_eq_default _ _ (by omega)]
    rfl

theorem fetchBytes_length (frame : List Byte) (clocked : Nat) : (fetchBytes frame clocked).length = clocked / 8 := by
  simp [fetchBytes]

theorem bitsOf_getElem? (b : Byte) {i : Nat} (h : i < 8) : (bitsOf b)[i]? = some (b.getLsbD (7 - i)) := by
  unfold bitsOf
  interval_cases i <;> rfl

theorem fetchTail_getElem? (frame : List Byte) {clocked i : Nat} (h : i < clocked % 8) :
    (fetchTail frame clocked)[i]? = some ((frame.getD (clocked / 8) 0xFF).getLsbD (7 - i)) := by
  rw [fetchTail, List.getElem?_take_of_lt h, bitsOf_getElem? _ (by omega)]
  rfl

theorem fetchTail_length (frame : List Byte) (clocked : Nat) : (fetchTail frame clocked).length = clocked % 8 := by
  simp [fetchTail, bitsOf]; omega

/-- Settles O12, one clause for each moment of a transaction. -/
theorem fetchShiftsTheResponseOut : Obligations.FetchShiftsTheResponseOut := by
  intro s p tag hheld
  have hexec : ∀ m, exec (.fetch p tag m) s = execFetch p tag m s := fun _ => rfl
  refine ⟨fun hno => ?_, fun status hx => ?_, fun clocked held h => ?_⟩
  · refine ⟨_, ?_, .setPort s p _, State.setPort_same ..⟩
    simp [hexec, execFetch, hheld, openTransaction, noFetch_fetchInProgress hno]
  · refine ⟨_, ?_, .setPort s p _, State.setPort_same ..⟩
    simp [hexec, execFetch, hheld, recogniseFetch, hx, recognise_eq]
  · have hf := fetchAtEnd_eq h
    refine ⟨endFetch p tag clocked s, by simp [hexec, execFetch, hheld], ?_⟩
    simp only [endFetch, hf, if_true]
    refine ⟨.setPort .., ?_⟩
    rw [State.setPort_same]
    refine ⟨fun ⟨hr, hd, hc⟩ => ?_, fun hn => ?_, rfl, ?_, ?_, fun i hi => ?_, fetchTail_length .., fun i hi => ?_⟩
    · rw [if_pos]
      rw [Bool.and_eq_true, Bool.and_eq_true, isDone_iff]
      exact ⟨⟨Option.isSome_iff_ne_none.mpr hr, hd⟩, decide_eq_true hc⟩
    · rw [if_neg]
      rw [Bool.and_eq_true, Bool.and_eq_true, isDone_iff]
      exact fun ⟨⟨hr, hd⟩, hc⟩ => hn ⟨Option.isSome_iff_ne_none.mp hr, hd, of_decide_eq_true hc⟩
    · rw [openingStatus_eq]; rfl
    · simp [fetchBytes_length]; omega
    · have hskip : 4 + i - (openingStatus s p :: List.replicate 3 Config.fillByte).length = i := by simp
      rw [List.getElem?_append_right (by simp), hskip]
      exact fetchBytes_getElem? _ hi
    · exact fetchTail_getElem? _ hi

end Sys2Proof.Machine
end

section
/-! Port-local commands that answer (R111, R157, R177, R178, R181), PORT_RESET and SYNC, the attention lines and the status
byte. -/

namespace Sys2Proof.Machine

/-! ### Change sets -/

theorem noChanges_iff (v : Vector CauseSet 96) : noChanges v = true ↔ ∀ i : SlotNo, v[i] = 0 := by
  simp only [noChanges, List.all_eq_true, decide_eq_true_eq, allSlots, List.mem_finRange, forall_const]
  rfl

theorem noChanges_eq_false_iff (v : Vector CauseSet 96) : noChanges v = false ↔ ∃ i : SlotNo, v[i] ≠ 0 := by
  rw [← Bool.not_eq_true, noChanges_iff, not_forall]

/-- Removing entries clears their causes and leaves every other entry (R111). -/
theorem removeEntries_getElem (is : List SlotNo) (v : Vector CauseSet 96) (i : SlotNo) :
    (removeEntries is v)[i] = if i ∈ is then 0 else v[i] := by
  unfold removeEntries
  induction is generalizing v with
  | nil => simp
  | cons j is ih =>
    rw [List.foldl_cons, ih]
    by_cases hi : i ∈ is
    · simp [hi]
    · have hset : (v.set j noCauses)[i] = if i = j then 0 else v[i] := by
        simp only [Fin.getElem_fin, Vector.getElem_set, noCauses, Fin.ext_iff, eq_comm]
      simp only [hi, if_false, hset, List.mem_cons, or_false]

/-- The bytes of an entry: the slot, its incarnation, and its state with the causes (R112, 11.3). -/
theorem entryBytes_eq (s : State) (changes : Vector CauseSet 96) (i : SlotNo) :
    entryBytes s changes i = changeEntry s changes[i] i := by
  unfold entryBytes changeEntry
  cases s.slot i with
  | vacant r => simp [countByte, reportedIncarnation, slotStateCode]
  | quarantined => rfl
  | live z => cases h : z.occupancy <;> simp [countByte, reportedIncarnation, slotStateCode, occupancyCode, h]

/-! ### Conditions -/

/-- The four conditions of R180, in the order of their bits. -/
def conditionBits (s : State) (i : Fin 4) : Bool :=
  match i with
  | 0 => axisStaleHolds s
  | 1 => axisLostHolds s
  | 2 => storeExhaustedHolds s
  | 3 => quarantineHolds s

theorem bothWorn_iff (e : ItemEntry) : e.bothWorn = true ↔ ∀ c : Copy, e.copies[c] = .worn := by
  simp [ItemEntry.bothWorn, CopyState.isWorn, Fin.forall_fin_two]

theorem storeExhaustedHolds_iff (s : State) :
    storeExhaustedHolds s = true ↔ ∃ k, ∀ c : Copy, (s.item k).copies[c] = .worn := by
  simp only [storeExhaustedHolds, List.any_eq_true, allItems, List.mem_finRange, true_and, bothWorn_iff]

theorem quarantinedSlots_pos_iff (s : State) : 0 < quarantinedSlots s ↔ ∃ i, s.slot i = .quarantined := by
  simp [quarantinedSlots, List.length_pos_iff_exists_mem, allSlots]

theorem conditionBits_iff (s : State) (i : Fin 4) : conditionBits s i = true ↔ ConditionHolds s i := by
  match i with
  | 0 => simp [conditionBits, ConditionHolds, axisStaleHolds, allAxes]
  | 1 => simp [conditionBits, ConditionHolds, axisLostHolds, allAxes]
  | 2 => exact storeExhaustedHolds_iff s
  | 3 => simp [conditionBits, ConditionHolds, quarantineHolds, quarantinedSlots_pos_iff]

/-- A byte that is built from four bits holds them, and no more (11.3). -/
theorem fourBits_getLsbD (a b c d : Bool) :
    let x : Byte := (if a then 1 else 0) ||| (if b then 2 else 0) ||| (if c then 4 else 0) ||| (if d then 8 else 0)
    (x.getLsbD 0 = a ∧ x.getLsbD 1 = b ∧ x.getLsbD 2 = c ∧ x.getLsbD 3 = d) ∧ x.toNat < 16 := by
  revert a b c d; decide

theorem conditionByte_getLsbD (s : State) (i : Fin 4) : (conditionByte s).getLsbD i = conditionBits s i := by
  obtain ⟨⟨h0, h1, h2, h3⟩, _⟩ :=
    fourBits_getLsbD (axisStaleHolds s) (axisLostHolds s) (storeExhaustedHolds s) (quarantineHolds s)
  match i with
  | 0 => exact h0
  | 1 => exact h1
  | 2 => exact h2
  | 3 => exact h3

theorem conditionByte_lt (s : State) : (conditionByte s).toNat < 16 := (fourBits_getLsbD _ _ _ _).2

/-- The condition flags are the four highest bits of a fault mask (11.2). -/
theorem flagBits_getLsbD (a b c d : Bool) :
    let x : FlagSet := (if a then Flag.axisStale.mask else 0) ||| (if b then Flag.axisLost.mask else 0) |||
      (if c then Flag.storeExhausted.mask else 0) ||| (if d then Flag.quarantine.mask else 0)
    (∀ i : Fin 7, x.getLsbD i = false) ∧ x.getLsbD 7 = a ∧ x.getLsbD 8 = b ∧ x.getLsbD 9 = c ∧ x.getLsbD 10 = d := by
  revert a b c d; decide

theorem conditionFlags_event (s : State) (i : Fin 7) : (conditionFlags s).getLsbD i = false :=
  (flagBits_getLsbD _ _ _ _).1 i

theorem conditionFlags_condition (s : State) (i : Fin 4) : (conditionFlags s).getLsbD (7 + i.val) = conditionBits s i := by
  obtain ⟨_, h0, h1, h2, h3⟩ :=
    flagBits_getLsbD (axisStaleHolds s) (axisLostHolds s) (storeExhaustedHolds s) (quarantineHolds s)
  match i with
  | 0 => exact h0
  | 1 => exact h1
  | 2 => exact h2
  | 3 => exact h3

/-- The eleven flags in two bytes (11.2, 11.3). -/
theorem halfBytes_flags (f : FlagSet) :
    halfBytes (f.setWidth 16) = [(f.extractLsb' 8 3).setWidth 8, f.setWidth 8] := by
  have high : (f.setWidth 16).extractLsb' 8 8 = (f.extractLsb' 8 3).setWidth 8 := by
    ext i hi
    simp only [BitVec.getElem_extractLsb', BitVec.getLsbD_setWidth, BitVec.getElem_setWidth, BitVec.getLsbD_extractLsb']
    by_cases h3 : i < 3
    · simp [h3]; omega
    · simp [h3, show 11 ≤ 8 + i by omega]
  have low : (f.setWidth 16).extractLsb' 0 8 = f.setWidth 8 := by
    ext i hi
    simp only [BitVec.getElem_extractLsb', BitVec.getLsbD_setWidth, BitVec.getElem_setWidth]
    simp; omega
  rw [halfBytes, high, low]

/-- Settles O33: both commands take what they read from the port and place it in the response. -/
theorem takeChangesAndReadFaultsEmptyTheirSets : Obligations.TakeChangesAndReadFaultsEmptyTheirSets := by
  refine ⟨fun s p tag h => ?_, fun s p tag h => ?_⟩
  · have hexec : exec (.takeChanges p tag []) s = .next (serveTakeChanges p tag (accepted s p [])) := by
      change Host.Outcome.next (occupy p [] (serveTakeChanges p tag) s) = _
      rw [occupy_accepted _ h (by simp)]
    refine ⟨_, hexec, ?_⟩
    have hbytes : entryBytes (accepted s p []) (s.port p).changes = fun i => changeEntry s (s.port p).changes[i] i :=
      funext (entryBytes_eq s _)
    simp only [serveTakeChanges, answer, placeResponse, accepted_port, setPort_accepted, State.setPort_setPort,
      State.setPort_same]
    refine ⟨.setPort .., fun i => removeEntries_getElem .., ?_⟩
    have hleft (l : List SlotNo) : l.length - (l.take 12).length = l.length - 12 := by simp; omega
    simp only [acceptedPort, Config.entriesPerTake, hleft, hbytes]
    rfl
  · have hexec : exec (.readFaults p tag []) s = .next (serveReadFaults p tag (accepted s p [])) := by
      change Host.Outcome.next (occupy p [] (serveReadFaults p tag) s) = _
      rw [occupy_accepted _ h (by simp)]
    refine ⟨_, conditionByte s, hexec, ?_⟩
    have hfaults : (acceptedPort s p [] .empty).faults = (s.port p).faults := rfl
    have hflags : conditionFlags (accepted s p []) = conditionFlags s := rfl
    have hbyte : conditionByte (accepted s p []) = conditionByte s := rfl
    simp only [serveReadFaults, answer, placeResponse, accepted_port, setPort_accepted, State.setPort_setPort,
      State.setPort_same, hfaults, hflags, hbyte, halfBytes_flags]
    refine ⟨.setPort .., fun i => ?_, conditionByte_lt s, fun i => ?_, fun i => ?_, rfl⟩
    · rw [conditionByte_getLsbD, conditionBits_iff]
    · rw [BitVec.getLsbD_and, conditionFlags_event, Bool.and_false]
    · rw [BitVec.getLsbD_and, conditionFlags_condition, Bool.and_eq_true, conditionBits_iff]

/-! ### Status commands -/

theorem axisOf_ofNat (n : Axis) : axisOf (BitVec.ofNat 8 n.val) = some n := by
  revert n; decide

theorem yesNo_isSome {α : Type} (x : Option α) [Decidable (x = none)] : yesNo x.isSome = if x = none then 0 else 1 := by
  cases x <;> simp [yesNo]

theorem nibbleByte_eq (x : Option (BitVec 4)) : nibbleByte x = (x.map fun b => b.setWidth 8).getD 0xFF := by
  cases x <;> rfl

theorem lineRecordBytes_eq (r : LineRecord) : lineRecordBytes r = lineBytes r := by
  unfold lineRecordBytes lineBytes drivingBytes yesNo
  cases r.driving <;> cases r.active <;> rfl

/-- The WORN copies are counted alike item by item (R134). -/
theorem wornCopies_eq (s : State) :
    wornCopies s = (allItems.map fun k =>
      ((List.finRange 2).filter fun c => decide ((s.item k).copies[c] = .worn)).length).sum := by
  unfold wornCopies
  congr 2
  funext k
  have h2 : List.finRange 2 = [0, 1] := rfl
  by_cases h0 : (s.item k).copies[0] = .worn <;> by_cases h1 : (s.item k).copies[1] = .worn <;>
    simp [h2, CopyState.isWorn, h0, h1]

theorem notDurableItems_eq (s : State) :
    notDurableItems s = (allItems.filter fun k =>
      decide ((s.item k).copies[0] = .worn ∧ (s.item k).copies[1] = .worn)).length := by
  simp [notDurableItems, ItemEntry.bothWorn, CopyState.isWorn, Bool.decide_and]

theorem programInFlight_eq (s : State) : programInFlight s = s.engine.hasProgram := by
  unfold programInFlight; cases s.engine <;> rfl

/-- The frame counters are no part of what an accepted frame changes. -/
theorem deviceRecord_accepted (s : State) (p : Port) (payload : List Byte) :
    deviceRecord (accepted s p payload) = deviceRecord s := by
  cases p <;> rfl

/-- Bits 0 and 1 of a byte are set apart, and added. -/
theorem twoBits_or_eq_add (a b : Bool) :
    ((if a then 1 else 0) ||| (if b then 2 else 0) : Byte) = (if a then 1 else 0) + (if b then 2 else 0) := by
  revert a b; decide

theorem fourBits_or_eq_add (a b c : Bool) :
    (1 ||| (if a then 2 else 0) ||| (if b then 4 else 0) ||| (if c then 8 else 0) : Byte) =
      1 + (if a then 2 else 0) + (if b then 4 else 0) + (if c then 8 else 0) := by
  revert a b c; decide

theorem firstFaultBytes_some (f : FirstFault) :
    firstFaultBytes (some f) =
      [1 + (if f.uncorrectable then 2 else 0) + (if f.generation = none then 0 else 4) + (if f.row.val % 2 = 1 then 8 else 0),
       BitVec.ofNat 8 f.row.val, BitVec.ofNat 8 (f.row.val / 2), f.generation.getD 0] ++
      halfBytes (BitVec.ofNat 16 f.pass) := by
  have hcopy : (copyOfRow f.row = 1) ↔ f.row.val % 2 = 1 := by
    simp [copyOfRow, Fin.ext_iff]
  have hgen : (if f.generation.isSome then (4 : Byte) else 0) = if f.generation = none then 0 else 4 := by
    cases f.generation <;> rfl
  have h := fourBits_or_eq_add f.uncorrectable f.generation.isSome (decide (f.row.val % 2 = 1))
  simp only [decide_eq_true_eq] at h
  simp only [firstFaultBytes, hcopy, h, countByte, itemOfRow]
  rw [hgen]

/-- Settles O34: each of the four is served by an answer alone. -/
theorem statusCommandsAnswer : Obligations.StatusCommandsAnswer := by
  intro s p tag h
  refine ⟨fun n => ?_, ?_, ?_, ?_⟩
  · refine answered_of_occupy (serve := serveAxisStatus p tag [BitVec.ofNat 8 n.val]) h (by simp) ?_
    have htracker : (accepted s p [BitVec.ofNat 8 n.val]).tracker n = s.tracker n := rfl
    simp only [serveAxisStatus, parseAxis, axisOf_ofNat, htracker, axisRecord, yesNo_isSome, nibbleByte_eq]
    cases (s.tracker n).position <;> rfl
  · refine answered_of_occupy (serve := serveLineStatus p tag) h (by simp) ?_
    simp only [serveLineStatus, lineRecordBytes_eq]
    rfl
  · refine answered_of_occupy (serve := serveDeviceStatus p tag) h (by simp) ?_
    simp only [serveDeviceStatus]
    rw [deviceRecord_accepted]
    simp only [deviceRecord, wornCopies_eq, notDurableItems_eq,
      programInFlight_eq, frameCounterBytes, yesNo, quarantinedSlots, List.append_assoc]
    cases s.device <;> rfl
  · refine answered_of_occupy (serve := serveSweepStatus p tag) h (by simp) ?_
    have hsweep : (accepted s p []).sweep = s.sweep := rfl
    simp only [serveSweepStatus, hsweep, sweepRecord, twoBits_or_eq_add]
    cases s.sweep.first with
    | none => rfl
    | some f => simp only [firstFaultBytes_some]; rfl

/-! ### Refused port-local commands -/

/-- A command that takes no arguments is refused where its payload holds any (R177). -/
theorem withoutArguments_refuses {p : Port} {c : LocalCommand} {tag : Byte} {payload : List Byte} {serve : State → State}
    {s : State} (h : payload ≠ []) : withoutArguments p c tag payload serve s = answer p c tag .badArgs [] s := by
  cases payload with
  | nil => exact absurd rfl h
  | cons b rest => rfl

theorem whenRunning_starting {p : Port} {c : LocalCommand} {tag : Byte} {serve : State → State} {s : State}
    (h : s.device = .starting) : whenRunning p c tag serve s = answer p c tag .notReady [] s := by
  simp [whenRunning, h]

theorem whenRunning_running {p : Port} {c : LocalCommand} {tag : Byte} {serve : State → State} {s : State}
    (h : s.device = .running) : whenRunning p c tag serve s = serve s := by
  simp [whenRunning, h]

/-- Settles O35: each refusal is the answer that serves its command. -/
theorem portLocalCommandsAreRefused : Obligations.PortLocalCommandsAreRefused := by
  intro s p tag payload m h fits
  have hdevice : (accepted s p payload).device = s.device := rfl
  refine ⟨fun hd c hc => ?_, fun hne c hc => ?_, fun hparse => ?_, fun hd => ⟨fun hne => ?_, fun hparse => ?_,
    fun hparse hsweep => ?_, fun hparse => ?_, fun n turn hparse hstate => ?_⟩⟩
  · fin_cases hc <;> exact answered_of_occupy h fits (whenRunning_starting (hdevice.trans hd))
  · fin_cases hc <;> exact answered_of_occupy h fits (withoutArguments_refuses hne)
  · exact answered_of_occupy h fits (by simp only [serveAxisStatus, hparse])
  · exact answered_of_occupy h fits ((whenRunning_running (hdevice.trans hd)).trans (withoutArguments_refuses hne))
  · exact answered_of_occupy h fits ((whenRunning_running (hdevice.trans hd)).trans (by simp only [serveSweepStart, hparse]))
  · refine answered_of_occupy h fits ((whenRunning_running (hdevice.trans hd)).trans ?_)
    obtain ⟨⟨r, loop, stop⟩, hp⟩ := Option.ne_none_iff_exists'.mp hparse
    have hs : (accepted s p payload).sweep.state = .running := hsweep
    simp only [serveSweepStart, hp, hs, if_true]
  · exact answered_of_occupy h fits ((whenRunning_running (hdevice.trans hd)).trans (by simp only [serveResync, hparse]))
  · have hs : ((accepted s p payload).tracker n).state = .disabled := hstate
    exact answered_of_occupy h fits
      ((whenRunning_running (hdevice.trans hd)).trans (by simp only [serveResync, hparse, hs, if_true]))

/-! ### SYNC and PORT_RESET -/

/-- Settles O37: what is outstanding is marked, and the slot waits for it. -/
theorem syncMarksTheQueue : Obligations.SyncMarksTheQueue := by
  intro s p tag h hd
  have hserve : ∀ t, whenRunning p .sync tag (withoutArguments p .sync tag [] (serveSync p tag)) (accepted s p []) = t ↔
      serveSync p tag (accepted s p []) = t := fun t => by rw [whenRunning_running (show (accepted s p []).device = _ from hd)]; rfl
  have hqueue : (accepted s p []).queue = s.queue := rfl
  have hengine : (accepted s p []).engine = s.engine := rfl
  refine ⟨fun hq he => ?_, fun hbusy => ?_⟩
  · exact answered_of_occupy h (by simp) ((hserve _).mpr (by simp only [serveSync, hqueue, hengine, hq, he, and_self, if_true]))
  · have hidle : ¬(s.queue = [] ∧ s.engine = .idle) := by tauto
    have hexec : exec (.sync p tag []) s = .next (serveSync p tag (accepted s p [])) := by
      change Host.Outcome.next (occupy p [] _ s) = _
      rw [occupy_accepted _ h (by simp), (hserve _).mpr rfl]
    refine ⟨_, hexec, ?_⟩
    simp only [serveSync, hqueue, hengine, hidle, if_false]
    refine ⟨by simp [markAll, acceptedPort], by simp [markAll, accepted], by simp [markAll, accepted], ?_,
      ?_, ?_, ?_, ?_, ?_, by simp [markAll, accepted], by simp [markAll, accepted], ?_, ?_⟩
    rotate_left
    iterate 7 (constructor <;> simp [markAll, accepted])
    simp only [markAll, State.setPort_engine, State.setEngine_engine, hengine]
    cases s.engine <;> rfl

/-- The state a PORT_RESET gives its port (R182). -/
def resetPort (s : State) (p : Port) : PortState :=
  { slot := .empty, lastFrame := .none, formatRefusals := 0, busyRefusals := 0, changes := Vector.replicate 96 noCauses,
    faults := 0, sync := ⟨false, 0⟩, transaction := none
    shifted := openingByte s p :: List.replicate 3 Config.fillByte, shiftedTail := [] }

theorem attention_of_resetPort {t : State} {s : State} {p : Port} (h : t.port p = resetPort s p) : attention t p = false := by
  have hno : noChanges (Vector.replicate 96 noCauses) = true := by
    rw [noChanges_iff]
    intro i
    simp only [Fin.getElem_fin, Vector.getElem_replicate]
    rfl
  simp [attention, h, resetPort, CommandSlot.isDone, hno]

/-- A running grant goes on without its port: the command is kept as the one that runs, and nothing else of the part changes
(R174). -/
theorem orphanGrant_frame (p : Port) (s : State) : ∃ g x, orphanGrant p s = (s.setRunning g).setPointer x ∧
    ((orphanGrant p s).running = s.running ∧ (orphanGrant p s).pointer = s.pointer ∨
      ∃ c tag payload, s.device = .running ∧ s.held = false ∧ s.running = none ∧ (s.port p).slot = .queued c tag payload ∧
        (orphanGrant p s).running = some ⟨p, c, payload⟩ ∧ (orphanGrant p s).pointer = classOf p) := by
  unfold orphanGrant
  split
  · next h =>
    rw [State.inService, Bool.and_eq_true, Bool.and_eq_true, decide_eq_true_eq, Bool.not_eq_true'] at h
    obtain ⟨⟨hd, hheld⟩, hrun⟩ := h
    split
    · next c tag payload hslot =>
      exact ⟨_, _, rfl, .inr ⟨c, tag, payload, hd, hheld, Option.isNone_iff_eq_none.mp hrun, hslot, rfl, rfl⟩⟩
    · exact ⟨s.running, s.pointer, rfl, .inl ⟨rfl, rfl⟩⟩
  · exact ⟨s.running, s.pointer, rfl, .inl ⟨rfl, rfl⟩⟩

theorem orphanGrant_queued {p : Port} {s : State} {c : TableCommand} {tag : Byte} {payload : List Byte}
    (hd : s.device = .running) (hheld : s.held = false) (hrun : s.running = none)
    (hslot : (s.port p).slot = .queued c tag payload) :
    orphanGrant p s = (s.setRunning (some ⟨p, c, payload⟩)).setPointer (classOf p) := by
  simp [orphanGrant, State.inService, hd, hheld, hrun, hslot]

/-- The part after a PORT_RESET: the grant that runs goes on where the event says so, the port's marks go, and the port is
emptied (R133, R174, R182). -/
theorem exec_portReset {s : State} {p : Port} (tag : Byte) (duringGrant : Bool) (hjudges : judgesFrames s p = true) :
    exec (.portReset p tag duringGrant) s =
      .next ((markAll p false (if duringGrant then orphanGrant p s else s)).setPort p (resetPort s p)) := by
  change execPortReset p tag duringGrant s = _
  simp only [execPortReset, hjudges, if_true, openingStatus_eq]
  rfl

/-- Settles O13: of the arbiter a PORT_RESET changes what a grant that runs on asks for, and of the rest the port and its
marks. -/
theorem portResetEmptiesThePort : Obligations.PortResetEmptiesThePort := by
  intro s p tag duringGrant hheld hfetch
  refine ⟨_, exec_portReset tag duringGrant (judgesFrames_of_noFetch hheld hfetch), ?_⟩
  obtain ⟨g, x, hu, harb⟩ : ∃ g x, (if duringGrant then orphanGrant p s else s) = (s.setRunning g).setPointer x ∧
      (duringGrant = false → g = s.running ∧ x = s.pointer) := by
    cases duringGrant
    · exact ⟨s.running, s.pointer, rfl, fun _ => ⟨rfl, rfl⟩⟩
    · obtain ⟨g, x, h, _⟩ := orphanGrant_frame p s
      exact ⟨g, x, h, nofun⟩
  have horphan : duringGrant = true → orphanGrant p s = (s.setRunning g).setPointer x := fun h => by simpa [h] using hu
  rw [hu]
  refine ⟨State.setPort_same .., State.setPort_other .., attention_of_resetPort (State.setPort_same ..), by simp [markAll],
    ?_, ?_, ?_, ?_, ?_, ?_, ?_, by simp [markAll], by simp [markAll], ?_, ?_⟩
  rotate_left 3
  iterate 6 (constructor <;> simp [markAll])
  · simp only [markAll, State.setPort_engine, State.setEngine_engine, State.setPointer_engine, State.setRunning_engine]
    cases s.engine <;> rfl
  · intro c tag' payload hduring hd hrun hslot
    have h := (horphan hduring).symm.trans (orphanGrant_queued hd hheld hrun hslot)
    exact ⟨congrArg State.running h, congrArg State.pointer h⟩
  · intro hnot
    suffices h : g = s.running ∧ x = s.pointer from ⟨h.2, h.1⟩
    by_cases hduring : duringGrant = true
    · obtain ⟨_, _, _, ⟨hrun, hpointer⟩ | ⟨c, tag', payload, hd, _, hnone, hslot, _⟩⟩ := orphanGrant_frame p s
      · rw [horphan hduring] at hrun hpointer; exact ⟨hrun, hpointer⟩
      · rcases hnot with h | h | h | h
        · simp [hduring] at h
        · simp [hd] at h
        · exact absurd hnone h
        · exact absurd hslot (h _ _ _)
    · exact harb (by simpa using hduring)

/-! ### Attention and the status byte -/

theorem flags_and_ne_zero_iff (f m : FlagSet) : f &&& m ≠ 0 ↔ ∃ i : Fin 11, f.getLsbD i = true ∧ m.getLsbD i = true := by
  rw [← not_iff_not, not_not, not_exists]
  constructor
  · intro h i ⟨hf, hm⟩
    have hand : (f &&& m).getLsbD i = true := by rw [BitVec.getLsbD_and, hf, hm]; rfl
    simp [h] at hand
  · intro h
    refine BitVec.eq_of_getLsbD_eq fun i hi => ?_
    simpa [BitVec.getLsbD_and] using h ⟨i, hi⟩

/-- The fields of the status byte stand beside each other (R169, 11.1). -/
theorem statusFields (starting changes faults att : Bool) (slot frame : BitVec 2) :
    let x : Byte := (if starting then 0x80 else 0) ||| (slot.setWidth 8 <<< 5) ||| (frame.setWidth 8 <<< 3) |||
      (if changes then 4 else 0) ||| (if faults then 2 else 0) ||| (if att then 1 else 0)
    x.getLsbD 7 = starting ∧ x.extractLsb' 5 2 = slot ∧ x.extractLsb' 3 2 = frame ∧ x.getLsbD 2 = changes ∧
      x.getLsbD 1 = faults ∧ x.getLsbD 0 = att := by
  revert starting changes faults att slot frame; decide

theorem slotCode_eq (slot : CommandSlot) : slot.code = (match slot with
    | .empty => (0 : BitVec 2)
    | .queued _ _ _ => 1
    | .waiting _ => 2
    | .done _ => 3).setWidth 8 := by
  cases slot <;> rfl

theorem frameCode_eq (frame : LastFrame) : frame.code = (match frame with
    | .none => (0 : BitVec 2)
    | .accepted => 1
    | .refusedBusy => 2
    | .refusedFormat => 3).setWidth 8 := by
  cases frame <;> rfl

theorem isDone_iff_exists (slot : CommandSlot) : slot.isDone = true ↔ ∃ r, slot = .done r := by
  cases slot <;> simp [CommandSlot.isDone]

theorem attention_iff (s : State) (p : Port) : attention s p = true ↔
    ((∃ r, (s.port p).slot = .done r) ∧ (portConfigInForce s p).attentionOnDone = true) ∨
    ((∃ i : SlotNo, (s.port p).changes[i] ≠ 0) ∧ (portConfigInForce s p).subscription ≠ .none) ∨
    ∃ i : Fin 11, (s.port p).faults.getLsbD i = true ∧ (portConfigInForce s p).mask.getLsbD i = true := by
  simp only [attention, Bool.or_eq_true, Bool.and_eq_true, isDone_iff_exists, Bool.not_eq_true', noChanges_eq_false_iff,
    decide_eq_true_eq, flags_and_ne_zero_iff, or_assoc]

/-- Settles O52: the attention lines by their three causes, and the status byte by its fields. -/
theorem attentionAndTheStatusByte : Obligations.AttentionAndTheStatusByte := by
  intro s p
  have hbyte : statusByte s p = (if decide (s.device = .starting) then 0x80 else 0) ||| ((s.port p).slot.code <<< 5) |||
      ((s.port p).lastFrame.code <<< 3) ||| (if !noChanges (s.port p).changes then 4 else 0) |||
      (if decide ((s.port p).faults ≠ 0) then 2 else 0) ||| (if attention s p then 1 else 0) := by
    have hchanges : (if noChanges (s.port p).changes then 0 else 4 : Byte) = if !noChanges (s.port p).changes then 4 else 0 := by
      cases noChanges (s.port p).changes <;> rfl
    have hfaults : (if (s.port p).faults = 0 then 0 else 2 : Byte) = if decide ((s.port p).faults ≠ 0) then 2 else 0 := by
      by_cases h : (s.port p).faults = 0 <;> simp [h]
    simp only [statusByte, hchanges, hfaults, decide_eq_true_eq]
  rw [slotCode_eq, frameCode_eq] at hbyte
  have hfields := statusFields (decide (s.device = .starting)) (!noChanges (s.port p).changes)
    (decide ((s.port p).faults ≠ 0)) (attention s p) (match (s.port p).slot with
      | .empty => 0
      | .queued _ _ _ => 1
      | .waiting _ => 2
      | .done _ => 3) (match (s.port p).lastFrame with
      | .none => 0
      | .accepted => 1
      | .refusedBusy => 2
      | .refusedFormat => 3)
  simp only [← hbyte] at hfields
  obtain ⟨h7, h5, h3, h2, h1, h0⟩ := hfields
  refine ⟨attention_iff s p, ?_, h5, h3, ?_, ?_, h0⟩
  · rw [h7, decide_eq_true_eq]
  · rw [h2, Bool.not_eq_true', noChanges_eq_false_iff]
  · rw [h1, decide_eq_true_eq]

end Sys2Proof.Machine
end

section
/-! What does not come about (R14, R139, log entry 1), full resets, and the load's decision of an item. -/

namespace Sys2Proof.Machine

/-! ### Grants to a port -/

/-- The work of a table command in its grant. -/
def actOf : TableCommand → Port → List Byte → State → Ending
  | .create => actCreate | .amend => actAmend | .retire => actRetire | .arm => actArm | .disarm => actDisarm
  | .clear => actClear | .transfer => actTransfer | .releaseAll => actReleaseAll | .reclaim => actReclaim
  | .readZone => actReadZone | .find => actFind | .list => actList | .setAxis => actSetAxis | .setLines => actSetLines
  | .setPorts => actSetPorts | .freeze => actFreeze | .readConfig => actReadConfig

theorem exec_grantOf (p : Port) (c : TableCommand) (s : State) :
    exec (grantOf p c) s = .next (tableGrant p c (actOf c) s) := by
  cases c <;> rfl

/-- A grant to a port whose claim is not the one due does not come about (log entry 1). -/
theorem tableGrant_not_due {s : State} {p : Port} {c : TableCommand} (act : Port → List Byte → State → Ending)
    (hrun : s.running = none) (hnot : ∀ tag payload, ¬Due s p c tag payload) : tableGrant p c act s = s := by
  unfold tableGrant
  split
  · next g hg =>
    split
    · next hc =>
      simp only [granted, hrun] at hg
      split at hg
      · next hnext =>
        split at hg
        · next hslot => cases hg; subst hc; exact absurd ⟨hrun, hnext, hslot⟩ (hnot _ _)
        · cases hg
      · cases hg
    · rfl
  · rfl

/-! ### A part that takes nothing -/

theorem nextClass_eq_some_service {s : State} {x : Claimant} (h : nextClass s = some x) :
    s.device = .running ∧ s.held = false ∧ s.running = none := by
  unfold nextClass at h
  split at h
  · next hs => simpa [State.inService, and_assoc] using hs
  · cases h

theorem tableGrant_held {s : State} {p : Port} {c : TableCommand} (act : Port → List Byte → State → Ending)
    (hrun : s.running = none) (hheld : s.held = true) : tableGrant p c act s = s :=
  tableGrant_not_due act hrun fun _ _ h => by simpa [hheld] using (nextClass_eq_some_service h.next).2.1

theorem evaluatorGrant_held {s : State} {w : WorkItem} (act : State → Work) (hheld : s.held = true) :
    evaluatorGrant w act s = s :=
  evaluatorGrant_not_due act fun h => by simpa [hheld] using (nextClass_eq_some_service h.1).2.1

theorem judgesFrames_held {s : State} {p : Port} (hheld : s.held = true) : judgesFrames s p = false := by
  simp [judgesFrames, hheld]

theorem inService_held {s : State} (hheld : s.held = true) : s.inService = false := by
  simp [State.inService, hheld]

/-- A command that occupies the slot does not come about at a port that judges no frames. -/
theorem exec_occupying_unjudged {c : Instr} {p : Port} {payload : List Byte} {s : State}
    (hc : occupying c = some (p, payload)) (h : judgesFrames s p = false) : exec c s = .next s := by
  rcases exec_occupying s hc with ⟨he, _⟩ | ⟨serve, he⟩
  · exact he
  · rw [he]; simp [occupy, h]

/-- Settles O5: each row of the table looks for a part that is not held, but for the rows of the array, which rests while the
device is STARTING. -/
theorem heldPartTakesNothing : Obligations.HeldPartTakesNothing := by
  intro s c hs hheld hhold hreset
  have hstart := hs.device.hold hheld
  have hrun := (hs.device.rests hstart).running
  obtain ⟨_, harray⟩ := hs.store.starting hstart
  have hjudges (p : Port) : judgesFrames s p = false := judgesFrames_held hheld
  have hoccupy : ∀ p payload, occupying c = some (p, payload) → exec c s = .next s :=
    fun p payload hc => exec_occupying_unjudged hc (hjudges p)
  have hgrant : ∀ p d, c = grantOf p d → exec c s = .next s := fun p d hc => by
    rw [hc, exec_grantOf, tableGrant_held _ hrun hheld]
  have hevaluator (w : WorkItem) (act : State → Work) := evaluatorGrant_held (w := w) act hheld
  cases c
  case fullReset cause tear => exact absurd rfl (hreset cause tear)
  case holdEnd => exact absurd rfl hhold
  case unknownCommand | tableCommandAccept | takeChanges | readFaults | axisStatus | lineStatus | deviceStatus | sweepStart |
      sweepStop | sweepStatus | sync | resync => exact hoccupy _ _ rfl
  case create p => exact hgrant p .create rfl
  case amend p => exact hgrant p .amend rfl
  case retire p => exact hgrant p .retire rfl
  case arm p => exact hgrant p .arm rfl
  case disarm p => exact hgrant p .disarm rfl
  case clear p => exact hgrant p .clear rfl
  case transfer p => exact hgrant p .transfer rfl
  case releaseAll p => exact hgrant p .releaseAll rfl
  case reclaim p => exact hgrant p .reclaim rfl
  case readZone p => exact hgrant p .readZone rfl
  case find p => exact hgrant p .find rfl
  case list p => exact hgrant p .list rfl
  case setAxis p => exact hgrant p .setAxis rfl
  case setLines p => exact hgrant p .setLines rfl
  case setPorts p => exact hgrant p .setPorts rfl
  case freeze p => exact hgrant p .freeze rfl
  case readConfig p => exact hgrant p .readConfig rfl
  case pass | dwellExpiry | axisUnsure | axisSure => exact congrArg _ (hevaluator _ _)
  case refusedFormat | nop | portReset | restart =>
    simp [exec, execRefusedFormat, execNop, execPortReset, execRestart, hjudges]
  case fetch => simp [exec, execFetch, hheld]
  case loadRowRead | moveToRunning => simp [exec, execLoadRowRead, execMoveToRunning, hheld]
  case sampleFrame | stalenessExpiry => simp [exec, execSampleFrame, execStalenessExpiry, inService_held hheld]
  case dwellTimerExpiry i m =>
    simp only [exec, execDwellTimerExpiry, inService_held hheld]
    split <;> simp
  case storeGrant =>
    have hnext : nextClass s ≠ some .store := fun h => by simpa [hheld] using (nextClass_eq_some_service h).2.1
    simp [exec, execStoreGrant, hnext]
  case programVerify | sweepRead => simp [exec, execProgramVerify, execSweepRead, harray]

/-! ### Events that are not due -/

theorem fetchInProgress_of_bind {s : State} {p : Port} {f : RecognisedFetch}
    (h : (s.port p).transaction.bind Transaction.fetch = some f) : fetchInProgress s p = true := by
  obtain ⟨x, hx, hf⟩ := Option.bind_eq_some_iff.mp h
  simp [fetchInProgress, hx, hf]

theorem evaluatorGrant_of_not_due {s : State} {w : WorkItem} (act : State → Work) (h : ¬EvaluatorDue s w) :
    evaluatorGrant w act s = s :=
  evaluatorGrant_not_due act fun ⟨hnext, hitem⟩ => h ⟨hnext, hitem⟩

/-- A fourth byte arrives where a transaction awaits one alone (R175, log entry 23). -/
theorem recogniseFetch_unawaited {s : State} {p : Port} {tag : Byte}
    (h : ∀ status, (s.port p).transaction ≠ some ⟨status, none⟩) : recogniseFetch p tag s = s := by
  unfold recogniseFetch
  dsimp only
  split
  · next status hx => exact absurd hx (h status)
  · rfl

theorem endFetch_other_tag {s : State} {p : Port} {f : RecognisedFetch} {tag : Byte} (clocked : Nat)
    (hf : (s.port p).transaction.bind Transaction.fetch = some f) (htag : tag ≠ f.tag) : endFetch p tag clocked s = s := by
  obtain ⟨x, hx, hxf⟩ := Option.bind_eq_some_iff.mp hf
  have hend : fetchAtEnd (s.port p) tag = f := by simp [fetchAtEnd, hx, hxf]
  have hne : ¬f.tag = tag := fun h => htag h.symm
  simp only [endFetch, hend, hne, if_false]

/-- Settles O17: each event looks first for what makes it due. -/
theorem eventsThatAreNotDueChangeNothing : Obligations.EventsThatAreNotDueChangeNothing := by
  refine ⟨fun s p c hrun hnot => ?_, fun s n h => ?_, fun s n h => ?_, fun s n h => ?_, fun s i h => ?_, fun s i m h => ?_,
    fun s n m h => ?_, fun s h => ?_, fun s r h => ?_, fun s d h => ?_, fun s d h => ?_, fun s h => ?_, fun s p tag h => ?_,
    fun s p f tag hf => ⟨fun c payload hc => ?_, fun bytes => ?_, ?_, fun d => ?_, fun tear => ?_, ?_, fun htag clocked => ?_⟩⟩
  · rw [exec_grantOf, tableGrant_not_due _ hrun hnot]
  · exact congrArg _ (evaluatorGrant_of_not_due _ h)
  · exact congrArg _ (evaluatorGrant_of_not_due _ h)
  · exact congrArg _ (evaluatorGrant_of_not_due _ h)
  · exact congrArg _ (evaluatorGrant_of_not_due _ h)
  · simp only [exec, execDwellTimerExpiry]
    split
    · next d hd => simp [h d hd]
    · rfl
  · simp [exec, execStalenessExpiry, h]
  · simp [exec, execStoreGrant, h]
  · simp [exec, execProgramVerify, h]
  · simp only [exec, execSweepRead]
  · simp only [exec, execLoadRowRead]
    rcases h with h | h
    · simp [h]
    · simp [show ¬s.load.nextRow < 206 by omega]
  · simp only [exec, execMoveToRunning]
    rcases h with h | h <;> simp [h]
  · simp only [exec, execFetch]
    split
    · rfl
    · exact congrArg _ (recogniseFetch_unawaited h)
  all_goals have hprogress := fetchInProgress_of_bind hf
  all_goals have hjudges : judgesFrames s p = false := by simp [judgesFrames, hprogress]
  · exact exec_occupying_unjudged hc hjudges
  · simp [exec, execRefusedFormat, hjudges]
  · simp [exec, execNop, hjudges]
  · simp [exec, execPortReset, hjudges]
  · simp [exec, execRestart, hjudges]
  · simp [exec, execFetch, openTransaction, hprogress]
  · simp [exec, execFetch, endFetch_other_tag clocked hf htag]

/-! ### Full resets -/

@[simp] theorem replicate_fin {α : Type} {n : Nat} (v : α) (i : Fin n) : (Vector.replicate n v)[i] = v := by
  simp

theorem noChanges_replicate : noChanges (Vector.replicate 96 noCauses) = true := (noChanges_iff _).mpr fun i => replicate_fin _ i

/-- What a full reset leaves is discarded of all work, whatever it keeps (R19, R76, R99, R137, R151, R184). -/
theorem discarded_afterReset (pending : List Instr) (now : Nat) (rows : Vector Row 206) (worn : Vector Bool 206)
    (faults : FlagSet) : Discarded (State.afterReset pending now rows worn faults) where
  device := rfl
  load := rfl
  slots i := replicate_fin _ i
  lists n k := by cases k <;> exact replicate_fin _ n
  available n := replicate_fin _ n
  pointer := rfl
  running := rfl
  passes n := replicate_fin _ n
  conditions n := replicate_fin _ n
  dwells i := replicate_fin _ i
  trackers n := by
    have h : (State.afterReset pending now rows worn faults).tracker n = Tracker.reset := replicate_fin _ n
    rw [h]
    exact ⟨rfl, rfl, rfl, rfl, rfl, rfl, rfl, rfl, rfl, rfl, rfl, rfl⟩
  lines l := replicate_fin _ l
  ports p := by cases p <;> exact ⟨rfl, rfl, rfl, rfl, noChanges_replicate, rfl, rfl⟩
  queue := rfl
  engine := rfl
  array := rfl
  sweep := ⟨rfl, rfl, rfl, rfl, rfl, rfl, rfl, rfl, rfl, rfl⟩

/-- The invariants hold of what a full reset leaves, over any rows whose worn ones read UNCORRECTABLE. -/
theorem good_afterReset (pending : List Instr) (now : Nat) {rows : Vector Row 206} {worn : Vector Bool 206}
    (faults : FlagSet) (hworn : ∀ r : RowNo, worn[r] = true → rows[r] = .uncorrectable) :
    Good (State.afterReset pending now rows worn faults) := by
  have h := discarded_afterReset pending now rows worn faults
  generalize ht : State.afterReset pending now rows worn faults = t at h
  have hzone (i : SlotNo) : t.zone i = none := by
    have := h.slots i
    unfold State.slot at this
    simp only [State.zone, this]
  have htracker (n : Axis) : t.tracker n = Tracker.reset := by subst ht; exact replicate_fin _ n
  have hconfig (n : Axis) : t.axisConfig n = AxisConfig.default := by subst ht; exact replicate_fin _ n
  have hitem (k : ItemNo) : t.item k = ItemEntry.reset := by subst ht; exact replicate_fin _ k
  have hsweep : t.sweep = Sweep.reset := by subst ht; rfl
  have hheld : t.held = false := by subst ht; rfl
  refine ⟨fun n => ?_, fun i z hz => ?_, ⟨fun i z hz => ?_, fun i _ => h.dwells i, fun i z d hz => ?_⟩, ⟨fun n k => ?_, ?_⟩,
    fun n => ⟨?_, ?_, ?_, ?_, ?_, ?_⟩, fun l => ?_, ⟨?_, ?_, ?_, ?_, ?_, ?_⟩, ⟨?_, ?_⟩, ⟨?_, ?_, ?_, ?_, ?_⟩, fun p => ⟨?_, ?_, ?_⟩,
    ⟨?_, fun _ => ⟨fun p => ?_, h.running, h.passes, h.conditions, h.dwells, fun i z hz => ?_⟩, ?_, ?_⟩⟩
  · rw [hconfig]; decide
  · simp [hzone] at hz
  · simp [hzone] at hz
  · simp [hzone] at hz
  · simp only [h.device]; exact h.lists n k
  · intro hd; simp [h.device] at hd
  · rw [htracker, hconfig]
    exact ⟨by decide, by decide, by decide, by decide, by decide, by decide, fun _ => ⟨rfl, rfl⟩, fun _ _ hl => by cases hl⟩
  · rw [h.conditions, htracker, h.available]; rfl
  · rw [h.passes]; simp
  · rw [h.conditions]; simp
  · rw [h.conditions]; simp
  · intro _; rw [htracker]; exact ⟨rfl, h.available n⟩
  · simp only [h.device]; exact h.lines l
  · simp [h.queue]
  · intro _ _; exact h.queue
  · simp [h.array]
  · simp [h.engine, Engine.hasProgram]
  · simp [h.engine, Engine.isRetrying]
  · intro _; exact ⟨h.engine, h.array⟩
  · intro r; subst ht; exact hworn r
  · intro k c
    have hcopy : (t.item k).copies[c] = CopyState.blank := by rw [hitem]; exact replicate_fin _ c
    rw [hcopy]; exact nofun
  · simp [hsweep, h.array, Sweep.reset]
  · simp [hsweep, Sweep.reset]
  · simp [h.array]
  · simp [hsweep, Sweep.reset]
  · intro _; exact hsweep
  · obtain ⟨hslot, _, _, _, _, hsync, _⟩ := h.ports p
    simp [hslot, hsync]
  · obtain ⟨_, _, _, _, _, hsync, _⟩ := h.ports p
    simp [hsync, noMark, h.queue, inFlight, h.engine]
  · obtain ⟨_, _, _, _, _, hsync, _⟩ := h.ports p
    simp [hsync]
  · simp [hheld]
  · obtain ⟨hslot, _⟩ := h.ports p
    simp [hslot, CommandSlot.isQueued]
  · simp [hzone] at hz
  · simp [h.load, Load.reset]
  · simp [h.load, Load.reset]

/-- Settles O3: reset is what a full reset leaves of a part whose rows are erased and not worn. -/
theorem resetIsAsTheRulesLeaveIt : Obligations.ResetIsAsTheRulesLeaveIt :=
  ⟨good_afterReset _ _ _ fun r h => by simp [unwornRows] at h, discarded_afterReset .., rfl, rfl, fun p => by cases p <;> rfl⟩

/-- The torn row of a full reset, with its wear (R116, R137). -/
theorem rowsKept_fullReset (s : State) (tear : Tear) (faults : FlagSet) : RowsKept s (fullReset tear faults s) tear := by
  unfold RowsKept
  cases hp : programInArray s with
  | none =>
    have hrows : rowsAfterReset s tear = s.rows := by simp only [rowsAfterReset, hp]
    have hworn : wornAfterReset s tear = s.wornRows := by simp only [wornAfterReset, hp]
    exact ⟨hrows, hworn⟩
  | some p =>
    refine ⟨fun r => ?_, fun r => ?_⟩
    · have hrows : rowsAfterReset s tear = s.rows.set (rowOf p.item p.target) (tornRow p.image tear) := by
        simp only [rowsAfterReset, hp]; cases tear <;> rfl
      change (rowsAfterReset s tear)[r] = _
      rw [hrows]
      exact State.setRow_at s _ _ r
    · change (wornAfterReset s tear)[r] = _
      cases tear with
      | uncorrectable => simp only [wornAfterReset, hp]; simp [State.worn]
      | blank =>
        simp only [wornAfterReset, hp]
        exact (State.setWorn_at s (rowOf p.item p.target) false r).trans (by simp [State.worn])
      | asWritten =>
        simp only [wornAfterReset, hp]
        exact (State.setWorn_at s (rowOf p.item p.target) false r).trans (by simp [State.worn])

theorem RowsKept.congr {s t u : State} {tear : Tear} (h : RowsKept s t tear) (hrows : u.rows = t.rows)
    (hworn : u.wornRows = t.wornRows) : RowsKept s u tear := by
  unfold RowsKept at h ⊢
  unfold State.row State.worn at h ⊢
  rw [hrows, hworn]
  exact h

/-- A part held, or with another fault copy or other bytes shifted out, has discarded as much. -/
theorem Discarded.setSupply {t : State} (h : Discarded t) (supply resetN : Bool) : Discarded (t.setSupply supply resetN) := by
  obtain ⟨h1, h2, h3, h4, h5, h6, h7, h8, h9, h10, h11, h12, h13, h14, h15, h16, h17⟩ := h
  exact ⟨h1, h2, h3, h4, h5, h6, h7, h8, h9, h10, h11, h12, h13, h14, h15, h16, h17⟩

theorem Discarded.setShifted {t : State} (h : Discarded t) (p : Port) (bytes : List Byte) :
    Discarded (t.setPort p { t.port p with shifted := bytes }) := by
  obtain ⟨h1, h2, h3, h4, h5, h6, h7, h8, h9, h10, h11, h12, h13, h14, h15, h16, h17⟩ := h
  refine ⟨h1, h2, h3, h4, h5, h6, h7, h8, h9, h10, h11, h12, fun q => ?_, h14, h15, h16, h17⟩
  rw [State.setPort_at]
  split
  · next hq => subst hq; exact h13 q
  · exact h13 q

/-- A flag raised in both fault copies changes the fault copies alone (R179). -/
theorem raised_raiseBoth (x : Flag) (s : State) : Raised s (raiseBoth x s) x.mask := by
  intro p
  cases p <;> rfl

/-- Settles O4: the three rows rest on what a full reset leaves. -/
theorem fullResetsDiscardEverything : Obligations.FullResetsDiscardEverything := by
  refine ⟨fun cause tear s => ?_, fun s hheld => ?_, fun s p tag tear hheld hfetch => ?_⟩
  · have hd : Discarded (fullReset tear 0 s) := discarded_afterReset ..
    have hk := rowsKept_fullReset s tear 0
    have hports : ∀ p, ((fullReset tear 0 s).port p).faults = 0 ∧ ((fullReset tear 0 s).port p).shifted = [] ∧
        ((fullReset tear 0 s).port p).shiftedTail = [] := fun p => by cases p <;> exact ⟨rfl, rfl, rfl⟩
    cases cause <;>
      exact ⟨_, rfl, hd.setSupply .., hk.congr rfl rfl, hports, by simp [State.held, State.setSupply], rfl, rfl⟩
  · refine ⟨raiseBoth .resetSeen (s.setSupply true true), by simp [exec, execHoldEnd, hheld], rfl, rfl, rfl,
      raised_raiseBoth _ _, rfl, rfl, ⟨rfl, rfl, rfl⟩, ⟨rfl, rfl, rfl, rfl⟩, ⟨rfl, rfl, rfl, rfl⟩, ⟨rfl, rfl⟩, rfl, rfl,
      ⟨⟨rfl, rfl, rfl, rfl⟩, ⟨rfl, rfl⟩, ⟨rfl, rfl⟩⟩⟩
  · have hexec : exec (.restart p tag tear) s = .next ((fullReset tear resetSeen s).setPort p
        { (fullReset tear resetSeen s).port p with shifted := [openingByte s p, 0xFF, 0xFF, 0xFF] }) := by
      change execRestart p tag tear s = _
      simp only [execRestart, judgesFrames_of_noFetch hheld hfetch, if_true, openingStatus_eq]
      rfl
    refine ⟨_, hexec, (discarded_afterReset ..).setShifted .., (rowsKept_fullReset s tear resetSeen).congr rfl rfl, rfl,
      fun q => ?_, by rw [State.setPort_same], by rw [State.setPort_other]; cases p <;> rfl⟩
    cases p <;> cases q <;> exact ⟨rfl, rfl⟩

/-! ### The load's decision -/

/-- Two images of 32 bytes with one generation are equal in content exactly where they are equal (R142). -/
theorem sameContent_iff {x y : List Byte} (hx : x.length = 32) (hy : y.length = 32)
    (hg : imageGeneration x = imageGeneration y) : sameContent x y = true ↔ x = y := by
  have hget (z : List Byte) (hz : z.length = 32) : z = (z.set 1 0).set 1 (imageGeneration z) := by
    rw [List.set_set, imageGeneration, List.getD_eq_getElem _ _ (by omega), List.set_getElem_self]
  rw [sameContent, decide_eq_true_eq]
  constructor
  · intro h
    rw [hget x hx, hget y hy, h, hg]
  · rintro rfl; rfl

/-- Settles O6: the generations' distance modulo 256 tells the cases of two VALID copies apart. -/
theorem loadDecides : Obligations.LoadDecides := by
  have hcopies : twoCopies = fun a b => #v[a, b] := rfl
  refine ⟨rfl, fun i₀ i₁ k h1 h127 hg => ?_, fun i₀ i₁ k h1 h127 hg => ?_, fun i₀ i₁ hg h0 h1 => ?_, fun i₀ i₁ hg => ?_,
    fun i => ⟨rfl, rfl, rfl, rfl⟩, rfl, rfl, rfl⟩
  · have hd : (imageGeneration i₀ - imageGeneration i₁).toNat = k := by rw [hg]; bv_omega
    simp only [decideItem, decideBoth, hd, hcopies]
    by_cases hk : k = 1
    · simp [hk]
    · simp [hk, show k ≠ 0 by omega, show k ≠ 255 by omega, show k ≠ 128 by omega, show k < 128 by omega]
  · have hd : (imageGeneration i₀ - imageGeneration i₁).toNat = 256 - k := by rw [hg]; bv_omega
    simp only [decideItem, decideBoth, hd, hcopies]
    by_cases hk : k = 1
    · simp [hk]
    · simp [hk, show 256 - k ≠ 0 by omega, show 256 - k ≠ 1 by omega, show 256 - k ≠ 255 by omega,
        show 256 - k ≠ 128 by omega, show ¬256 - k < 128 by omega]
  · have hd : (imageGeneration i₀ - imageGeneration i₁).toNat = 0 := by rw [hg]; simp
    simp only [decideItem, decideBoth, hd, hcopies, if_true, sameContent_iff h0 h1 hg]
  · have hd : (imageGeneration i₀ - imageGeneration i₁).toNat = 128 := by rw [hg]; bv_omega
    simp [decideItem, decideBoth, hd, hcopies]

end Sys2Proof.Machine
end

section
/-! The end of a grant (R18): what handing over the consequences of a piece of work makes of the part, and what the grant of a
table command then leaves. -/

namespace Sys2Proof.Machine

/-! ### Notices -/

theorem causeOf_congr {s t : State} (h : t.portConfig = s.portConfig) (i : SlotNo) (cause : Cause) (sentTo : List Port)
    (owners : Option (List Owner)) : causeOf t i cause sentTo owners = causeOf s i cause sentTo owners := by
  unfold causeOf; rw [h]

/-- The causes that notices handed on together give a slot at a port (R107, R108). -/
def noticeCauses (s : State) (xs : List Notice) (q : Port) (j : SlotNo) : CauseSet :=
  xs.foldr (fun x acc => causeOf s x.slot x.cause x.sentTo x.owners q j ||| acc) 0

@[simp] theorem noticeCauses_nil (s : State) : noticeCauses s [] = nothing := rfl

theorem noticeCauses_cons (s : State) (x : Notice) (xs : List Notice) (q : Port) (j : SlotNo) :
    noticeCauses s (x :: xs) q j = causeOf s x.slot x.cause x.sentTo x.owners q j ||| noticeCauses s xs q j := rfl

theorem noticeCauses_append (s : State) (xs ys : List Notice) (q : Port) (j : SlotNo) :
    noticeCauses s (xs ++ ys) q j = noticeCauses s xs q j ||| noticeCauses s ys q j := by
  induction xs with
  | nil => simp [nothing]
  | cons x xs ih => simp only [List.cons_append, noticeCauses_cons, ih, BitVec.or_assoc]

@[simp] theorem noticeCauses_singleton (s : State) (x : Notice) :
    noticeCauses s [x] = causeOf s x.slot x.cause x.sentTo x.owners := by
  funext q j; simp [noticeCauses]

theorem noticeCauses_congr {s t : State} (h : t.portConfig = s.portConfig) (xs : List Notice) :
    noticeCauses t xs = noticeCauses s xs := by
  funext q j
  unfold noticeCauses
  simp only [causeOf_congr h]

theorem gained_trans {s t u : State} {c d : Port → SlotNo → CauseSet} (h : Gained s t c) (k : Gained t u d) :
    Gained s u (fun q j => c q j ||| d q j) := fun q j => by rw [k q j, h q j, BitVec.or_assoc]

theorem gained_noticeAt (x : Notice) (s : State) (p : Port) :
    Gained s (noticeAt x s p) (causeOf s x.slot x.cause [p] x.owners) := by
  intro q j
  unfold noticeAt causeOf
  by_cases hf : passesFilter (s.portConfig.get p).subscription p x.owners = true
  · simp only [hf, if_true, State.setPort_at]
    by_cases hq : q = p
    · subst hq
      by_cases hj : j = x.slot
      · simp [hj, hf]
      · simp [hj, Fin.val_ne_of_ne (Ne.symm hj)]
    · simp [hq]
  · by_cases hq : q = p
    · subst hq; simp [hf]
    · simp [hf, hq]

theorem causeOf_sentTo_cons (s : State) (i : SlotNo) (cause : Cause) (p : Port) (ps : List Port)
    (owners : Option (List Owner)) (q : Port) (j : SlotNo) :
    causeOf s i cause (p :: ps) owners q j = causeOf s i cause [p] owners q j ||| causeOf s i cause ps owners q j := by
  unfold causeOf
  by_cases hq : q = p <;> by_cases hps : q ∈ ps <;> simp [hq, hps] <;> split <;> simp_all

theorem noticeAt_portConfig (x : Notice) (s : State) (p : Port) : (noticeAt x s p).portConfig = s.portConfig := by
  obtain ⟨v, h⟩ := noticeAt_eq x s p
  rw [h]; rfl

theorem addNotice_portConfig (s : State) (x : Notice) : (addNotice s x).portConfig = s.portConfig := by
  obtain ⟨a, b, h⟩ := addNotices_eq [x] s
  change (addNotices [x] s).portConfig = _
  rw [h]; rfl

theorem gained_addNotice (s : State) (x : Notice) : Gained s (addNotice s x) (causeOf s x.slot x.cause x.sentTo x.owners) := by
  unfold addNotice
  generalize x.sentTo = ps
  induction ps generalizing s with
  | nil => intro q j; simp [causeOf]
  | cons p ps ih =>
    intro q j
    have h := gained_trans (gained_noticeAt x s p) (ih (noticeAt x s p)) q j
    rw [causeOf_congr (noticeAt_portConfig x s p)] at h
    rw [causeOf_sentTo_cons]
    exact h

/-- Notices handed on together add their causes (R108). -/
theorem gained_addNotices (xs : List Notice) (s : State) : Gained s (addNotices xs s) (noticeCauses s xs) := by
  induction xs generalizing s with
  | nil => intro q j; simp [addNotices, nothing]
  | cons x xs ih =>
    have h := gained_trans (gained_addNotice s x) (ih (addNotice s x))
    rw [noticeCauses_congr (addNotice_portConfig s x)] at h
    exact h

/-! ### Handing over -/

/-- What taking the head makes of the queue and the engine depends on them and on the device state alone (R122). -/
theorem takeHead_congr {s t : State} (hd : t.device = s.device) (he : t.engine = s.engine) (hq : t.queue = s.queue) :
    (takeHead t).queue = (takeHead s).queue ∧ (takeHead t).engine = (takeHead s).engine := by
  unfold takeHead
  rw [hd, he, hq]
  split
  · exact ⟨rfl, rfl⟩
  · exact ⟨hq, he⟩

/-- What the requests make of the queue depends on the queue alone (R121). -/
theorem enqueueAll_queue_congr {s t : State} (ks : List ItemNo) (hq : t.queue = s.queue) :
    (enqueueAll ks t).queue = (enqueueAll ks s).queue := by
  unfold enqueueAll
  induction ks generalizing s t with
  | nil => exact hq
  | cons k ks ih =>
    refine ih ?_
    simp only [enqueue_eq, State.setQueue_queue, hq]

theorem enqueueAll_frame (ks : List ItemNo) (s : State) : ∃ q, enqueueAll ks s = s.setQueue q :=
  (enqueueAll_eq ks s).imp' (fun added => s.queue ++ added) fun _ h => h.1

theorem Enqueued.congr {s s' t : State} {items : List ItemNo} (h : Enqueued items s t) (hd : s'.device = s.device)
    (hq : SameQueue s s') : Enqueued items s' t := by
  obtain ⟨_, h1⟩ := enqueueAll_frame items s
  obtain ⟨_, h2⟩ := enqueueAll_frame items s'
  have hqueue := enqueueAll_queue_congr items hq.queue
  have key := takeHead_congr (s := enqueueAll items s) (t := enqueueAll items s') (by rw [h1, h2]; exact hd)
    (by rw [h1, h2]; exact hq.engine) hqueue
  exact ⟨h.queue.trans key.1.symm, h.engine.trans key.2.symm⟩

/-- The part after the consequences of a piece of work have been handed on (R18): requests, notices and lines beside what the
work itself made of it. -/
structure HandedOver (w : Work) (t : State) : Prop where
  now : t.now = w.state.now
  pending : t.pending = w.state.pending
  device : SameDevice w.state t
  table : SameTable w.state t
  evaluator : SameEvaluator w.state t
  config : SameConfig w.state t
  trackers : t.trackers = w.state.trackers
  rows : SameRows w.state t
  sweep : SameSweep w.state t
  arbiter : SameArbiter w.state t
  ports : ∀ q, t.port q = { w.state.port q with changes := (t.port q).changes }
  enqueued : Enqueued w.items w.state t
  gained : Gained w.state t (noticeCauses w.state w.notices)
  recomputed : Recomputed w.state t w.lines

/-- The change sets of two parts are the same. -/
theorem Gained.of_ports {s t u : State} {c : Port → SlotNo → CauseSet} (h : Gained s t c) (hp : u.ports = t.ports) :
    Gained s u c := fun q j => by
  have : u.port q = t.port q := by simp only [State.port, hp]
  rw [this, h q j]

theorem handOver_ports (w : Work) : (handOver w).ports = (addNotices w.notices (enqueueAll w.items w.state)).ports := by
  unfold handOver
  obtain ⟨q, e, h⟩ := takeHead_frame (recompute w.lines (addNotices w.notices (enqueueAll w.items w.state)))
  obtain ⟨v, hv, _⟩ := recompute_eq w.lines (addNotices w.notices (enqueueAll w.items w.state))
  rw [h, hv]
  rfl

theorem handOver_enqueued (w : Work) : Enqueued w.items w.state (handOver w) := by
  obtain ⟨a, b, ha⟩ := addNotices_eq w.notices (enqueueAll w.items w.state)
  obtain ⟨v, hv, _⟩ := recompute_eq w.lines (addNotices w.notices (enqueueAll w.items w.state))
  have key := takeHead_congr (s := enqueueAll w.items w.state)
    (t := recompute w.lines (addNotices w.notices (enqueueAll w.items w.state))) (by rw [hv, ha]; rfl) (by rw [hv, ha]; rfl)
    (by rw [hv, ha]; rfl)
  exact ⟨key.1, key.2⟩

theorem handedOver (w : Work) : HandedOver w (handOver w) := by
  have hgained : Gained w.state (handOver w) (noticeCauses w.state w.notices) := by
    obtain ⟨q, hq⟩ := enqueueAll_frame w.items w.state
    have h := (gained_addNotices w.notices (enqueueAll w.items w.state)).of_ports (handOver_ports w)
    rw [hq] at h
    exact h
  have henqueued := handOver_enqueued w
  obtain ⟨q, e, a, b, v, h, hv⟩ := handOver_frame w
  rw [h] at hgained henqueued ⊢
  refine ⟨rfl, rfl, ⟨rfl, rfl, rfl, rfl⟩, ⟨rfl, rfl, rfl⟩, ⟨rfl, rfl, rfl, rfl⟩, ⟨rfl, rfl, rfl, rfl⟩, rfl, ⟨rfl, rfl, rfl, rfl⟩,
    ⟨rfl, rfl⟩, ⟨rfl, rfl⟩, fun q => by cases q <;> rfl, henqueued, hgained, fun l => ?_⟩
  change v[l] = _
  rw [hv l]
  split
  · exact (lineRecordOf_congr (s := w.state) rfl rfl l).symm
  · rfl

/-! ### The grant of a table command -/

/-- What a table command's work leaves to the end of its grant (R18): the device, the record store, the ports and the line
records. -/
structure WorkLeaves (s t : State) : Prop where
  now : t.now = s.now
  pending : t.pending = s.pending
  device : SameDevice s t
  store : SameStore s t
  arbiter : SameArbiter s t
  ports : t.ports = s.ports
  lines : t.lines = s.lines

theorem WorkLeaves.refl (s : State) : WorkLeaves s s :=
  ⟨rfl, rfl, ⟨rfl, rfl, rfl, rfl⟩, ⟨⟨rfl, rfl, rfl, rfl⟩, ⟨rfl, rfl⟩, ⟨rfl, rfl⟩⟩, ⟨rfl, rfl⟩, rfl, rfl⟩

/-- A table command's grant has ended with its work handed over and its response placed. -/
structure GrantEnded (s : State) (p : Port) (c : TableCommand) (tag : Byte) (e : Ending) (t : State) : Prop where
  answered : Answered s t p ⟨tag, c.code, e.result, e.payload⟩
  now : t.now = s.now + 1
  table : SameTable e.work.state t
  evaluator : SameEvaluator e.work.state t
  config : SameConfig e.work.state t
  trackers : t.trackers = e.work.state.trackers
  enqueued : Enqueued e.work.items s t
  gained : Gained s t (noticeCauses e.work.state e.work.notices)
  recomputed : Recomputed s t e.work.lines

theorem placeResponse_gained {s t : State} {c : Port → SlotNo → CauseSet} (p : Port) (r : Response) (h : Gained s t c) :
    Gained s (placeResponse p r t) c := by
  intro q j
  rw [← h q j]
  unfold placeResponse
  rw [State.setPort_at]
  split
  · next hq => subst hq; rfl
  · rfl

/-- A grant that is due ends with the work of its command handed over and its response placed (R18, R174). -/
theorem grant_ended {s : State} {p : Port} {c : TableCommand} {tag : Byte} {payload : List Byte} {e : Ending}
    (h : Due s p c tag payload) (he : actOf c p payload (beginGrant p s) = e) (hl : WorkLeaves (beginGrant p s) e.work.state) :
    ∃ t, exec (grantOf p c) s = .next t ∧ GrantEnded s p c tag e t := by
  have hexec : exec (grantOf p c) s =
      .next (placeResponse p ⟨tag, c.code, e.result, e.payload⟩ (handOver e.work)) := by
    rw [exec_grantOf, tableGrant_due _ h, he]
  refine ⟨_, hexec, ?_⟩
  have ho := handedOver e.work
  have hport (q : Port) : (handOver e.work).port q = { s.port q with changes := ((handOver e.work).port q).changes } := by
    rw [ho.ports q]
    have hq : e.work.state.port q = s.port q := by simp only [State.port, hl.ports]; rfl
    rw [hq]
  have hdevice := hl.device
  have hstore := hl.store
  refine ⟨⟨by simp [placeResponse], ho.arbiter.pointer.trans (hl.arbiter.pointer.trans rfl),
    ho.arbiter.running.trans (hl.arbiter.running.trans rfl), ?_, ?_, ?_, fun q => ?_, ?_⟩, ?_, ?_, ?_, ?_, ?_, ?_, ?_, ?_⟩
  · exact ⟨ho.device.device.trans hdevice.device, ho.device.supply.trans hdevice.supply, ho.device.resetN.trans hdevice.resetN,
      ho.device.load.trans hdevice.load⟩
  · exact ⟨ho.rows.rows.trans hstore.rows.rows, ho.rows.wear.trans hstore.rows.wear, ho.rows.copyMap.trans hstore.rows.copyMap,
      ho.rows.committed.trans hstore.rows.committed⟩
  · exact ⟨ho.sweep.array.trans hstore.sweep.array, ho.sweep.sweep.trans hstore.sweep.sweep⟩
  · unfold placeResponse
    rw [State.setPort_at]
    split
    · next hq => subst hq; rw [hport q]
    · rw [hport q]
  · rw [placeResponse, State.setPort_other, hport]
  · exact ho.now.trans (hl.now.trans rfl)
  · exact ⟨ho.table.slots, ho.table.absolute, ho.table.periodic⟩
  · exact ⟨ho.evaluator.available, ho.evaluator.passes, ho.evaluator.conditions, ho.evaluator.dwells⟩
  · exact ⟨ho.config.axes, ho.config.lines, ho.config.ports, ho.config.freeze⟩
  · exact ho.trackers
  · exact Enqueued.congr (s' := s) ⟨ho.enqueued.queue, ho.enqueued.engine⟩ hdevice.device.symm
      ⟨hstore.queue.queue.symm, hstore.queue.engine.symm⟩
  · refine placeResponse_gained p _ fun q j => ?_
    rw [ho.gained q j]
    have hq : e.work.state.port q = s.port q := by simp only [State.port, hl.ports]; rfl
    rw [hq]
  · intro l
    have hr := ho.recomputed l
    have hline : e.work.state.line l = s.line l := by simp only [State.line, hl.lines]; rfl
    rw [hline] at hr
    exact hr

/-! ### A grant that changes nothing -/

/-- A command that is refused, or that reads alone, is answered (R13, R45). -/
theorem grant_answered {s : State} {p : Port} {c : TableCommand} {tag : Byte} {payload : List Byte} {r : Result}
    {bytes : List Byte} (h : Due s p c tag payload)
    (he : actOf c p payload (beginGrant p s) = ⟨{ state := beginGrant p s }, r, bytes⟩) :
    ∃ t, exec (grantOf p c) s = .next t ∧ Answered s t p ⟨tag, c.code, r, bytes⟩ := by
  obtain ⟨t, ht, hend⟩ := grant_ended h he (WorkLeaves.refl _)
  exact ⟨t, ht, hend.answered⟩

/-- A command that is refused, or that reads alone, changes nothing else, where the engine has nothing to take (R13, R45). -/
theorem grant_changes_nothing {s : State} {p : Port} {c : TableCommand} {tag : Byte} {payload : List Byte} {r : Result}
    {bytes : List Byte} (h : Due s p c tag payload) (htakes : s.engine = .idle → s.queue = [])
    (he : actOf c p payload (beginGrant p s) = ⟨{ state := beginGrant p s }, r, bytes⟩) :
    ∃ t, exec (grantOf p c) s = .next t ∧ Answered s t p ⟨tag, c.code, r, bytes⟩ ∧ NothingElse s t := by
  obtain ⟨t, ht, hend⟩ := grant_ended h he (WorkLeaves.refl _)
  refine ⟨t, ht, hend.answered, ?_⟩
  have hrest : takeHead s = s := takeHead_rest fun _ => htakes
  have hqueue : t.queue = s.queue := hend.enqueued.queue.trans (congrArg State.queue hrest)
  have hengine : t.engine = s.engine := hend.enqueued.engine.trans (congrArg State.engine hrest)
  refine ⟨⟨hend.table.slots, hend.table.absolute, hend.table.periodic⟩,
    ⟨hend.evaluator.available, hend.evaluator.passes, hend.evaluator.conditions, hend.evaluator.dwells⟩,
    ⟨hend.config.axes, hend.config.lines, hend.config.ports, hend.config.freeze⟩, hend.trackers, ?_,
    ⟨hend.answered.rows, ⟨hqueue, hengine⟩, hend.answered.sweep⟩, fun q => ?_⟩
  · refine Vector.ext fun l hl => ?_
    have hr := hend.recomputed ⟨l, hl⟩
    rw [if_neg List.not_mem_nil] at hr
    exact hr
  · refine Vector.ext fun j hj => ?_
    have hg := hend.gained q ⟨j, hj⟩
    rw [noticeCauses_nil] at hg
    exact hg.trans BitVec.or_zero

end Sys2Proof.Machine
end

section
/-! What each table command can do in its grant (chapters 2, 3 and 9): it is refused or reads alone and changes nothing, or its
checks have passed and it is taken. -/

namespace Sys2Proof.Machine

/-! ### What the table's operations leave alone -/

theorem WorkLeaves.trans {s t u : State} (h : WorkLeaves s t) (k : WorkLeaves t u) : WorkLeaves s u := by
  obtain ⟨hnow, hpending, ⟨hd, hs, hr, hl⟩, ⟨⟨h1, h2, h3, h4⟩, ⟨h5, h6⟩, ⟨h7, h8⟩⟩, ⟨h9, h10⟩, hports, hlines⟩ := h
  obtain ⟨know, kpending, ⟨kd, ks, kr, kl⟩, ⟨⟨k1, k2, k3, k4⟩, ⟨k5, k6⟩, ⟨k7, k8⟩⟩, ⟨k9, k10⟩, kports, klines⟩ := k
  exact ⟨know.trans hnow, kpending.trans hpending, ⟨kd.trans hd, ks.trans hs, kr.trans hr, kl.trans hl⟩,
    ⟨⟨k1.trans h1, k2.trans h2, k3.trans h3, k4.trans h4⟩, ⟨k5.trans h5, k6.trans h6⟩, ⟨k7.trans h7, k8.trans h8⟩⟩,
    ⟨k9.trans h9, k10.trans h10⟩, kports.trans hports, klines.trans hlines⟩

theorem workLeaves_setSlot (s : State) (i : SlotNo) (v : Slot) : WorkLeaves s (s.setSlot i v) :=
  ⟨rfl, rfl, ⟨rfl, rfl, rfl, rfl⟩, ⟨⟨rfl, rfl, rfl, rfl⟩, ⟨rfl, rfl⟩, ⟨rfl, rfl⟩⟩, ⟨rfl, rfl⟩, rfl, rfl⟩

theorem workLeaves_setZoneList (s : State) (n : Axis) (k : Kind) (v : List SlotNo) : WorkLeaves s (s.setZoneList n k v) := by
  cases k <;>
    exact ⟨rfl, rfl, ⟨rfl, rfl, rfl, rfl⟩, ⟨⟨rfl, rfl, rfl, rfl⟩, ⟨rfl, rfl⟩, ⟨rfl, rfl⟩⟩, ⟨rfl, rfl⟩, rfl, rfl⟩

theorem workLeaves_setDwell (s : State) (i : SlotNo) (v : Option DwellTimer) : WorkLeaves s (s.setDwell i v) :=
  ⟨rfl, rfl, ⟨rfl, rfl, rfl, rfl⟩, ⟨⟨rfl, rfl, rfl, rfl⟩, ⟨rfl, rfl⟩, ⟨rfl, rfl⟩⟩, ⟨rfl, rfl⟩, rfl, rfl⟩

theorem workLeaves_setPass (s : State) (n : Axis) (v : Option Nat) : WorkLeaves s (s.setPass n v) :=
  ⟨rfl, rfl, ⟨rfl, rfl, rfl, rfl⟩, ⟨⟨rfl, rfl, rfl, rfl⟩, ⟨rfl, rfl⟩, ⟨rfl, rfl⟩⟩, ⟨rfl, rfl⟩, rfl, rfl⟩

theorem workLeaves_setConditions (s : State) (n : Axis) (v : List Condition) : WorkLeaves s (s.setConditions n v) :=
  ⟨rfl, rfl, ⟨rfl, rfl, rfl, rfl⟩, ⟨⟨rfl, rfl, rfl, rfl⟩, ⟨rfl, rfl⟩, ⟨rfl, rfl⟩⟩, ⟨rfl, rfl⟩, rfl, rfl⟩

theorem workLeaves_setAvailable (s : State) (n : Axis) (v : Bool) : WorkLeaves s (s.setAvailable n v) :=
  ⟨rfl, rfl, ⟨rfl, rfl, rfl, rfl⟩, ⟨⟨rfl, rfl, rfl, rfl⟩, ⟨rfl, rfl⟩, ⟨rfl, rfl⟩⟩, ⟨rfl, rfl⟩, rfl, rfl⟩

theorem workLeaves_setTracker (s : State) (n : Axis) (v : Tracker) : WorkLeaves s (s.setTracker n v) :=
  ⟨rfl, rfl, ⟨rfl, rfl, rfl, rfl⟩, ⟨⟨rfl, rfl, rfl, rfl⟩, ⟨rfl, rfl⟩, ⟨rfl, rfl⟩⟩, ⟨rfl, rfl⟩, rfl, rfl⟩

theorem workLeaves_setAxisConfig (s : State) (n : Axis) (v : AxisConfig) : WorkLeaves s (s.setAxisConfig n v) :=
  ⟨rfl, rfl, ⟨rfl, rfl, rfl, rfl⟩, ⟨⟨rfl, rfl, rfl, rfl⟩, ⟨rfl, rfl⟩, ⟨rfl, rfl⟩⟩, ⟨rfl, rfl⟩, rfl, rfl⟩

theorem workLeaves_setLineConfig (s : State) (v : Vector LineConfig 8) : WorkLeaves s (s.setLineConfig v) :=
  ⟨rfl, rfl, ⟨rfl, rfl, rfl, rfl⟩, ⟨⟨rfl, rfl, rfl, rfl⟩, ⟨rfl, rfl⟩, ⟨rfl, rfl⟩⟩, ⟨rfl, rfl⟩, rfl, rfl⟩

theorem workLeaves_setPortConfig (s : State) (v : PerPort PortConfig) : WorkLeaves s (s.setPortConfig v) :=
  ⟨rfl, rfl, ⟨rfl, rfl, rfl, rfl⟩, ⟨⟨rfl, rfl, rfl, rfl⟩, ⟨rfl, rfl⟩, ⟨rfl, rfl⟩⟩, ⟨rfl, rfl⟩, rfl, rfl⟩

theorem workLeaves_setFreeze (s : State) (v : FreezeLevel) : WorkLeaves s (s.setFreeze v) :=
  ⟨rfl, rfl, ⟨rfl, rfl, rfl, rfl⟩, ⟨⟨rfl, rfl, rfl, rfl⟩, ⟨rfl, rfl⟩, ⟨rfl, rfl⟩⟩, ⟨rfl, rfl⟩, rfl, rfl⟩

theorem workLeaves_enterList (i : SlotNo) (z : Zone) (s : State) : WorkLeaves s (enterList i z s) :=
  workLeaves_setZoneList ..

theorem workLeaves_leaveList (i : SlotNo) (z : Zone) (s : State) : WorkLeaves s (leaveList i z s) :=
  workLeaves_setZoneList ..

theorem workLeaves_cancelDwell (i : SlotNo) (s : State) : WorkLeaves s (cancelDwell i s) := workLeaves_setDwell ..

theorem workLeaves_setPassPending (n : Axis) (s : State) : WorkLeaves s (setPassPending n s) := by
  rw [setPassPending_eq]; exact workLeaves_setPass ..

theorem workLeaves_restartPass (z : Zone) (s : State) : WorkLeaves s (restartPass z s) := by
  unfold restartPass
  split
  · exact workLeaves_setPassPending ..
  · exact .refl s

theorem workLeaves_moveInLists (i : SlotNo) (z y : Zone) (s : State) : WorkLeaves s (moveInLists i z y s) := by
  unfold moveInLists
  split
  · exact .refl s
  · exact (workLeaves_leaveList i z s).trans (workLeaves_enterList ..)

theorem workLeaves_depart (n : Axis) (s : State) : WorkLeaves s (depart n s) := by
  unfold depart
  dsimp only
  split
  · exact (workLeaves_setConditions ..).trans (workLeaves_setTracker ..)
  · exact workLeaves_setTracker ..

theorem workLeaves_resynchronise (n : Axis) (state : TrackerState) (turn : Option Turn) (forget : Bool) (s : State) :
    WorkLeaves s (resynchronise n state turn forget s) :=
  (workLeaves_depart n s).trans (workLeaves_setTracker ..)

theorem workLeaves_axisEffect (n : Axis) (c d : AxisConfig) (s : State) : WorkLeaves s (axisEffect n c d s) := by
  unfold axisEffect
  split
  · exact workLeaves_resynchronise ..
  · exact workLeaves_setTracker ..

/-! ### Slots and zones -/

theorem zone_eq_some_iff {s : State} {i : SlotNo} {z : Zone} : s.zone i = some z ↔ s.slot i = .live z := by
  unfold State.zone State.slot
  cases s.slots[i] <;> simp

theorem zone_eq_none_iff {s : State} {i : SlotNo} : s.zone i = none ↔ ∀ z, s.slot i ≠ .live z := by
  unfold State.zone State.slot
  cases s.slots[i] <;> simp

theorem zone_of_slot {s : State} {i : SlotNo} {z : Zone} (h : s.slot i = .live z) : s.zone i = some z :=
  zone_eq_some_iff.mpr h

/-! ### The checks of a command that names a zone -/

theorem ownerPasses_iff (z : Zone) (p : Port) : ownerPasses z p = true ↔ z.owner ≠ ownerOf p.other := by
  unfold ownerPasses
  cases p <;> cases z.owner <;> decide

theorem resolve_eq_ok_iff {s : State} {h : Handle} {z : Zone} :
    resolve s h = .ok z ↔ s.zone h.slot = some z ∧ z.incarnation = h.incarnation := by
  rw [zone_eq_some_iff]
  unfold resolve
  cases s.slot h.slot with
  | live y =>
    by_cases hi : y.incarnation = h.incarnation
    · simp only [hi, if_true, Except.ok.injEq, Slot.live.injEq]
      exact ⟨fun e => ⟨e, e ▸ hi⟩, fun e => e.1⟩
    · simp only [hi, if_false, reduceCtorEq, Slot.live.injEq, false_iff]
      rintro ⟨rfl, hz⟩; exact hi hz
  | vacant r => simp
  | quarantined => simp

theorem resolve_stale {s : State} {h : Handle}
    (hs : (∃ r, s.slot h.slot = .vacant r) ∨ ∃ z, s.slot h.slot = .live z ∧ z.incarnation ≠ h.incarnation) :
    resolve s h = .error .staleHandle := by
  rcases hs with ⟨r, hr⟩ | ⟨z, hz, hi⟩
  · simp [resolve, hr]
  · simp [resolve, hz, hi]

theorem resolve_quarantined {s : State} {h : Handle} (hs : s.slot h.slot = .quarantined) :
    resolve s h = .error .quarantined := by
  simp [resolve, hs]

/-- A zone passes checks 2 to 4 where no freeze level refuses the command, the handle is the zone's, and the zone does not
belong to the other port (R13). -/
structure ZonePasses (p : Port) (frozen : Bool) (h : Handle) (s : State) (z : Zone) : Prop where
  frozen : frozen = false
  zone : s.zone h.slot = some z
  incarnation : z.incarnation = h.incarnation
  owner : z.owner ≠ ownerOf p.other

theorem zoneChecks_eq_ok_iff {p : Port} {frozen : Bool} {h : Handle} {s : State} {z : Zone} :
    zoneChecks p frozen h s = .ok z ↔ ZonePasses p frozen h s z := by
  unfold zoneChecks
  cases frozen with
  | true => exact ⟨nofun, fun hz => by simpa using hz.frozen⟩
  | false =>
    cases hr : resolve s h with
    | error r =>
      refine ⟨nofun, fun hz => ?_⟩
      rw [resolve_eq_ok_iff.mpr ⟨hz.zone, hz.incarnation⟩] at hr
      cases hr
    | ok y =>
      obtain ⟨hy, hi⟩ := resolve_eq_ok_iff.mp hr
      by_cases ho : ownerPasses y p = true
      · simp only [ho, if_true, Bool.false_eq_true, if_false, Except.ok.injEq]
        refine ⟨?_, fun hz => ?_⟩
        · rintro rfl; exact ⟨rfl, hy, hi, (ownerPasses_iff y p).mp ho⟩
        · exact Option.some.inj (hy.symm.trans hz.zone)
      · simp only [ho, Bool.false_eq_true, if_false, reduceCtorEq, false_iff]
        intro hz
        rw [Option.some.inj (hy.symm.trans hz.zone)] at ho
        exact ho ((ownerPasses_iff z p).mpr hz.owner)

/-! ### What each command can do -/

/-- A command of a grant changes nothing: it is refused, or reads alone, or finds nothing to change (R13, R21, R45). -/
def ChangesNothing (s : State) (e : Ending) : Prop := e.work = { state := s }

theorem changesNothing_refuse (s : State) (r : Result) : ChangesNothing s (refuse s r) := rfl

/-- A CREATE passes its checks with these arguments and is given slot `i`, which remembers `r` (R11 to R13). -/
structure CreatePasses (payload : List Byte) (s : State) (x : CreateArgs) (i : SlotNo) (r : Byte) : Prop where
  parse : parseCreate payload = some x
  opened : s.freezeLevel = .opened
  bounds : boundsOk x.bounds x.hysteresis = true
  free : firstConflict s x.axis x.bounds x.exclusive none = none
  vacant : s.slot i = .vacant r

theorem frozenAtLayout_eq_false {s : State} : frozenAtLayout s = false ↔ s.freezeLevel = .opened := by
  simp [frozenAtLayout]

theorem wiringFrozen_eq_false {s : State} : wiringFrozen s = false ↔ s.freezeLevel = .opened := by
  simp [wiringFrozen]

theorem frozenAtFixed_eq_false {s : State} : frozenAtFixed s = false ↔ s.freezeLevel ≠ .fixed := by
  simp [frozenAtFixed]

theorem lowestVacant_eq_some {s : State} {i : SlotNo} (h : lowestVacant s = some i) : ∃ r, s.slot i = .vacant r := by
  have := List.find?_some h
  split at this
  · next r hr => exact ⟨r, hr⟩
  · cases this
  · cases this

/-- The slot a CREATE is given is VACANT (R12). -/
theorem chooseSlot_eq_ok {requested : Option SlotNo} {s : State} {i : SlotNo} {r : Byte}
    (h : chooseSlot requested s = .ok (i, r)) : s.slot i = .vacant r := by
  unfold chooseSlot at h
  cases requested with
  | some j =>
    simp only at h
    split at h <;> cases h
    assumption
  | none =>
    simp only at h
    split at h
    · split at h <;> cases h
      assumption
    · cases h

theorem actCreate_cases (p : Port) (payload : List Byte) (s : State) :
    ChangesNothing s (actCreate p payload s) ∨
      ∃ x i r, CreatePasses payload s x i r ∧ actCreate p payload s = createTaken p x i r s := by
  unfold actCreate
  split
  · exact .inl rfl
  · next x hparse =>
    split
    · exact .inl rfl
    · next hfrozen =>
      split
      · exact .inl rfl
      · split
        · exact .inl rfl
        · next hbounds =>
          split
          · exact .inl rfl
          · next hfree =>
            split
            · exact .inl rfl
            · next i r hslot =>
              exact .inr ⟨x, i, r, ⟨hparse, frozenAtLayout_eq_false.mp (by simpa using hfrozen), by simpa using hbounds,
                hfree, chooseSlot_eq_ok hslot⟩, rfl⟩

/-- An AMEND passes its checks: the zone `z` becomes `y`, of which at least one field is new (R13, R28, R29). -/
structure AmendPasses (p : Port) (payload : List Byte) (s : State) (x : AmendArgs) (z y : Zone) : Prop where
  parse : parseAmend payload = some x
  passes : ZonePasses p (frozenAtLayout s) x.handle s z
  allowed : z.occupancy = .tripped → x.namesGeometryOrAction = false
  apply : x.apply z = some y
  bounds : boundsOk y.bounds y.hysteresis = true
  free : firstConflict s y.axis y.bounds y.exclusive (some x.handle.slot) = none
  changes : y ≠ z

theorem actAmend_cases (p : Port) (payload : List Byte) (s : State) :
    ChangesNothing s (actAmend p payload s) ∨
      ∃ x z y, AmendPasses p payload s x z y ∧ actAmend p payload s = amendTaken x.handle.slot z y s := by
  unfold actAmend
  split
  · exact .inl rfl
  · next x hparse =>
    split
    · exact .inl rfl
    · next z hz =>
      split
      · exact .inl rfl
      · next hallowed =>
        split
        · exact .inl rfl
        · next y happly =>
          split
          · exact .inl rfl
          · next hbounds =>
            split
            · exact .inl rfl
            · next hfree =>
              split
              · exact .inl rfl
              · next hne =>
                exact .inr ⟨x, z, y, ⟨hparse, zoneChecks_eq_ok_iff.mp hz, fun ht => by simpa [ht] using hallowed, happly,
                  by simpa using hbounds, hfree, hne⟩, rfl⟩

theorem actRetire_cases (p : Port) (payload : List Byte) (s : State) :
    ChangesNothing s (actRetire p payload s) ∨
      ∃ h z, parseHandle payload = some h ∧ ZonePasses p (frozenAtLayout s) h s z ∧ z.occupancy ≠ .tripped ∧
        actRetire p payload s = retireTaken p h z s := by
  unfold actRetire
  split
  · exact .inl rfl
  · next h hparse =>
    split
    · exact .inl rfl
    · next z hz =>
      split
      · exact .inl rfl
      · next ht => exact .inr ⟨h, z, hparse, zoneChecks_eq_ok_iff.mp hz, ht, rfl⟩

theorem actArm_cases (p : Port) (payload : List Byte) (s : State) :
    ChangesNothing s (actArm p payload s) ∨
      ∃ h z, parseHandle payload = some h ∧ ZonePasses p (frozenAtFixed s) h s z ∧ z.armed = false ∧
        let y := restarted s.available[z.axis] { z with armed := true }
        actArm p payload s = changedZone h.slot z y (decide (y.occupancy = .tripped)) s := by
  unfold actArm
  split
  · exact .inl rfl
  · next h hparse =>
    split
    · exact .inl rfl
    · next z hz =>
      split
      · exact .inl rfl
      · next ha => exact .inr ⟨h, z, hparse, zoneChecks_eq_ok_iff.mp hz, by simpa using ha, rfl⟩

theorem actDisarm_cases (p : Port) (payload : List Byte) (s : State) :
    ChangesNothing s (actDisarm p payload s) ∨
      ∃ h z, parseHandle payload = some h ∧ ZonePasses p (frozenAtFixed s) h s z ∧ z.occupancy ≠ .tripped ∧
        z.armed = true ∧
        actDisarm p payload s = changedZone h.slot z ({ z with armed := false }.withOccupancy .unknown) false s := by
  unfold actDisarm
  split
  · exact .inl rfl
  · next h hparse =>
    split
    · exact .inl rfl
    · next z hz =>
      split
      · exact .inl rfl
      · next ht =>
        split
        · exact .inl rfl
        · next ha => exact .inr ⟨h, z, hparse, zoneChecks_eq_ok_iff.mp hz, ht, by simpa using ha, rfl⟩

theorem actClear_cases (p : Port) (payload : List Byte) (s : State) :
    ChangesNothing s (actClear p payload s) ∨
      ∃ h z, parseHandle payload = some h ∧ ZonePasses p false h s z ∧ z.occupancy = .tripped ∧
        let y := restarted s.available[z.axis] z
        actClear p payload s = changedZone h.slot z y (decide (y.occupancy = .tripped)) s := by
  unfold actClear
  split
  · exact .inl rfl
  · next h hparse =>
    split
    · exact .inl rfl
    · next z hz =>
      split
      · exact .inl rfl
      · next ht => exact .inr ⟨h, z, hparse, zoneChecks_eq_ok_iff.mp hz, by simpa using ht, rfl⟩

/-- The work of a TRANSFER that changes the owner (R39). -/
def transferred (p : Port) (i : SlotNo) (z : Zone) (o : Owner) (s : State) : Work :=
  { state := s.setSlot i (.live { z with owner := o })
    items := persistentItem i z
    notices := [transferNotice p i z.owner o] }

theorem actTransfer_cases (p : Port) (payload : List Byte) (s : State) :
    ChangesNothing s (actTransfer p payload s) ∨
      ∃ h choice z, parseTransfer payload = some (h, choice) ∧ ZonePasses p (frozenAtLayout s) h s z ∧
        choice.owner p ≠ z.owner ∧ actTransfer p payload s =
          ⟨transferred p h.slot z (choice.owner p) s, .ok, [flagsByte false false, ownerByte (choice.owner p)]⟩ := by
  unfold actTransfer
  split
  · exact .inl rfl
  · next h choice hparse =>
    split
    · exact .inl rfl
    · next z hz =>
      dsimp only
      split
      · exact .inl rfl
      · next ho => exact .inr ⟨h, choice, z, hparse, zoneChecks_eq_ok_iff.mp hz, ho, rfl⟩

/-- The work and the count of a RELEASE_ALL (R40). -/
def releasedAll (p : Port) (s : State) : Work × Nat := allSlots.foldl (releaseSlot p) ({ state := s }, 0)

theorem actReleaseAll_cases (p : Port) (payload : List Byte) (s : State) :
    ChangesNothing s (actReleaseAll p payload s) ∨
      (s.freezeLevel = .opened ∧
        actReleaseAll p payload s = ⟨(releasedAll p s).1, .ok, [countByte (releasedAll p s).2]⟩) := by
  unfold actReleaseAll
  split
  · exact .inl rfl
  · split
    · exact .inl rfl
    · next hf => exact .inr ⟨frozenAtLayout_eq_false.mp (by simpa using hf), rfl⟩

/-- The work of a RECLAIM (R41). -/
def reclaimed (p : Port) (i : SlotNo) (s : State) : Work :=
  { state := s.setSlot i (.vacant 0), items := [slotItem i], notices := [⟨i, .removed, toOther p, none⟩] }

theorem actReclaim_cases (p : Port) (payload : List Byte) (s : State) :
    ChangesNothing s (actReclaim p payload s) ∨
      ∃ i, parseSlot payload = some i ∧ s.freezeLevel = .opened ∧ s.slot i = .quarantined ∧
        actReclaim p payload s = ⟨reclaimed p i s, .ok, [countByte i.val]⟩ := by
  unfold actReclaim
  split
  · exact .inl rfl
  · next i hparse =>
    split
    · exact .inl rfl
    · next hf =>
      split
      · exact .inl rfl
      · next hq =>
        exact .inr ⟨i, hparse, frozenAtLayout_eq_false.mp (by simpa using hf), by simpa using hq, rfl⟩

theorem actReadZone_changesNothing (p : Port) (payload : List Byte) (s : State) :
    ChangesNothing s (actReadZone p payload s) := by
  unfold actReadZone
  split
  · rfl
  · split <;> rfl

theorem actFind_changesNothing (p : Port) (payload : List Byte) (s : State) : ChangesNothing s (actFind p payload s) := by
  unfold actFind
  split <;> rfl

theorem actList_changesNothing (p : Port) (payload : List Byte) (s : State) : ChangesNothing s (actList p payload s) := by
  unfold actList
  split
  · rfl
  · split <;> rfl

theorem actReadConfig_changesNothing (p : Port) (payload : List Byte) (s : State) :
    ChangesNothing s (actReadConfig p payload s) := by
  unfold actReadConfig
  split <;> rfl

theorem actSetAxis_cases (p : Port) (payload : List Byte) (s : State) :
    ChangesNothing s (actSetAxis p payload s) ∨
      ∃ n x, parseSetAxis payload = some (n, x) ∧ s.freezeLevel = .opened ∧
        let c := s.axisConfig n
        let d := x.apply c
        actSetAxis p payload s = configEnding (axisEffect n c d (s.setAxisConfig n d)) (axisItem n) (decide (d ≠ c)) []
          [flagsByte (decide (d = c)) (forcesResync c d)] := by
  unfold actSetAxis
  split
  · exact .inl rfl
  · next n x hparse =>
    split
    · exact .inl rfl
    · next hf => exact .inr ⟨n, x, hparse, wiringFrozen_eq_false.mp (by simpa using hf), rfl⟩

theorem actSetLines_cases (p : Port) (payload : List Byte) (s : State) :
    ChangesNothing s (actSetLines p payload s) ∨
      ∃ x, parseSetLines payload = some x ∧ s.freezeLevel = .opened ∧
        let v := applyLines x s.lineConfig
        actSetLines p payload s = configEnding (s.setLineConfig v) linesItem (decide (v ≠ s.lineConfig)) allLines
          [flagsByte (decide (v = s.lineConfig)) false] := by
  unfold actSetLines
  split
  · exact .inl rfl
  · next x hparse =>
    split
    · exact .inl rfl
    · next hf => exact .inr ⟨x, hparse, wiringFrozen_eq_false.mp (by simpa using hf), rfl⟩

theorem actSetPorts_cases (p : Port) (payload : List Byte) (s : State) :
    ChangesNothing s (actSetPorts p payload s) ∨
      ∃ x, parseSetPorts payload = some x ∧
        let v : PerPort PortConfig := ⟨x.a.apply s.portConfig.a, x.b.apply s.portConfig.b⟩
        actSetPorts p payload s = configEnding (s.setPortConfig v) portsItem (decide (v ≠ s.portConfig)) []
          [flagsByte (decide (v = s.portConfig)) false] := by
  unfold actSetPorts
  split
  · exact .inl rfl
  · next x hparse => exact .inr ⟨x, hparse, rfl⟩

theorem actFreeze_cases (p : Port) (payload : List Byte) (s : State) :
    ChangesNothing s (actFreeze p payload s) ∨
      ∃ l, parseFreeze payload = some l ∧ s.freezeLevel.rank ≤ l.rank ∧
        actFreeze p payload s = configEnding (s.setFreeze l) freezeItem (decide (l ≠ s.freezeLevel)) []
          [flagsByte (decide (l = s.freezeLevel)) false, freezeCode l] := by
  unfold actFreeze
  split
  · exact .inl rfl
  · next l hparse =>
    split
    · exact .inl rfl
    · next hrank => exact .inr ⟨l, hparse, by omega, rfl⟩

/-! ### What every command leaves to the end of its grant -/

theorem workLeaves_createTaken (p : Port) (x : CreateArgs) (i : SlotNo) (r : Byte) (s : State) :
    WorkLeaves s (createTaken p x i r s).work.state :=
  (workLeaves_setSlot s i _).trans (workLeaves_enterList ..)

theorem workLeaves_amendTaken (i : SlotNo) (z y : Zone) (s : State) : WorkLeaves s (amendTaken i z y s).work.state := by
  have hmove : WorkLeaves s (moveInLists i z (amendedZone s.available[y.axis] z y)
      (s.setSlot i (.live (amendedZone s.available[y.axis] z y)))) :=
    (workLeaves_setSlot s i _).trans (workLeaves_moveInLists ..)
  unfold amendTaken
  dsimp only
  split
  · exact (hmove.trans (workLeaves_cancelDwell i _)).trans (workLeaves_restartPass ..)
  · exact hmove

theorem workLeaves_retireTaken (p : Port) (h : Handle) (z : Zone) (s : State) :
    WorkLeaves s (retireTaken p h z s).work.state :=
  ((workLeaves_setSlot s h.slot _).trans (workLeaves_leaveList ..)).trans (workLeaves_cancelDwell ..)

theorem workLeaves_changedZone (i : SlotNo) (z y : Zone) (entered : Bool) (s : State) :
    WorkLeaves s (changedZone i z y entered s).work.state :=
  ((workLeaves_setSlot s i _).trans (workLeaves_cancelDwell i _)).trans (workLeaves_restartPass ..)

theorem workLeaves_releaseSlot (p : Port) (acc : Work × Nat) (i : SlotNo) :
    WorkLeaves acc.1.state (releaseSlot p acc i).1.state := by
  unfold releaseSlot
  split
  · split
    · exact workLeaves_setSlot ..
    · exact .refl _
  · exact .refl _

theorem workLeaves_releasedAll (p : Port) (s : State) : WorkLeaves s (releasedAll p s).1.state := by
  suffices h : ∀ (l : List SlotNo) (acc : Work × Nat), WorkLeaves s acc.1.state →
      WorkLeaves s (l.foldl (releaseSlot p) acc).1.state by
    unfold releasedAll
    exact h allSlots _ (.refl s)
  intro l
  induction l with
  | nil => exact fun _ h => h
  | cons i l ih => exact fun acc h => ih _ (h.trans (workLeaves_releaseSlot p acc i))

theorem ChangesNothing.workLeaves {s : State} {e : Ending} (h : ChangesNothing s e) : WorkLeaves s e.work.state := by
  rw [show e.work = { state := s } from h]; exact .refl s

/-- A table command changes nothing, or it is answered OK and leaves all but the table, the evaluator, the configuration and
the trackers to the end of its grant (R13, R18). -/
theorem actOf_cases (c : TableCommand) (p : Port) (payload : List Byte) (s : State) :
    ChangesNothing s (actOf c p payload s) ∨
      ((actOf c p payload s).result = .ok ∧ WorkLeaves s (actOf c p payload s).work.state) := by
  cases c <;> simp only [actOf]
  case create =>
    refine (actCreate_cases p payload s).imp_right ?_
    rintro ⟨x, i, r, _, h⟩; rw [h]; exact ⟨rfl, workLeaves_createTaken ..⟩
  case amend =>
    refine (actAmend_cases p payload s).imp_right ?_
    rintro ⟨x, z, y, _, h⟩; rw [h]; exact ⟨rfl, workLeaves_amendTaken ..⟩
  case retire =>
    refine (actRetire_cases p payload s).imp_right ?_
    rintro ⟨h, z, _, _, _, he⟩; rw [he]; exact ⟨rfl, workLeaves_retireTaken ..⟩
  case arm =>
    refine (actArm_cases p payload s).imp_right ?_
    rintro ⟨h, z, _, _, _, he⟩; rw [he]; exact ⟨rfl, workLeaves_changedZone ..⟩
  case disarm =>
    refine (actDisarm_cases p payload s).imp_right ?_
    rintro ⟨h, z, _, _, _, _, he⟩; rw [he]; exact ⟨rfl, workLeaves_changedZone ..⟩
  case clear =>
    refine (actClear_cases p payload s).imp_right ?_
    rintro ⟨h, z, _, _, _, he⟩; rw [he]; exact ⟨rfl, workLeaves_changedZone ..⟩
  case transfer =>
    refine (actTransfer_cases p payload s).imp_right ?_
    rintro ⟨h, choice, z, _, _, _, he⟩; rw [he]; exact ⟨rfl, workLeaves_setSlot ..⟩
  case releaseAll =>
    refine (actReleaseAll_cases p payload s).imp_right ?_
    rintro ⟨_, he⟩; exact ⟨by rw [he], by simp only [he]; exact workLeaves_releasedAll p s⟩
  case reclaim =>
    refine (actReclaim_cases p payload s).imp_right ?_
    rintro ⟨i, _, _, _, he⟩; rw [he]; exact ⟨rfl, workLeaves_setSlot ..⟩
  case readZone => exact .inl (actReadZone_changesNothing ..)
  case find => exact .inl (actFind_changesNothing ..)
  case list => exact .inl (actList_changesNothing ..)
  case setAxis =>
    refine (actSetAxis_cases p payload s).imp_right ?_
    rintro ⟨n, x, _, _, he⟩; rw [he]; exact ⟨rfl, (workLeaves_setAxisConfig s n _).trans (workLeaves_axisEffect ..)⟩
  case setLines =>
    refine (actSetLines_cases p payload s).imp_right ?_
    rintro ⟨x, _, _, he⟩; rw [he]; exact ⟨rfl, workLeaves_setLineConfig ..⟩
  case setPorts =>
    refine (actSetPorts_cases p payload s).imp_right ?_
    rintro ⟨x, _, he⟩; rw [he]; exact ⟨rfl, workLeaves_setPortConfig ..⟩
  case freeze =>
    refine (actFreeze_cases p payload s).imp_right ?_
    rintro ⟨l, _, _, he⟩; rw [he]; exact ⟨rfl, workLeaves_setFreeze ..⟩
  case readConfig => exact .inl (actReadConfig_changesNothing ..)

theorem workLeaves_actOf (c : TableCommand) (p : Port) (payload : List Byte) (s : State) :
    WorkLeaves s (actOf c p payload s).work.state :=
  (actOf_cases c p payload s).elim ChangesNothing.workLeaves And.right

/-- The grant of any table command that is due ends with its work handed over and its response placed (R18, R174). -/
theorem grantEnded_of_due {s : State} {p : Port} {c : TableCommand} {tag : Byte} {payload : List Byte}
    (h : Due s p c tag payload) :
    ∃ t, exec (grantOf p c) s = .next t ∧ GrantEnded s p c tag (actOf c p payload (beginGrant p s)) t :=
  grant_ended h rfl (workLeaves_actOf ..)

/-- Settles O18: a command that does not answer OK is one that changes nothing. -/
theorem refusedCommandsChangeNothing : Obligations.RefusedCommandsChangeNothing := by
  intro s p c tag payload h htakes
  rcases actOf_cases c p payload (beginGrant p s) with hno | ⟨hok, hleaves⟩
  · obtain ⟨t, ht, hanswered, hnothing⟩ := grant_changes_nothing (r := (actOf c p payload (beginGrant p s)).result)
      (bytes := (actOf c p payload (beginGrant p s)).payload) h htakes (by rw [← show _ = _ from hno])
    exact ⟨t, _, ht, hanswered, rfl, rfl, fun _ => hnothing⟩
  · obtain ⟨t, ht, hend⟩ := grantEnded_of_due h
    exact ⟨t, _, ht, hend.answered, rfl, rfl, fun hbad => absurd hok hbad⟩

end Sys2Proof.Machine
end

section
/-! The lists and the exclusivity of the table (R8 to R11): where a zone enters a list, what its entering and leaving keep, and
when two zones collide. -/

namespace Sys2Proof.Machine

/-! ### The order of a list -/

theorem ExtPos.counts_injective {p q : ExtPos} (h : p.counts = q.counts) : p = q := by
  have hp := p.angle.isLt
  have hq := q.angle.isLt
  unfold ExtPos.counts at h
  have hturn : p.turn.toInt = q.turn.toInt := by omega
  have hangle : p.angle.toNat = q.angle.toNat := by omega
  cases p; cases q
  simp only [ExtPos.mk.injEq]
  exact ⟨BitVec.eq_of_toInt_eq hturn, BitVec.eq_of_toNat_eq hangle⟩

theorem ComesBefore.irrefl (z : Zone) (i : SlotNo) : ¬ComesBefore z i z i := by
  simp [ComesBefore]

theorem ComesBefore.trans {x y z : Zone} {i j k : SlotNo} (h : ComesBefore x i y j) (h' : ComesBefore y j z k) :
    ComesBefore x i z k := by
  simp only [ComesBefore, Fin.lt_def] at *
  omega

theorem ComesBefore.total {x y : Zone} {i j : SlotNo} (h : i ≠ j) : ComesBefore x i y j ∨ ComesBefore y j x i := by
  have hne : i.val ≠ j.val := Fin.val_ne_of_ne h
  simp only [ComesBefore, Fin.lt_def]
  omega

/-- Zones of one kind are compared as R8 says. -/
theorem zoneBefore_iff {x y : Zone} {i j : SlotNo} (hkind : x.bounds.kind = y.bounds.kind) :
    zoneBefore x.bounds i y.bounds j = true ↔ ComesBefore x i y j := by
  unfold zoneBefore ComesBefore
  cases hx : x.bounds with
  | absolute l u =>
    cases hy : y.bounds with
    | periodic s e => simp [hx, hy, Bounds.kind] at hkind
    | absolute l' u' =>
      have hl : l = l' ↔ l.counts = l'.counts := ⟨congrArg _, ExtPos.counts_injective⟩
      have hu : u = u' ↔ u.counts = u'.counts := ⟨congrArg _, ExtPos.counts_injective⟩
      simp only [Bounds.before, sortKey, ExtPos.lt, Bool.or_eq_true, Bool.and_eq_true, decide_eq_true_eq,
        Bounds.absolute.injEq, hl, hu]
      tauto
  | periodic s e =>
    cases hy : y.bounds with
    | absolute l u => simp [hx, hy, Bounds.kind] at hkind
    | periodic s' e' =>
      simp only [Bounds.before, sortKey, Bool.or_eq_true, Bool.and_eq_true, decide_eq_true_eq, Bounds.periodic.injEq,
        BitVec.lt_def, Nat.cast_lt, Nat.cast_inj, BitVec.toNat_inj]
      tauto

/-! ### Entering and leaving a list -/

/-- A list is in order of another part whose zones on the list have the same bounds. -/
theorem InOrder.congr {s t : State} {l : List SlotNo} (h : InOrder s l)
    (hb : ∀ j ∈ l, ∀ y, t.zone j = some y → ∃ x, s.zone j = some x ∧ x.bounds = y.bounds) : InOrder t l := by
  refine List.Pairwise.imp_of_mem ?_ h
  intro i j hi hj hij y z hy hz
  obtain ⟨y', hy', ey⟩ := hb i hi y hy
  obtain ⟨z', hz', ez⟩ := hb j hj z hz
  have := hij y' z' hy' hz'
  simpa only [ComesBefore, ey, ez] using this

/-- A list whose entries are LIVE holds each slot once. -/
theorem InOrder.nodup {s : State} {l : List SlotNo} (h : InOrder s l) (hlive : ∀ i ∈ l, s.zone i ≠ none) : l.Nodup := by
  refine List.Pairwise.imp_of_mem ?_ h
  rintro i j hi _ hij rfl
  obtain ⟨z, hz⟩ := Option.ne_none_iff_exists'.mp (hlive i hi)
  exact ComesBefore.irrefl z i (hij z z hz hz)

/-- A zone is put into a list at its ordered place (R8). -/
theorem insertOrdered_spec {s : State} {i : SlotNo} {z : Zone} {l : List SlotNo} (hi : s.zone i = some z) (hnot : i ∉ l)
    (hlive : ∀ j ∈ l, ∃ y, s.zone j = some y ∧ y.bounds.kind = z.bounds.kind) (hl : InOrder s l) :
    ∃ before after, l = before ++ after ∧ insertOrdered s i z.bounds l = before ++ i :: after ∧
      InOrder s (before ++ i :: after) := by
  induction l with
  | nil => exact ⟨[], [], rfl, rfl, List.pairwise_singleton ..⟩
  | cons j rest ih =>
    obtain ⟨hji, hrest⟩ := List.pairwise_cons.mp hl
    obtain ⟨y, hy, hkind⟩ := hlive j List.mem_cons_self
    have hne : i ≠ j := fun e => hnot (e ▸ List.mem_cons_self)
    simp only [insertOrdered, hy]
    by_cases hbefore : zoneBefore z.bounds i y.bounds j = true
    · rw [if_pos hbefore]
      rw [zoneBefore_iff hkind.symm] at hbefore
      refine ⟨[], j :: rest, rfl, rfl, List.pairwise_cons.mpr ⟨fun k hk x w hx hw => ?_, hl⟩⟩
      cases hi.symm.trans hx
      rcases List.mem_cons.mp hk with rfl | hk
      · cases hy.symm.trans hw; exact hbefore
      · exact hbefore.trans (hji k hk y w hy hw)
    · rw [if_neg hbefore]
      rw [zoneBefore_iff hkind.symm] at hbefore
      have hafter : ComesBefore y j z i := (ComesBefore.total hne).resolve_left hbefore
      obtain ⟨before, after, hsplit, hins, hord⟩ :=
        ih (fun h => hnot (List.mem_cons_of_mem _ h)) (fun k hk => hlive k (List.mem_cons_of_mem _ hk)) hrest
      refine ⟨j :: before, after, by rw [hsplit]; rfl, by rw [hins]; rfl, List.pairwise_cons.mpr ⟨fun k hk x w hx hw => ?_, hord⟩⟩
      cases hy.symm.trans hx
      rcases List.mem_append.mp hk with hk | hk
      · exact hji k (by rw [hsplit]; exact List.mem_append_left _ hk) y w hy hw
      rcases List.mem_cons.mp hk with rfl | hk
      · cases hi.symm.trans hw; exact hafter
      · exact hji k (by rw [hsplit]; exact List.mem_append_right _ hk) y w hy hw

/-! ### Intersections -/

theorem intersects_comm (b c : Bounds) : intersects b c = intersects c b := by
  cases b <;> cases c <;> simp only [intersects]
  · exact Bool.and_comm ..
  · exact Bool.or_comm ..

theorem intersects_kind {b c : Bounds} (h : intersects b c = true) : b.kind = c.kind := by
  cases b <;> cases c <;> simp [intersects, Bounds.kind] at h ⊢

theorem conflicts_iff (b : Bounds) (exclusive : Bool) (y : Zone) : conflicts b exclusive y = true ↔ Collides b exclusive y := by
  simp [conflicts, Collides]

/-! ### What the lists and the exclusivity depend on -/

/-- Two parts hold zones of the same axis and bounds, and with the same exclusivity, in the same slots. -/
def SameOutlines (s t : State) : Prop :=
  ∀ i, (t.zone i).map (fun z => (z.axis, z.bounds, z.exclusive)) = (s.zone i).map fun z => (z.axis, z.bounds, z.exclusive)

theorem SameOutlines.symm {s t : State} (h : SameOutlines s t) : SameOutlines t s := fun i => (h i).symm

theorem SameOutlines.some {s t : State} (h : SameOutlines s t) {i : SlotNo} {y : Zone} (hy : t.zone i = some y) :
    ∃ z, s.zone i = some z ∧ z.axis = y.axis ∧ z.bounds = y.bounds ∧ z.exclusive = y.exclusive := by
  have hi := h i
  rw [hy, Option.map_some, eq_comm, Option.map_eq_some_iff] at hi
  obtain ⟨z, hz, e⟩ := hi
  simp only [Prod.mk.injEq] at e
  exact ⟨z, hz, e⟩

theorem zoneList_congr {s t : State} (h : SameLists s t) (n : Axis) (k : Kind) : t.zoneList n k = s.zoneList n k := by
  obtain ⟨ha, hp⟩ := h
  cases k
  · simp only [State.zoneList, ha]
  · simp only [State.zoneList, hp]

theorem TableOk.congr {s t : State} (h : TableOk s) (hd : t.device = s.device) (hl : SameLists s t) (ho : SameOutlines s t) :
    TableOk t := by
  refine ⟨fun n k => ?_, fun hrun i j y z hij hy hz haxis hmeet => ?_⟩
  · have := h.lists n k
    rw [zoneList_congr hl, hd]
    cases hdev : s.device with
    | starting => simpa only [hdev] using this
    | running =>
      simp only [hdev] at this ⊢
      refine ⟨fun i => ?_, this.2.congr fun j _ y hy => ?_⟩
      · rw [zoneList_congr hl, this.1 i]
        constructor
        · rintro ⟨z, hz, hn, hk⟩
          obtain ⟨y, hy, ha, hb, _⟩ := ho.symm.some hz
          exact ⟨y, hy, ha.trans hn, by rw [hb]; exact hk⟩
        · rintro ⟨z, hz, hn, hk⟩
          obtain ⟨y, hy, ha, hb, _⟩ := ho.some hz
          exact ⟨y, hy, ha.trans hn, by rw [hb]; exact hk⟩
      · obtain ⟨x, hx, _, hb, _⟩ := ho.some hy
        exact ⟨x, hx, hb⟩
  · obtain ⟨y', hy', hya, hyb, hye⟩ := ho.some hy
    obtain ⟨z', hz', hza, hzb, hze⟩ := ho.some hz
    rw [← hye, ← hze]
    exact h.exclusive (hd ▸ hrun) i j y' z' hij hy' hz' (by rw [hya, hza, haxis]) (by rw [hyb, hzb, hmeet])

theorem TableOk.holds {s : State} (h : TableOk s) (hd : s.device = .running) (n : Axis) (k : Kind) : HoldsExactly s n k := by
  have := h.lists n k
  simp only [hd] at this
  exact this.1

theorem TableOk.inOrder {s : State} (h : TableOk s) (hd : s.device = .running) (n : Axis) (k : Kind) :
    InOrder s (s.zoneList n k) := by
  have := h.lists n k
  simp only [hd] at this
  exact this.2

theorem TableOk.nodup {s : State} (h : TableOk s) (hd : s.device = .running) (n : Axis) (k : Kind) :
    (s.zoneList n k).Nodup :=
  (h.inOrder hd n k).nodup fun i hi => by
    obtain ⟨z, hz, _⟩ := (h.holds hd n k i).mp hi
    simp [hz]

/-! ### Collisions -/

theorem firstConflict_eq_none_iff {s : State} (h : TableOk s) (hd : s.device = .running) (n : Axis) (b : Bounds)
    (exclusive : Bool) (self : Option SlotNo) : firstConflict s n b exclusive self = none ↔ NoCollision s n b exclusive self := by
  unfold firstConflict NoCollision
  rw [List.findSome?_eq_none_iff]
  constructor
  · intro hall j y hself hy hn hc
    have hj : j ∈ s.zoneList n b.kind := (h.holds hd n b.kind j).mpr ⟨y, hy, hn, (intersects_kind hc.1).symm⟩
    have := hall j hj
    simp [hself, hy, (conflicts_iff b exclusive y).mpr hc] at this
  · intro hall j hj
    obtain ⟨y, hy, hn, _⟩ := (h.holds hd n b.kind j).mp hj
    by_cases hself : some j = self
    · simp [hself]
    · have : ¬conflicts b exclusive y = true := fun hc => hall j y hself hy hn ((conflicts_iff b exclusive y).mp hc)
      simp [hself, hy, this]

theorem firstConflict_of_firstCollision {s : State} {n : Axis} {b : Bounds} {exclusive : Bool} {self : Option SlotNo}
    {h : Handle} (hc : FirstCollision s n b exclusive self h) : firstConflict s n b exclusive self = some h := by
  obtain ⟨before, after, y, hl, hself, hy, hi, hcol, hfirst⟩ := hc
  unfold firstConflict
  rw [hl, List.findSome?_eq_some_iff]
  refine ⟨before, h.slot, after, rfl, ?_, fun j hj => ?_⟩
  · simp [hself, hy, (conflicts_iff b exclusive y).mpr hcol, handleAt, hi]
  · by_cases hjs : some j = self
    · simp [hjs]
    · cases hx : s.zone j with
      | none => simp [hjs]
      | some x =>
        have : ¬conflicts b exclusive x = true := fun e => hfirst j hj hjs x hx ((conflicts_iff b exclusive x).mp e)
        simp [hjs, this]

/-- Exclusivity holds of a part in which slot `i` has a zone that collides with no other. -/
theorem exclusiveOk_of_noCollision {s t : State} {i : SlotNo} {y : Zone} (h : ExclusiveOk s) (hd : s.device = .running)
    (hi : t.zone i = some y) (hother : ∀ j, j ≠ i → t.zone j = s.zone j)
    (hfree : NoCollision s y.axis y.bounds y.exclusive (some i)) : ExclusiveOk t := by
  have key : ∀ j x, j ≠ i → t.zone j = some x → y.axis = x.axis → intersects y.bounds x.bounds = true →
      y.exclusive = false ∧ x.exclusive = false := by
    intro j x hji hx haxis hmeet
    rw [hother j hji] at hx
    have := hfree j x (by simpa using hji) hx haxis.symm
    simpa [Collides, hmeet] using this
  intro _ a b u v hab hu hv haxis hmeet
  by_cases ha : a = i
  · subst ha
    cases hi.symm.trans hu
    exact key b v hab.symm hv haxis hmeet
  · by_cases hb : b = i
    · subst hb
      cases hi.symm.trans hv
      rw [intersects_comm] at hmeet
      exact (key a u hab hu haxis.symm hmeet).symm
    · rw [hother a ha] at hu
      rw [hother b hb] at hv
      exact h hd a b u v hab hu hv haxis hmeet

/-! ### A zone enters the table, and leaves it -/

theorem setSlot_zone_other {s : State} {i j : SlotNo} {v : Slot} (h : j ≠ i) : (s.setSlot i v).zone j = s.zone j := by
  rw [State.setSlot_zone, if_neg h]

theorem setSlot_zone_live (s : State) (i : SlotNo) (z : Zone) : (s.setSlot i (.live z)).zone i = some z := by
  rw [State.setSlot_zone, if_pos rfl]

/-- A slot without a zone becomes LIVE with a zone that collides with none, and the zone enters its list: the lists stay exact
and in order, and the zone stands at its place in its list (R8 to R11). -/
theorem tableOk_enterList {s : State} {i : SlotNo} {y : Zone} (h : TableOk s) (hd : s.device = .running)
    (hi : s.zone i = none) (hfree : NoCollision s y.axis y.bounds y.exclusive (some i)) :
    let t := enterList i y (s.setSlot i (.live y))
    TableOk t ∧ ListsMove s t i none (some (y.axis, y.bounds.kind)) := by
  intro t
  have hti : t.zone i = some y := by
    change (State.setZoneList ..).zone i = _
    rw [State.setZoneList_get_zone, setSlot_zone_live]
  have htj : ∀ j, j ≠ i → t.zone j = s.zone j := fun j hj => by
    change (State.setZoneList ..).zone j = _
    rw [State.setZoneList_get_zone, setSlot_zone_other hj]
  have hnot : ∀ n k, i ∉ s.zoneList n k := fun n k hm => by
    obtain ⟨z, hz, _⟩ := (h.holds hd n k i).mp hm
    simp [hi] at hz
  have hne : ∀ {n k j}, j ∈ s.zoneList n k → j ≠ i := fun hj e => hnot _ _ (e ▸ hj)
  have hlist : ∀ n k, t.zoneList n k = if n = y.axis ∧ k = y.bounds.kind then
      insertOrdered (s.setSlot i (.live y)) i y.bounds (s.zoneList y.axis y.bounds.kind) else s.zoneList n k :=
    fun n k => State.setZoneList_at ..
  obtain ⟨before, after, hsplit, hins, hord⟩ := insertOrdered_spec (s := s.setSlot i (.live y)) (setSlot_zone_live s i y)
    (hnot y.axis y.bounds.kind) (fun j hj => by
      rw [setSlot_zone_other (hne hj)]
      obtain ⟨z, hz, _, hk⟩ := (h.holds hd _ _ j).mp hj
      exact ⟨z, hz, hk⟩)
    ((h.inOrder hd _ _).congr fun j hj z hz => ⟨z, by rwa [setSlot_zone_other (hne hj)] at hz, rfl⟩)
  have hordt : InOrder t (before ++ i :: after) := hord.congr fun j _ z hz => ⟨z, by
    change (State.setZoneList ..).zone j = _ at hz
    rwa [State.setZoneList_get_zone] at hz, rfl⟩
  refine ⟨⟨fun n k => ?_, exclusiveOk_of_noCollision h.exclusive hd hti htj hfree⟩, fun n k => ?_⟩
  · have htd : t.device = .running := by
      change (State.setZoneList ..).device = _
      rw [State.setZoneList_device]; exact hd
    simp only [htd]
    by_cases hnk : n = y.axis ∧ k = y.bounds.kind
    · obtain ⟨rfl, rfl⟩ := hnk
      rw [HoldsExactly, hlist, if_pos ⟨rfl, rfl⟩, hins]
      refine ⟨fun j => ?_, hordt⟩
      by_cases hj : j = i
      · subst hj
        exact ⟨fun _ => ⟨y, hti, rfl, rfl⟩, fun _ => by simp⟩
      · rw [htj j hj, ← h.holds hd _ _ j, hsplit]
        simp [hj]
    · rw [HoldsExactly, hlist, if_neg hnk]
      refine ⟨fun j => ?_, (h.inOrder hd n k).congr fun j hj z hz => ⟨z, by rwa [htj j (hne hj)] at hz, rfl⟩⟩
      by_cases hj : j = i
      · subst hj
        refine ⟨fun hm => absurd hm (hnot n k), ?_⟩
        rintro ⟨z, hz, hn, hk⟩
        cases hti.symm.trans hz
        exact absurd ⟨hn.symm, hk.symm⟩ hnk
      · rw [htj j hj]; exact h.holds hd n k j
  · simp only [reduceCtorEq, if_false]
    by_cases hnk : n = y.axis ∧ k = y.bounds.kind
    · obtain ⟨rfl, rfl⟩ := hnk
      rw [if_pos rfl, hlist, if_pos ⟨rfl, rfl⟩, hins]
      exact ⟨hordt, before, after, hsplit, rfl⟩
    · rw [if_neg (fun e => hnk (by simpa [eq_comm] using e)), hlist, if_neg hnk]

/-- A LIVE slot loses its zone, and the zone leaves its list: the lists stay exact and in order (R8, R9). -/
theorem tableOk_leaveList {s : State} {i : SlotNo} {z : Zone} {v : Slot} (h : TableOk s) (hd : s.device = .running)
    (hi : s.zone i = some z) (hv : ∀ y, v ≠ .live y) :
    let t := leaveList i z (s.setSlot i v)
    TableOk t ∧ ListsMove s t i (some (z.axis, z.bounds.kind)) none := by
  intro t
  have hti : t.zone i = none := by
    change (State.setZoneList ..).zone i = _
    rw [State.setZoneList_get_zone, zone_eq_none_iff, State.setSlot_same]
    exact hv
  have htj : ∀ j, j ≠ i → t.zone j = s.zone j := fun j hj => by
    change (State.setZoneList ..).zone j = _
    rw [State.setZoneList_get_zone, setSlot_zone_other hj]
  have hlist : ∀ n k, t.zoneList n k = if n = z.axis ∧ k = z.bounds.kind then
      (s.zoneList z.axis z.bounds.kind).filter (fun j => decide (j ≠ i)) else s.zoneList n k :=
    fun n k => State.setZoneList_at ..
  have hmem : ∀ n k j, j ∈ t.zoneList n k ↔ j ≠ i ∧ j ∈ s.zoneList n k := by
    intro n k j
    rw [hlist]
    split
    · next hnk => obtain ⟨rfl, rfl⟩ := hnk; simp [and_comm]
    · next hnk =>
      refine ⟨fun hj => ⟨?_, hj⟩, And.right⟩
      rintro rfl
      obtain ⟨y, hy, hn, hk⟩ := (h.holds hd n k j).mp hj
      cases hi.symm.trans hy
      exact hnk ⟨hn.symm, hk.symm⟩
  refine ⟨⟨fun n k => ?_, fun _ a b u w hab hu hw => ?_⟩, fun n k => ?_⟩
  · have htd : t.device = .running := by
      change (State.setZoneList ..).device = _
      rw [State.setZoneList_device]; exact hd
    simp only [htd]
    refine ⟨fun j => ?_, ?_⟩
    · rw [hmem, h.holds hd n k j]
      by_cases hj : j = i
      · subst hj; simp [hti]
      · rw [htj j hj]; simp [hj]
    · have hsub : (t.zoneList n k).Sublist (s.zoneList n k) := by
        rw [hlist]
        split
        · next hnk => obtain ⟨rfl, rfl⟩ := hnk; exact List.filter_sublist
        · exact List.Sublist.refl _
      have hord : InOrder s (t.zoneList n k) := (h.inOrder hd n k).sublist hsub
      exact hord.congr fun j hj y hy => ⟨y, by rwa [htj j ((hmem n k j).mp hj).1] at hy, rfl⟩
  · have ha : a ≠ i := fun e => by subst e; simp [hti] at hu
    have hb : b ≠ i := fun e => by subst e; simp [hti] at hw
    rw [htj a ha] at hu
    rw [htj b hb] at hw
    exact h.exclusive hd a b u w hab hu hw
  · simp only [reduceCtorEq, if_false]
    rw [hlist]
    by_cases hnk : n = z.axis ∧ k = z.bounds.kind
    · obtain ⟨rfl, rfl⟩ := hnk; simp
    · rw [if_neg hnk, if_neg (fun e => hnk (by simpa [eq_comm] using e))]

/-- A LIVE slot's zone moves: it leaves its list and enters, with its new axis and bounds, the list of these (R9). -/
theorem tableOk_moveList {s : State} {i : SlotNo} {z y : Zone} (h : TableOk s) (hd : s.device = .running)
    (hi : s.zone i = some z) (hfree : NoCollision s y.axis y.bounds y.exclusive (some i)) :
    let t := enterList i y (leaveList i z (s.setSlot i (.live y)))
    TableOk t ∧ ListsMove s t i (some (z.axis, z.bounds.kind)) (some (y.axis, y.bounds.kind)) := by
  intro t
  obtain ⟨hu, hleave⟩ := tableOk_leaveList (v := .vacant 0) h hd hi (by simp)
  set u := leaveList i z (s.setSlot i (.vacant 0)) with hudef
  have hui : u.zone i = none := by
    rw [hudef, leaveList, State.setZoneList_get_zone, zone_eq_none_iff, State.setSlot_same]; simp
  have huj : ∀ j, j ≠ i → u.zone j = s.zone j := fun j hj => by
    rw [hudef, leaveList, State.setZoneList_get_zone, setSlot_zone_other hj]
  have hud : u.device = .running := by rw [hudef, leaveList, State.setZoneList_device]; exact hd
  have hfreeu : NoCollision u y.axis y.bounds y.exclusive (some i) := fun j x hj hx => by
    rw [huj j (by simpa using hj)] at hx
    exact hfree j x hj hx
  obtain ⟨ht, henter⟩ := tableOk_enterList hu hud hui hfreeu
  have hsame : u.setSlot i (.live y) = leaveList i z (s.setSlot i (.live y)) := by
    rw [hudef]
    unfold leaveList
    cases z.bounds.kind <;> simp [State.setSlot, State.setZoneList, State.setAbsolute, State.setPeriodic, State.zoneList]
  rw [hsame] at ht henter
  refine ⟨ht, fun n k => ?_⟩
  have h1 := hleave n k
  have h2 := henter n k
  simp only [reduceCtorEq, if_false] at h1 h2 ⊢
  rw [h1] at h2
  exact h2

end Sys2Proof.Machine
end

section
/-! Commands that are refused, that read, or that find nothing to change (R13, R21, R45 to R55, R164), and the records that
SET_LINES, SET_PORTS and FREEZE configure (chapter 9). -/

namespace Sys2Proof.Machine

/-! ### The part as a grant begins -/

@[simp] theorem beginGrant_slot (p : Port) (s : State) (i : SlotNo) : (beginGrant p s).slot i = s.slot i := rfl
@[simp] theorem beginGrant_zone (p : Port) (s : State) (i : SlotNo) : (beginGrant p s).zone i = s.zone i := rfl
@[simp] theorem beginGrant_zoneList (p : Port) (s : State) (n : Axis) (k : Kind) :
    (beginGrant p s).zoneList n k = s.zoneList n k := rfl
@[simp] theorem beginGrant_freezeLevel (p : Port) (s : State) : (beginGrant p s).freezeLevel = s.freezeLevel := rfl
@[simp] theorem beginGrant_available (p : Port) (s : State) : (beginGrant p s).available = s.available := rfl
@[simp] theorem beginGrant_device (p : Port) (s : State) : (beginGrant p s).device = s.device := rfl

theorem Due.running {s : State} {p : Port} {c : TableCommand} {tag : Byte} {payload : List Byte}
    (h : Due s p c tag payload) : s.device = .running := (nextClass_eq_some_service h.next).1

theorem Due.takes {s : State} {p : Port} {c : TableCommand} {tag : Byte} {payload : List Byte}
    (h : Due s p c tag payload) (hs : Good s) : s.engine = .idle → s.queue = [] := hs.store.takes h.running

theorem tableOk_beginGrant {s : State} (h : TableOk s) (p : Port) : TableOk (beginGrant p s) :=
  h.congr rfl ⟨rfl, rfl⟩ fun _ => rfl

/-! ### Checks 1 to 4 -/

theorem actOf_badArgs {c : TableCommand} {p : Port} {payload : List Byte} {s : State} (h : argsOk c payload = false) :
    actOf c p payload s = refuse s .badArgs := by
  cases c <;> simp only [argsOk, Option.isSome_eq_false_iff, Option.isNone_iff_eq_none] at h <;>
    simp only [actOf, actCreate, actAmend, actRetire, actArm, actDisarm, actClear, actTransfer, actReleaseAll, actReclaim,
      actReadZone, actFind, actList, actSetAxis, actSetLines, actSetPorts, actFreeze, actReadConfig, h]

/-- A freeze level that refuses a command is not OPEN, and refuses ARM and DISARM only where it is FIXED (R165). -/
theorem refusedAt_frozen {s : State} {c : TableCommand} (h : refusedAt s.freezeLevel c = true) :
    frozenAtLayout s = true ∧ wiringFrozen s = true ∧ (c = .arm ∨ c = .disarm → frozenAtFixed s = true) := by
  unfold frozenAtLayout wiringFrozen frozenAtFixed
  cases hf : s.freezeLevel <;> rw [hf] at h
  · simp [refusedAt] at h
  · refine ⟨rfl, rfl, ?_⟩
    rintro (rfl | rfl) <;> simp [refusedAt] at h
  · exact ⟨rfl, rfl, fun _ => rfl⟩

theorem actOf_frozen {c : TableCommand} {p : Port} {payload : List Byte} {s : State} (hargs : argsOk c payload = true)
    (h : refusedAt s.freezeLevel c = true) : actOf c p payload s = refuse s .frozen := by
  obtain ⟨hlayout, hwiring, hfixed⟩ := refusedAt_frozen h
  cases c
  case clear | readZone | find | list | setPorts | freeze | readConfig =>
    cases hf : s.freezeLevel <;> simp [hf, refusedAt] at h
  case arm | disarm =>
    obtain ⟨x, hx⟩ := Option.isSome_iff_exists.mp hargs
    simp only [actOf, actArm, actDisarm, hx, zoneChecks, hfixed (by decide), if_true]
  all_goals
    obtain ⟨x, hx⟩ := Option.isSome_iff_exists.mp hargs
    simp only [actOf, actCreate, actAmend, actRetire, actTransfer, actReleaseAll, actReclaim, actSetAxis, actSetLines, hx,
      zoneChecks, hlayout, hwiring, if_true]

/-- What checks 3 and 4 refuse is the result of every command that they guard (R3, R6, R13). -/
theorem actOf_zoneChecks_error {c : TableCommand} {p : Port} {payload : List Byte} {s : State} {h : Handle} {r : Result}
    (hc : guardedHandle c payload = some h) (hfree : refusedAt s.freezeLevel c = false)
    (hz : zoneChecks p false h s = .error r) : actOf c p payload s = refuse s r := by
  have hlayout : c ∈ ([.amend, .retire, .transfer] : List TableCommand) → frozenAtLayout s = false := by
    intro hm
    rw [frozenAtLayout_eq_false]
    cases hf : s.freezeLevel
    · rfl
    all_goals
      rw [hf] at hfree
      fin_cases hm <;> simp [refusedAt] at hfree
  have hfixed : c ∈ ([.arm, .disarm] : List TableCommand) → frozenAtFixed s = false := by
    intro hm
    rw [frozenAtFixed_eq_false]
    intro hf
    rw [hf] at hfree
    fin_cases hm <;> simp [refusedAt] at hfree
  cases c <;> simp only [guardedHandle, Option.map_eq_some_iff, reduceCtorEq] at hc
  case amend =>
    obtain ⟨x, hx, rfl⟩ := hc
    simp only [actOf, actAmend, hx, hlayout (by simp), hz]
  case transfer =>
    obtain ⟨⟨h', o⟩, hx, rfl⟩ := hc
    simp only [actOf, actTransfer, hx, hlayout (by simp), hz]
  case retire => simp only [actOf, actRetire, hc, hlayout (by simp), hz]
  case arm => simp only [actOf, actArm, hc, hfixed (by simp), hz]
  case disarm => simp only [actOf, actDisarm, hc, hfixed (by simp), hz]
  case clear => simp only [actOf, actClear, hc, hz]

theorem zoneChecks_resolve_error {p : Port} {h : Handle} {s : State} {r : Result} (hr : resolve s h = .error r) :
    zoneChecks p false h s = .error r := by
  simp [zoneChecks, hr]

/-- A handle that does not resolve is refused by every command that takes one (R3, R45). -/
theorem actOf_resolve_error {c : TableCommand} {p : Port} {payload : List Byte} {s : State} {h : Handle} {r : Result}
    (hc : guardedHandle c payload = some h ∨ (c = .readZone ∧ parseHandle payload = some h))
    (hfree : refusedAt s.freezeLevel c = false) (hr : resolve s h = .error r) : actOf c p payload s = refuse s r := by
  rcases hc with hc | ⟨rfl, hp⟩
  · exact actOf_zoneChecks_error hc hfree (zoneChecks_resolve_error hr)
  · simp only [actOf, actReadZone, hp, hr]

theorem zoneChecks_notOwner {p : Port} {h : Handle} {s : State} {z : Zone} (hz : s.slot h.slot = .live z)
    (hi : z.incarnation = h.incarnation) (ho : z.owner = ownerOf p.other) : zoneChecks p false h s = .error .notOwner := by
  have hpass : ownerPasses z p = false := by
    rw [← Bool.not_eq_true, ownerPasses_iff]; exact fun hn => hn ho
  simp [zoneChecks, resolve, hz, hi, hpass]

/-- Settles O19: checks 1 to 4 in their order, each a refusal of the command. -/
theorem checksAreMadeInOrder : Obligations.ChecksAreMadeInOrder := by
  refine ⟨fun s p c tag payload h => ⟨fun hargs => ?_, fun hargs hf => ?_⟩,
    fun s p c tag payload x h hc hfree => ⟨fun hs => ?_, fun hs => ?_⟩, fun s p c tag payload x z h hc hfree hz hi ho => ?_⟩
  · exact grant_answered h (actOf_badArgs hargs)
  · exact grant_answered h (actOf_frozen hargs hf)
  · exact grant_answered h (actOf_resolve_error hc hfree (resolve_stale hs))
  · exact grant_answered h (actOf_resolve_error hc hfree (resolve_quarantined hs))
  · exact grant_answered h (actOf_zoneChecks_error hc hfree (zoneChecks_notOwner hz hi ho))

/-! ### CREATE and AMEND refused -/

theorem parseCreate_frozen {s : State} (h : s.freezeLevel = .opened) (p : Port) : frozenAtLayout (beginGrant p s) = false :=
  frozenAtLayout_eq_false.mpr h

theorem namesQuarantined_eq_false {requested : Option SlotNo} {s : State}
    (h : ∀ i, requested = some i → s.slot i ≠ .quarantined) : namesQuarantined requested s = false := by
  cases requested with
  | none => rfl
  | some i => simpa [namesQuarantined] using h i rfl

/-- A CREATE ends as the slot that it is given lets it (R12, R13). -/
def createGiven (p : Port) (x : CreateArgs) (s : State) : Except Result (SlotNo × Byte) → Ending
  | .error r => refuse s r
  | .ok (i, remembered) => createTaken p x i remembered s

/-- A CREATE whose checks 1 to 7 pass is given a slot, or refused by check 8 (R12, R13). -/
theorem actCreate_of_checks {p : Port} {payload : List Byte} {s : State} {x : CreateArgs}
    (hparse : parseCreate payload = some x) (hopen : s.freezeLevel = .opened)
    (hq : ∀ i, x.slot = some i → s.slot i ≠ .quarantined) (hb : boundsOk x.bounds x.hysteresis = true)
    (hfree : firstConflict s x.axis x.bounds x.exclusive none = none) :
    actCreate p payload s = createGiven p x s (chooseSlot x.slot s) := by
  simp only [actCreate, hparse, frozenAtLayout_eq_false.mpr hopen, namesQuarantined_eq_false hq, hb, hfree, Bool.not_true,
    Bool.false_eq_true, if_false]
  cases chooseSlot x.slot s <;> rfl

theorem lowestVacant_eq_none {s : State} (h : ∀ i r, s.slot i ≠ .vacant r) : lowestVacant s = none := by
  unfold lowestVacant
  rw [List.find?_eq_none]
  intro i _
  cases hi : s.slot i with
  | vacant r => exact absurd hi (h i r)
  | live z => simp
  | quarantined => simp

/-- Settles O21: the checks of a CREATE in their order. -/
theorem createIsRefused : Obligations.CreateIsRefused := by
  intro s p tag payload x hs h hparse hopen
  have htable := tableOk_beginGrant hs.table p
  refine ⟨fun i hi hq => ?_, fun hq => ⟨fun hb => ?_, fun hb => ⟨fun c hc => ?_, fun hfree => ⟨fun i z hi hz => ?_, fun hi hv => ?_⟩⟩⟩⟩
  · refine grant_answered h ?_
    have hn : namesQuarantined x.slot (beginGrant p s) = true := by simp [namesQuarantined, hi, hq]
    simp only [actOf, actCreate, hparse, parseCreate_frozen hopen p, hn, Bool.false_eq_true, if_false, if_true]
    rfl
  · refine grant_answered h ?_
    simp only [actOf, actCreate, hparse, parseCreate_frozen hopen p, namesQuarantined_eq_false (s := beginGrant p s) hq, hb,
      Bool.not_false, Bool.false_eq_true, if_false, if_true]
    rfl
  · refine grant_answered h ?_
    have hcol : firstConflict (beginGrant p s) x.axis x.bounds x.exclusive none = some c := firstConflict_of_firstCollision hc
    simp only [actOf, actCreate, hparse, parseCreate_frozen hopen p, namesQuarantined_eq_false (s := beginGrant p s) hq, hb,
      hcol, Bool.not_true, Bool.false_eq_true, if_false]
    rfl
  · refine grant_answered h ?_
    change actCreate p payload (beginGrant p s) = _
    rw [actCreate_of_checks (s := beginGrant p s) hparse hopen hq hb ((firstConflict_eq_none_iff htable h.running _ _ _ _).mpr hfree)]
    simp only [chooseSlot, hi, beginGrant_slot, hz]
    rfl
  · refine grant_answered h ?_
    change actCreate p payload (beginGrant p s) = _
    rw [actCreate_of_checks (s := beginGrant p s) hparse hopen hq hb ((firstConflict_eq_none_iff htable h.running _ _ _ _).mpr hfree)]
    simp only [chooseSlot, hi, lowestVacant_eq_none (s := beginGrant p s) hv]
    rfl

theorem zonePasses_beginGrant {s : State} {p : Port} {h : Handle} {z : Zone} (hz : s.zone h.slot = some z)
    (hi : z.incarnation = h.incarnation) (ho : z.owner ≠ ownerOf p.other) :
    zoneChecks p false h (beginGrant p s) = .ok z :=
  zoneChecks_eq_ok_iff.mpr ⟨rfl, hz, hi, ho⟩

/-- Settles O23: the checks of an AMEND in their order. -/
theorem amendIsRefused : Obligations.AmendIsRefused := by
  intro s p tag payload x z hs h hparse hopen hz hi ho
  have hchecks := zonePasses_beginGrant hz hi ho
  have hfrozen := parseCreate_frozen hopen p
  refine ⟨fun ht hn => ?_, fun hallowed => ⟨fun hnone => ?_, fun y hy => ⟨fun hb => ?_, fun hb c hc => ?_⟩⟩⟩
  · refine grant_answered h ?_
    simp only [actOf, actAmend, hparse, hfrozen, hchecks, ht, hn, and_self, if_true]
    rfl
  all_goals
    have hpass : ¬(z.occupancy = .tripped ∧ x.namesGeometryOrAction = true) := fun ⟨ht, hn⟩ => by simp [hallowed ht] at hn
    refine grant_answered h ?_
  · simp only [actOf, actAmend, hparse, hfrozen, hchecks, hpass, if_false, hnone]
    rfl
  · simp only [actOf, actAmend, hparse, hfrozen, hchecks, hpass, if_false, hy, hb, Bool.not_false, if_true]
    rfl
  · have hcol : firstConflict (beginGrant p s) y.axis y.bounds y.exclusive (some x.handle.slot) = some c :=
      firstConflict_of_firstCollision hc
    simp only [actOf, actAmend, hparse, hfrozen, hchecks, hpass, if_false, hy, hb, Bool.not_true, Bool.false_eq_true, hcol]
    rfl

/-! ### Nothing to change -/

/-- A zone of a part that is in order collides with no other zone of it (R10). -/
theorem noCollision_self {s : State} (h : TableOk s) (hd : s.device = .running) {i : SlotNo} {z : Zone}
    (hz : s.zone i = some z) : NoCollision s z.axis z.bounds z.exclusive (some i) := by
  intro j y hj hy hn ⟨hmeet, hex⟩
  have hne : i ≠ j := fun e => hj (by rw [e])
  obtain ⟨h1, h2⟩ := h.exclusive hd i j z y hne hz hy hn.symm hmeet
  simp [h1, h2] at hex

/-- Settles O24: each of the five finds the zone as it would make it. -/
theorem commandsWithoutAChange : Obligations.CommandsWithoutAChange := by
  intro s p tag payload h z hs hz hi ho
  have hchecks := zonePasses_beginGrant hz hi ho
  refine ⟨fun x hdue hparse hx hopen hallowed happly => ?_, fun hdue hparse hf ha => ?_, fun hdue hparse hf ha => ?_,
    fun hdue hparse ht => ?_, fun o hdue hparse hopen hown => ?_⟩
  · subst hx
    refine grant_changes_nothing hdue (hdue.takes hs) ?_
    have hpass : ¬(z.occupancy = .tripped ∧ x.namesGeometryOrAction = true) := fun ⟨ht, hn⟩ => by simp [hallowed ht] at hn
    have hfree : firstConflict (beginGrant p s) z.axis z.bounds z.exclusive (some x.handle.slot) = none :=
      (firstConflict_eq_none_iff (tableOk_beginGrant hs.table p) hdue.running _ _ _ _).mpr
        (noCollision_self hs.table hdue.running hz)
    simp only [actOf, actAmend, hparse, parseCreate_frozen hopen p, hchecks, hpass, if_false, happly,
      (hs.zones _ _ hz).bounds, Bool.not_true, Bool.false_eq_true, hfree, if_true]
    rfl
  · refine grant_changes_nothing hdue (hdue.takes hs) ?_
    simp only [actOf, actArm, hparse, frozenAtFixed_eq_false.mpr (show (beginGrant p s).freezeLevel ≠ .fixed from hf), hchecks,
      ha, if_true]
    rfl
  · refine grant_changes_nothing hdue (hdue.takes hs) ?_
    have ht : ¬z.occupancy = .tripped := by rw [(hs.zones _ _ hz).disarmed ha]; decide
    simp only [actOf, actDisarm, hparse, frozenAtFixed_eq_false.mpr (show (beginGrant p s).freezeLevel ≠ .fixed from hf),
      hchecks, ht, ha, Bool.not_false, if_false, if_true]
    rfl
  · refine grant_changes_nothing hdue (hdue.takes hs) ?_
    simp only [actOf, actClear, hparse, hchecks, ht, ne_eq, not_false_eq_true, if_true]
    rfl
  · refine grant_changes_nothing hdue (hdue.takes hs) ?_
    simp only [actOf, actTransfer, hparse, parseCreate_frozen hopen p, hchecks, hown, if_true]
    rfl

/-! ### Reads -/

theorem paddedLabel_eq {label : List Byte} (h : label.length ≤ 8) :
    paddedLabel label = label ++ List.replicate (8 - label.length) 0 := by
  unfold paddedLabel
  rw [List.take_append, List.take_of_length_le h, List.take_replicate, Nat.min_eq_left (Nat.sub_le _ _)]

theorem durability_eq (s : State) (k : ItemNo) : durability s k =
    if (s.item k).copies[0] = .worn ∧ (s.item k).copies[1] = .worn then .notDurable
    else if k ∈ s.queue.map QueueEntry.item ∨ (inFlight s).map Prod.fst = some k then .pending else .committed := by
  have hworn : (s.item k).bothWorn = true ↔ (s.item k).copies[0] = .worn ∧ (s.item k).copies[1] = .worn := by
    simp [ItemEntry.bothWorn, CopyState.isWorn]
  unfold durability
  simp only [hworn]
  cases inFlight s <;> simp [List.mem_map]

theorem parseConfigItem_ofNat (k : ItemNo) (h : 96 ≤ k.val) : parseConfigItem [BitVec.ofNat 8 k.val] = some k := by
  have hk : (BitVec.ofNat 8 k.val).toNat = k.val := by rw [BitVec.toNat_ofNat]; omega
  unfold parseConfigItem
  simp only [hk]
  rw [dif_pos ⟨h, by omega⟩]

theorem itemKind_axis {k : ItemNo} {n : Axis} (h : itemKind k = .axis n) : k.val = 96 + n.val := by
  unfold itemKind at h
  split at h
  · cases h
  · split at h
    · cases h; simp; omega
    · split at h
      · cases h
      · split at h <;> cases h

theorem itemKind_slot {k : ItemNo} {i : SlotNo} (h : itemKind k = .slot i) : k.val = i.val := by
  unfold itemKind at h
  split at h
  · cases h; rfl
  · split at h
    · cases h
    · split at h
      · cases h
      · split at h <;> cases h

/-- The nine content bytes of a configuration item as its image holds them (R164, R187). -/
theorem configContent_eq (s : State) {k : ItemNo} (h : 96 ≤ k.val) : configContent s k = contentOf s k := by
  unfold configContent snapshot contentOf
  cases hk : itemKind k with
  | slot i => exact absurd (itemKind_slot hk) (by omega)
  | axis n => rfl
  | lines => rfl
  | ports => rfl
  | freeze => rfl

/-- Settles O29: what each read returns, and the durability by its three cases. -/
theorem readsReturnTheRecords : Obligations.ReadsReturnTheRecords := by
  refine ⟨fun s p tag payload h z hs hdue hparse hz hi => ?_, fun s p tag k hs hk hdue => ?_, fun s k => durability_eq s k⟩
  · have hlabel := (hs.zones _ _ hz).label
    obtain ⟨t, ht, hanswered, hnothing⟩ := grant_changes_nothing (r := .ok) (bytes := zoneRecord s h.slot z) hdue
      (hdue.takes hs) (by
        have hr : resolve (beginGrant p s) h = .ok z := resolve_eq_ok_iff.mpr ⟨hz, hi⟩
        simp only [actOf, actReadZone, hparse, hr]
        rfl)
    refine ⟨t, ht, hnothing, ?_⟩
    have hcode : durabilityCode (zoneDurability s h.slot z) =
        if z.persistent then durabilityCode (durability s (slotItem h.slot)) else 2 := by
      unfold zoneDurability; split <;> rfl
    rw [zoneRecord, hcode, paddedLabel_eq hlabel, handleAt, hi] at hanswered
    exact hanswered
  · obtain ⟨t, ht, hanswered, hnothing⟩ := grant_changes_nothing (r := .ok) (bytes := configRecord s k) hdue
      (hdue.takes hs) (by simp only [actOf, actReadConfig, parseConfigItem_ofNat k hk]; rfl)
    refine ⟨t, ht, hnothing, ?_⟩
    rw [configRecord, configContent_eq s hk] at hanswered
    exact hanswered

/-! ### FIND and LIST -/

/-- A slot's zone passes a test. -/
def zoneTest (s : State) (test : Zone → Bool) (i : SlotNo) : Bool :=
  match s.zone i with
  | some z => test z
  | none => false

/-- The handles of the zones that pass a test are those of the slots whose zone passes it. -/
theorem handlesWhere_eq (s : State) (test : Zone → Bool) (l : List SlotNo) :
    handlesWhere s test l = (l.filter (zoneTest s test)).map (handleIn s) := by
  unfold handlesWhere
  induction l with
  | nil => rfl
  | cons i l ih =>
    rw [List.filterMap_cons]
    cases hz : s.zone i with
    | none => simp [ih, zoneTest, hz]
    | some z =>
      have hhead : zoneTest s test i = test z := by simp [zoneTest, hz]
      have hhandle : handleIn s i = handleAt i z := by simp [handleIn, handleAt, hz]
      rw [List.filter_cons, hhead]
      cases ht : test z
      · simpa [ht] using ih
      · simp only [ht, if_true, List.map_cons, hhandle, ih]

theorem zoneTest_true {s : State} {l : List SlotNo} (h : ∀ i ∈ l, s.zone i ≠ none) :
    l.filter (zoneTest s fun _ => true) = l := by
  rw [List.filter_eq_self]
  intro i hi
  obtain ⟨z, hz⟩ := Option.ne_none_iff_exists'.mp (h i hi)
  simp [zoneTest, hz]

theorem mem_zoneList_live {s : State} (h : TableOk s) (hd : s.device = .running) {n : Axis} {k : Kind} {i : SlotNo}
    (hi : i ∈ s.zoneList n k) : s.zone i ≠ none := by
  obtain ⟨z, hz, _⟩ := (h.holds hd n k i).mp hi
  simp [hz]

theorem mem_bothLists_iff {s : State} (h : TableOk s) (hd : s.device = .running) {n : Axis} {i : SlotNo} :
    i ∈ s.zoneList n .absolute ++ s.zoneList n .periodic ↔ ∃ z, s.zone i = some z ∧ z.axis = n := by
  rw [List.mem_append, h.holds hd n .absolute i, h.holds hd n .periodic i]
  constructor
  · rintro (⟨z, hz, hn, _⟩ | ⟨z, hz, hn, _⟩) <;> exact ⟨z, hz, hn⟩
  · rintro ⟨z, hz, hn⟩
    cases hk : z.bounds.kind
    · exact .inl ⟨z, hz, hn, hk⟩
    · exact .inr ⟨z, hz, hn, hk⟩

/-- No slot stands twice in the two lists of an axis. -/
theorem bothLists_nodup {s : State} (h : TableOk s) (hd : s.device = .running) (n : Axis) :
    (s.zoneList n .absolute ++ s.zoneList n .periodic).Nodup := by
  rw [List.nodup_append]
  refine ⟨h.nodup hd n .absolute, h.nodup hd n .periodic, fun i hi j hj hij => ?_⟩
  subst hij
  obtain ⟨z, hz, _, hk⟩ := (h.holds hd n .absolute i).mp hi
  obtain ⟨y, hy, _, hk'⟩ := (h.holds hd n .periodic i).mp hj
  cases hz.symm.trans hy
  rw [hk] at hk'
  cases hk'

theorem entriesAfter_append {i : SlotNo} {before : List SlotNo} (following : List SlotNo) (h : i ∉ before) :
    entriesAfter i (before ++ i :: following) = following := by
  induction before with
  | nil => simp [entriesAfter]
  | cons j before ih =>
    rw [List.mem_cons, not_or] at h
    simp [entriesAfter, Ne.symm h.1, ih h.2]

theorem parseHandle_incarnation {a b : Byte} {h : Handle} (hh : handleOf a b = some h) : h.incarnation ≠ 0 := by
  unfold handleOf at hh
  split at hh
  · cases hh
  · next hb =>
    obtain ⟨i, _, rfl⟩ := Option.map_eq_some_iff.mp hh
    exact hb

theorem cursor_incarnation {payload : List Byte} {n : Axis} {k : Kind} {h : Handle}
    (hp : parseList payload = some (n, k, .handle h)) : h.incarnation ≠ 0 := by
  unfold parseList at hp
  split at hp
  · split at hp
    · next hc =>
      cases hp
      unfold cursorOf at hc
      split at hc
      · cases hc
      · obtain ⟨h', hh, e⟩ := Option.map_eq_some_iff.mp hc
        cases e
        exact parseHandle_incarnation hh
    · cases hp
  · cases hp

/-- A cursor names the zone that its slot holds (R53). -/
theorem handleIn_eq_iff {s : State} {h : Handle} (hne : h.incarnation ≠ 0) :
    handleIn s h.slot = h ↔ ∃ z, s.zone h.slot = some z ∧ z.incarnation = h.incarnation := by
  unfold handleIn
  obtain ⟨i, b⟩ := h
  cases hz : s.zone i with
  | none => simpa using Ne.symm hne
  | some z => simp

theorem flagOfLength (n : Nat) : yesNo (decide (8 < n)) = if 8 < n then 1 else 0 := by
  by_cases h : 8 < n <;> simp [yesNo, h]

/-- A LIST that has entries to return. -/
theorem actList_of_entries {p : Port} {payload : List Byte} {s : State} {n : Axis} {k : Kind} {c : Cursor}
    {following : List SlotNo} (hparse : parseList payload = some (n, k, c)) (he : entriesFrom s n k c = some following)
    (hlive : ∀ i ∈ following, s.zone i ≠ none) :
    actList p payload s = readAnswer s
      ((if 8 < following.length then 1 else 0) :: ((following.take 8).map (handleIn s)).flatMap handleBytes) := by
  have hlive8 : ∀ i ∈ following.take 8, s.zone i ≠ none := fun i hi => hlive i (List.mem_of_mem_take hi)
  simp only [actList, hparse, he, handlesWhere_eq, Config.handlesPerPage, zoneTest_true hlive8, ← flagOfLength]
  rfl

/-- Settles O30: FIND filters the two lists of its axis, and LIST returns what follows its cursor. -/
theorem findAndListReturnHandles : Obligations.FindAndListReturnHandles := by
  refine ⟨fun s p tag payload n x hs hdue hparse => ?_, fun s p tag payload n k c hs hdue hparse =>
    ⟨fun following hfollow => ?_, fun h hc hlost => ?_⟩⟩
  · set test : Zone → Bool := fun z => z.bounds.contains x with htest
    set found := (s.zoneList n .absolute ++ s.zoneList n .periodic).filter (zoneTest s test) with hfound
    obtain ⟨t, ht, hanswered, hnothing⟩ := grant_changes_nothing (r := .ok)
      (bytes := BitVec.ofNat 8 found.length :: ((found.take 8).map (handleIn s)).flatMap handleBytes) hdue (hdue.takes hs) (by
        have hzones : zonesAt (beginGrant p s) n x = found.map (handleIn s) := handlesWhere_eq ..
        simp only [actOf, actFind, hparse, hzones, List.length_map, Config.handlesPerPage, ← List.map_take]
        rfl)
    refine ⟨t, found, ht, hnothing, hanswered, (bothLists_nodup hs.table hdue.running n).filter _, List.filter_sublist,
      fun i => ?_⟩
    rw [hfound, List.mem_filter, mem_bothLists_iff hs.table hdue.running]
    constructor
    · rintro ⟨⟨z, hz, hn⟩, hcontains⟩
      exact ⟨z, hz, hn, by simpa [zoneTest, hz] using hcontains⟩
    · rintro ⟨z, hz, hn, hcontains⟩
      exact ⟨⟨z, hz, hn⟩, by simpa [zoneTest, hz] using hcontains⟩
  · have hmem : ∀ i ∈ following, i ∈ s.zoneList n k := by
      rcases hfollow with ⟨_, rfl⟩ | ⟨h, before, _, hl, _⟩
      · exact fun i hi => hi
      · intro i hi; rw [hl]; simp [hi]
    have hentries : entriesFrom (beginGrant p s) n k c = some following := by
      rcases hfollow with ⟨rfl, rfl⟩ | ⟨h, before, rfl, hl, hh⟩
      · rfl
      · obtain ⟨z, hz, hi⟩ := (handleIn_eq_iff (cursor_incarnation hparse)).mp hh
        have hin : h.slot ∈ s.zoneList n k := by rw [hl]; simp
        have hnot : h.slot ∉ before := by
          have := hs.table.nodup hdue.running n k
          rw [hl, List.nodup_append] at this
          exact fun hb => this.2.2 _ hb _ List.mem_cons_self rfl
        simp only [entriesFrom, beginGrant_zone, beginGrant_zoneList, hz, hi, hin, and_self, if_true]
        rw [hl, entriesAfter_append following hnot]
    obtain ⟨t, ht, hanswered, hnothing⟩ := grant_changes_nothing hdue (hdue.takes hs)
      (actList_of_entries (p := p) (s := beginGrant p s) hparse hentries fun i hi => mem_zoneList_live hs.table hdue.running (hmem i hi))
    exact ⟨t, ht, hnothing, hanswered⟩
  · subst hc
    obtain ⟨t, ht, hanswered, hnothing⟩ := grant_changes_nothing (r := .cursorLost) (bytes := []) hdue (hdue.takes hs) (by
      have hentries : entriesFrom (beginGrant p s) n k (.handle h) = none := by
        simp only [entriesFrom, beginGrant_zone, beginGrant_zoneList]
        split
        · next z hz =>
          refine if_neg fun ⟨hi, hin⟩ => ?_
          exact hlost.elim (fun hn => hn hin) fun hn => hn ((handleIn_eq_iff (cursor_incarnation hparse)).mpr ⟨z, hz, hi⟩)
        · rfl
      simp only [actOf, actList, hparse, hentries]
      rfl)
    exact ⟨t, ht, hnothing, hanswered⟩

/-! ### SET_LINES, SET_PORTS and FREEZE -/

theorem linesOk_of_recomputed {s t : State} (h : Recomputed s t allLines) (hd : t.device = .running) : LinesOk t := by
  intro l
  simp only [hd]
  have := h l
  rwa [if_pos (by simp [allLines])] at this

theorem flagsByte_noChange (p : Prop) [Decidable p] : flagsByte (decide p) false = if p then 1 else 0 := by
  by_cases h : p <;> simp [flagsByte, h]

theorem ite_decide_not {α : Type} (p : Prop) [Decidable p] (a b : α) : (if decide ¬p then a else b) = if p then b else a := by
  by_cases h : p <;> simp [h]

theorem lines_eq_of_recomputed_nil {s t : State} (h : Recomputed s t []) : t.lines = s.lines := by
  refine Vector.ext fun l hl => ?_
  have := h ⟨l, hl⟩
  rw [if_neg List.not_mem_nil] at this
  exact this

/-- A configuration command that is taken leaves the table and the evaluator as they were. -/
theorem GrantEnded.config_ending {s t u : State} {p : Port} {c : TableCommand} {tag : Byte} {item : ItemNo}
    {changed : Bool} {lines : List LineNo} {bytes : List Byte} (h : GrantEnded s p c tag (configEnding u item changed lines bytes) t) :
    SameTable u t ∧ SameEvaluator u t ∧ SameConfig u t ∧ t.trackers = u.trackers ∧
      Enqueued (if changed then [item] else []) s t ∧ Gained s t nothing ∧ Recomputed s t lines :=
  ⟨h.table, h.evaluator, h.config, h.trackers, h.enqueued, h.gained, h.recomputed⟩

/-- Settles O32: the three commands write their record, and hand on what a change of it asks for. -/
theorem linesPortsAndFreezeAreConfigured : Obligations.LinesPortsAndFreezeAreConfigured := by
  refine ⟨fun s p tag ep pp ev pv hdue hne hopen => ?_, fun s p tag payload x hdue hparse => ?_,
    fun s p tag payload l hdue hparse => ⟨fun hrank => ?_, fun hrank => ?_⟩⟩
  · obtain ⟨t, ht, hend⟩ := grant_ended hdue rfl (workLeaves_actOf ..)
    have hparse : parseSetLines [ep, pp, ev, pv] = some (ep, pp, ev, pv) := by
      simp only [parseSetLines]; exact if_neg (by tauto)
    have hfrozen : wiringFrozen (beginGrant p s) = false := wiringFrozen_eq_false.mpr hopen
    simp only [actOf, actSetLines, hparse, hfrozen, Bool.false_eq_true, if_false] at hend
    have hanswered := hend.answered
    obtain ⟨htable, hevaluator, hconfig, htrackers, hitems, hgained, hlines⟩ := hend.config_ending
    have hv : t.lineConfig = applyLines (ep, pp, ev, pv) s.lineConfig := hconfig.lines
    simp only [configEnding, flagsByte_noChange] at hanswered
    refine ⟨t, ht, ?_, fun l => ?_, ?_, linesOk_of_recomputed hlines (hend.answered.device.device.trans hdue.running),
      ⟨htable.slots, htable.absolute, htable.periodic⟩,
      ⟨hevaluator.available, hevaluator.passes, hevaluator.conditions, hevaluator.dwells⟩, hconfig.axes, hconfig.ports,
      hconfig.freeze, htrackers, hgained⟩
    · rw [hv]; exact hanswered
    · rw [hv]; simp [applyLines, polarityOf]
    · rw [hv]; rw [ite_decide_not] at hitems; exact hitems
  · obtain ⟨t, ht, hend⟩ := grant_ended hdue rfl (workLeaves_actOf ..)
    simp only [actOf, actSetPorts, hparse] at hend
    have hanswered := hend.answered
    obtain ⟨htable, hevaluator, hconfig, htrackers, hitems, hgained, hlines⟩ := hend.config_ending
    have hv : t.portConfig = ⟨x.a.apply s.portConfig.a, x.b.apply s.portConfig.b⟩ := hconfig.ports
    simp only [configEnding, flagsByte_noChange] at hanswered
    refine ⟨t, ht, ?_, fun q => ?_, ?_, ⟨htable.slots, htable.absolute, htable.periodic⟩,
      ⟨hevaluator.available, hevaluator.passes, hevaluator.conditions, hevaluator.dwells⟩, hconfig.axes, hconfig.lines,
      hconfig.freeze, htrackers, lines_eq_of_recomputed_nil hlines, hgained⟩
    · rw [hv]; exact hanswered
    · rw [hv]; cases q <;> rfl
    · rw [hv]; rw [ite_decide_not] at hitems; exact hitems
  · obtain ⟨t, ht, hend⟩ := grant_ended hdue rfl (workLeaves_actOf ..)
    have hnot : ¬l.rank < (beginGrant p s).freezeLevel.rank := by rw [beginGrant_freezeLevel]; omega
    simp only [actOf, actFreeze, hparse, hnot, if_false] at hend
    have hanswered := hend.answered
    obtain ⟨htable, hevaluator, hconfig, htrackers, hitems, hgained, hlines⟩ := hend.config_ending
    simp only [configEnding, flagsByte_noChange] at hanswered
    rw [ite_decide_not] at hitems
    exact ⟨t, ht, hanswered, hconfig.freeze, hitems, ⟨htable.slots, htable.absolute, htable.periodic⟩,
      ⟨hevaluator.available, hevaluator.passes, hevaluator.conditions, hevaluator.dwells⟩, hconfig.axes, hconfig.lines,
      hconfig.ports, htrackers, lines_eq_of_recomputed_nil hlines, hgained⟩
  · refine grant_answered hdue ?_
    have hlow : l.rank < (beginGrant p s).freezeLevel.rank := hrank
    simp only [actOf, actFreeze, hparse, hlow, if_true]
    rfl

end Sys2Proof.Machine
end

section
/-! The nine commands that change zones (chapter 2), each taken: what the part holds when its grant has ended. -/

namespace Sys2Proof.Machine

/-! ### The clauses of a grant's end -/

theorem noticeCauses_occupancyNotice (s : State) (i : SlotNo) (z y : Zone) (entered : Bool) :
    noticeCauses s (occupancyNotice i z y entered) = occupancyCause s i z y entered := by
  unfold occupancyNotice occupancyCause
  by_cases h : z.occupancy.active ≠ y.occupancy.active ∨ entered = true
  · rw [if_pos h, if_pos (by simpa using h)]; simp
  · rw [if_neg h, if_neg (by simpa using h)]; simp

theorem occupancyCause_congr {s t : State} (h : t.portConfig = s.portConfig) (i : SlotNo) (z y : Zone) (entered : Bool) :
    occupancyCause t i z y entered = occupancyCause s i z y entered := by
  funext q j
  unfold occupancyCause
  rw [causeOf_congr h]

theorem ListsMove.of_sameTable {s t u : State} {i : SlotNo} {leaves enters : Option (Axis × Kind)}
    (h : ListsMove s u i leaves enters) (k : SameTable u t) : ListsMove s t i leaves enters := by
  intro n k'
  have hn := h n k'
  have hlist := zoneList_congr ⟨k.absolute, k.periodic⟩ n k'
  have hzone : ∀ j, t.zone j = u.zone j := fun j => by simp only [State.zone, k.slots]
  dsimp only at hn ⊢
  rw [hlist]
  split
  · next he =>
    rw [if_pos he] at hn
    exact ⟨hn.1.congr fun j _ y hy => ⟨y, by rwa [hzone j] at hy, rfl⟩, hn.2⟩
  · next he => rwa [if_neg he] at hn

theorem SlotBecomes.of_slots {s t : State} {i : SlotNo} {v : Slot} (h : t.slots = s.slots.set i v) : SlotBecomes s t i v := by
  intro j
  rw [← State.setSlot_at]
  simp only [State.slot, h]
  rfl

theorem DwellBecomes.of_dwells {s t : State} {i : SlotNo} {v : Option DwellTimer} (h : t.dwells = s.dwells.set i v) :
    DwellBecomes s t i v := by
  intro j
  rw [← State.setDwell_at]
  simp only [State.dwell, h]
  rfl

/-- A restart asks for a pass where it says so (R24, R79). -/
theorem restartPass_frame (z : Zone) (s : State) : ∃ v, restartPass z s = s.setPass z.axis v ∧
    v = if (z.armed && s.available[z.axis]) = true then some ((s.pendingPass z.axis).getD s.now) else s.pendingPass z.axis := by
  refine ⟨_, ?_, rfl⟩
  unfold restartPass
  split
  · rw [setPassPending_eq]
  · simp [State.setPass, State.pendingPass]

theorem PassAsked.of_passes {s t : State} {n : Axis} {asked : Bool} {now : Nat} (hnow : t.now = now)
    (h : t.passes = s.passes.set n (if asked = true then some ((s.pendingPass n).getD now) else s.pendingPass n)) :
    PassAsked s t n asked := by
  intro m
  have hm : t.pendingPass m = (s.setPass n (if asked = true then some ((s.pendingPass n).getD now) else s.pendingPass n)).pendingPass m := by
    simp only [State.pendingPass, h]
    rfl
  rw [hm, State.setPass_at, hnow]
  by_cases hmn : m = n
  · subst hmn; cases asked <;> simp
  · simp [hmn]

/-- A judgement restarted gives the occupancy of the tables of R24. -/
theorem restarted_eq (available : Bool) (z : Zone) :
    restarted available z = zoneAt z (restartOccupancy z.armed available z.policy z.action) := by
  unfold restarted zoneAt Zone.withOccupancy
  have h : (if (z.armed && !available) = true then policyFromRestart z.policy z.action else Occupancy.unknown) =
      restartOccupancy z.armed available z.policy z.action := by
    cases z.armed <;> cases available <;> cases z.policy <;> cases z.action <;> rfl
  rw [h]

/-! ### CREATE -/

theorem lowestVacant_eq {s : State} {i : SlotNo} {r : Byte} (hi : s.slot i = .vacant r)
    (hlow : ∀ j, j < i → ∀ r', s.slot j ≠ .vacant r') : lowestVacant s = some i := by
  unfold lowestVacant allSlots
  rw [List.find?_eq_some_iff_getElem]
  refine ⟨by simp [hi], i.val, by simp, by simp, fun j hj => ?_⟩
  have hlt : j < 96 := by omega
  rw [List.getElem_finRange]
  have hne := hlow ⟨j, hlt⟩ (Fin.lt_def.mpr hj)
  cases hs : s.slot ⟨j, hlt⟩ with
  | vacant r' => exact absurd hs (hne r')
  | live z => simp [hs]
  | quarantined => simp [hs]

/-- A CREATE is given the slot it names, or the lowest-numbered VACANT one (R12). -/
theorem chooseSlot_eq {s : State} {requested : Option SlotNo} {i : SlotNo} {r : Byte} (hi : s.slot i = .vacant r)
    (hr : requested = some i ∨ (requested = none ∧ ∀ j, j < i → ∀ r', s.slot j ≠ .vacant r')) :
    chooseSlot requested s = .ok (i, r) := by
  rcases hr with rfl | ⟨rfl, hlow⟩
  · simp [chooseSlot, hi]
  · simp [chooseSlot, lowestVacant_eq hi hlow, hi]

theorem createChoiceOf_ne_other (b : Byte) : createChoiceOf b ≠ some .other := by
  unfold createChoiceOf
  split
  · simp
  · next c hc => exact fun h => hc h

theorem parseCreate_choice {payload : List Byte} {x : CreateArgs} (h : parseCreate payload = some x) : x.choice ≠ .other := by
  unfold parseCreate at h
  split at h
  · split at h
    · cases h
    · split at h
      · next hchoice _ _ _ _ =>
        split at h
        · cases h
          intro he
          dsimp only at he
          exact createChoiceOf_ne_other _ (hchoice.trans (congrArg some he))
        · cases h
      · cases h
  · cases h

theorem create_owner {x : CreateArgs} (h : x.choice ≠ .other) (p : Port) :
    x.choice.owner p = if x.choice = .shared then .shared else ownerOf p := by
  cases hc : x.choice with
  | self => rfl
  | shared => rfl
  | other => exact absurd hc h

/-- Settles O20: the zone enters the table and its list, and its item and its line are handed on. -/
theorem createMakesAZone : Obligations.CreateMakesAZone := by
  intro s p tag payload x i r hs hdue hparse hopen hbounds hfree hi hchoice incarnation
  have htable := tableOk_beginGrant hs.table p
  have hq : ∀ j, x.slot = some j → s.slot j ≠ .quarantined := by
    rintro j hj hq
    rcases hchoice with he | ⟨he, _⟩ <;> rw [hj] at he <;> cases he
    simp [hi] at hq
  have hact : actOf .create p payload (beginGrant p s) = createTaken p x i r (beginGrant p s) := by
    change actCreate p payload (beginGrant p s) = _
    rw [actCreate_of_checks (s := beginGrant p s) hparse hopen hq hbounds
      ((firstConflict_eq_none_iff htable hdue.running _ _ _ _).mpr hfree), chooseSlot_eq (s := beginGrant p s) hi hchoice]
    rfl
  obtain ⟨t, ht, hend⟩ := grant_ended hdue hact (workLeaves_createTaken ..)
  set z := x.zone p (nextIncarnation r) with hz
  have hzone : z = { incarnation := incarnation, axis := x.axis, bounds := x.bounds, hysteresis := x.hysteresis, dwell := x.dwell
                     line := x.line, priority := x.priority, action := x.action, policy := x.policy
                     owner := if x.choice = .shared then .shared else ownerOf p
                     armed := false, exclusive := x.exclusive, persistent := x.persistent, label := x.label
                     occupancy := .unknown, tripMark := false, transits := 0 } := by
    rw [hz, CreateArgs.zone, create_owner (parseCreate_choice hparse)]
    rfl
  have hnone : s.zone i = none := zone_eq_none_iff.mpr (by simp [hi])
  obtain ⟨_, hmove⟩ := tableOk_enterList (y := z) htable hdue.running hnone fun j y _ hy => hfree j y (by simp) hy
  refine ⟨t, ht, hend.answered, ?_, hmove.of_sameTable ⟨hend.table.slots, hend.table.absolute, hend.table.periodic⟩, ?_, ?_,
    ?_, hend.enqueued, hend.gained, hend.recomputed⟩
  · rw [← hzone]
    refine .of_slots (hend.table.slots.trans ?_)
    rw [createTaken, enterList, State.setZoneList_slots]
    rfl
  · have he := hend.evaluator
    rw [createTaken, enterList] at he
    refine ⟨he.available.trans ?_, he.passes.trans ?_, he.conditions.trans ?_, he.dwells.trans ?_⟩ <;> simp <;> rfl
  · have he := hend.config
    rw [createTaken, enterList] at he
    refine ⟨he.axes.trans ?_, he.lines.trans ?_, he.ports.trans ?_, he.freeze.trans ?_⟩ <;> simp <;> rfl
  · have he := hend.trackers
    rw [createTaken, enterList] at he
    refine he.trans ?_
    simp; rfl

/-! ### AMEND -/

/-- The lists and the exclusivity after an AMEND, and what became of the lists (R9 to R11). -/
theorem tableOk_moveInLists {s : State} {i : SlotNo} {z y : Zone} (h : TableOk s) (hd : s.device = .running)
    (hi : s.zone i = some z) (hfree : NoCollision s y.axis y.bounds y.exclusive (some i)) :
    let t := moveInLists i z y (s.setSlot i (.live y))
    TableOk t ∧ (if y.axis = z.axis ∧ y.bounds = z.bounds then SameLists s t
      else ListsMove s t i (some (z.axis, z.bounds.kind)) (some (y.axis, y.bounds.kind))) := by
  unfold moveInLists
  by_cases hsame : y.axis = z.axis ∧ y.bounds = z.bounds
  · simp only [if_pos hsame]
    refine ⟨⟨fun n k => ?_, exclusiveOk_of_noCollision h.exclusive hd (setSlot_zone_live s i y)
      (fun j hj => setSlot_zone_other hj) hfree⟩, rfl, rfl⟩
    simp only [State.setSlot_device, hd, State.setSlot_get_zoneList]
    refine ⟨fun j => ?_, (h.inOrder hd n k).congr fun j hj x hx => ?_⟩
    · rw [State.setSlot_get_zoneList, h.holds hd n k j]
      by_cases hj : j = i
      · subst hj; simp [hi, hsame.1, hsame.2]
      · rw [setSlot_zone_other hj]
    · by_cases hji : j = i
      · subst hji
        cases (setSlot_zone_live s j y).symm.trans hx
        exact ⟨z, hi, hsame.2.symm⟩
      · rw [setSlot_zone_other hji] at hx
        exact ⟨x, hx, rfl⟩
  · simp only [if_neg hsame]
    exact tableOk_moveList h hd hi hfree

theorem moveInLists_frame (i : SlotNo) (z y : Zone) (s : State) :
    ∃ a b, moveInLists i z y s = { s with absolute := a, periodic := b } := by
  unfold moveInLists
  split
  · exact ⟨_, _, rfl⟩
  · unfold enterList leaveList
    cases z.bounds.kind <;> cases y.bounds.kind <;> exact ⟨_, _, rfl⟩

/-- The fields that no AMEND names stay (R28). -/
structure Amended (z y : Zone) : Prop where
  incarnation : y.incarnation = z.incarnation
  owner : y.owner = z.owner
  armed : y.armed = z.armed
  persistent : y.persistent = z.persistent
  occupancy : y.occupancy = z.occupancy
  tripMark : y.tripMark = z.tripMark
  transits : y.transits = z.transits

theorem AmendArgs.apply_amended {x : AmendArgs} {z y : Zone} (h : x.apply z = some y) : Amended z y := by
  obtain ⟨b, _, rfl⟩ := Option.map_eq_some_iff.mp h
  exact ⟨rfl, rfl, rfl, rfl, rfl, rfl, rfl⟩

theorem restartsJudgement_eq (z y : Zone) : restartsJudgement z y =
    decide (y.axis ≠ z.axis ∨ y.bounds ≠ z.bounds ∨ y.hysteresis ≠ z.hysteresis ∨ y.dwell ≠ z.dwell) := by
  simp only [restartsJudgement, Bool.decide_or, Bool.or_assoc]

/-- The occupancy of an amended zone (R24, R30, R31). -/
def amendedOccupancy (available : Bool) (z y : Zone) : Occupancy :=
  if restartsJudgement z y then restartOccupancy z.armed available y.policy y.action
  else if z.action = .follow ∧ y.action = .latch ∧ z.occupancy = .inside then .tripped
  else z.occupancy

theorem amendedZone_eq {z y : Zone} (hz : ZoneOk z) (hy : Amended z y) (available : Bool) :
    amendedZone available z y = zoneAt y (amendedOccupancy available z y) := by
  unfold amendedZone amendedOccupancy
  split
  · rw [restarted_eq, hy.armed]
  · split
    · rfl
    · have hmark : y.tripMark = decide (z.occupancy = .tripped) := by
        rw [hy.tripMark, Bool.eq_iff_iff, hz.tripMark, decide_eq_true_iff]
      rw [zoneAt, ← hy.occupancy] at *
      rw [← hmark]

/-- Settles O22: the amended zone takes its slot and its place, and its restart, item, notice and lines are handed on. -/
theorem amendChangesTheZone : Obligations.AmendChangesTheZone := by
  intro s p tag payload x z y hs hdue hparse hopen hz hi ho hallowed happly hbounds hfree hne i restart o
  have htable := tableOk_beginGrant hs.table p
  have hamended := x.apply_amended happly
  have hact : actOf .amend p payload (beginGrant p s) = amendTaken i z y (beginGrant p s) := by
    have hpass : ¬(z.occupancy = .tripped ∧ x.namesGeometryOrAction = true) := fun ⟨ht, hn⟩ => by simp [hallowed ht] at hn
    have hconflict : firstConflict (beginGrant p s) y.axis y.bounds y.exclusive (some x.handle.slot) = none :=
      (firstConflict_eq_none_iff htable hdue.running _ _ _ _).mpr hfree
    simp only [actOf, actAmend, hparse, parseCreate_frozen hopen p, zonePasses_beginGrant hz hi ho, hpass, if_false, happly,
      hbounds, Bool.not_true, Bool.false_eq_true, hconflict, hne]
    rfl
  obtain ⟨t, ht, hend⟩ := grant_ended hdue hact (workLeaves_amendTaken ..)
  have hrestart : restartsJudgement z y = restart := restartsJudgement_eq z y
  set v := zoneAt y o with hv
  have hzone : amendedZone (beginGrant p s).available[y.axis] z y = v := by
    rw [amendedZone_eq (hs.zones _ _ hz) hamended, amendedOccupancy, hrestart]; rfl
  have hvarmed : v.armed = z.armed := hamended.armed
  obtain ⟨_, hmove⟩ := tableOk_moveInLists (y := v) htable hdue.running hz hfree
  obtain ⟨a, b, hlists⟩ := moveInLists_frame i z v ((beginGrant p s).setSlot i (.live v))
  have hstate : ∃ w d, (amendTaken i z y (beginGrant p s)).work.state =
      { (beginGrant p s).setSlot i (.live v) with absolute := a, periodic := b, dwells := d, passes := w } ∧
      d = (if restart = true then s.dwells.set i none else s.dwells) ∧
      w = s.passes.set y.axis (if (restart && z.armed && s.available[y.axis]) = true then
        some ((s.pendingPass y.axis).getD (s.now + 1)) else s.pendingPass y.axis) := by
    have hpasses : s.passes.set y.axis (s.pendingPass y.axis) = s.passes := by simp [State.pendingPass]
    unfold amendTaken
    simp only [hzone, hrestart, hlists]
    cases restart with
    | false => exact ⟨s.passes, s.dwells, rfl, rfl, by simpa using hpasses.symm⟩
    | true =>
      obtain ⟨w, hw, hwv⟩ := restartPass_frame v
        (cancelDwell i { (beginGrant p s).setSlot i (.live v) with absolute := a, periodic := b })
      refine ⟨_, _, hw, rfl, ?_⟩
      rw [hwv]
      have hc : (v.armed && (s.available[v.axis] : Bool)) = (true && z.armed && s.available[y.axis]) := by
        rw [hvarmed]; rfl
      rw [← hc]
      rfl
  obtain ⟨w, d, hstate, hd, hw⟩ := hstate
  have htab := hend.table
  have hev := hend.evaluator
  have hcf := hend.config
  have htr := hend.trackers
  rw [hstate] at htab hev hcf htr
  have hans := hend.answered
  have hwork : (amendTaken i z y (beginGrant p s)).work.items = persistentItem i v ∧
      (amendTaken i z y (beginGrant p s)).work.notices = occupancyNotice i z v (entersTrip z v) ∧
      (amendTaken i z y (beginGrant p s)).work.lines = linesOf z ++ linesOf v ∧
      (amendTaken i z y (beginGrant p s)).payload = handleBytes (handleAt i v) ++ [0, occupancyCode v.occupancy] := by
    unfold amendTaken
    dsimp only
    rw [hzone]
    exact ⟨rfl, rfl, rfl, rfl⟩
  obtain ⟨hitems, hnotices, hlines, hpayload⟩ := hwork
  have henq := hend.enqueued
  have hgain := hend.gained
  have hrec := hend.recomputed
  rw [hitems] at henq
  rw [hnotices, noticeCauses_occupancyNotice, occupancyCause_congr (s := s) (by rw [hstate]; rfl)] at hgain
  rw [hlines] at hrec
  have hhandle : handleAt i v = x.handle := by
    have : v.incarnation = x.handle.incarnation := hamended.incarnation.trans hi
    rw [handleAt, this]
  rw [hpayload, hhandle] at hans
  refine ⟨t, ht, hend.now, hans, .of_slots htab.slots, ?_, ⟨hev.available, hev.conditions⟩, ?_,
    .of_passes hend.now (hev.passes.trans hw), ⟨hcf.axes, hcf.lines, hcf.ports, hcf.freeze⟩, htr, ?_, ?_, hrec⟩
  · rw [hlists] at hmove
    have hiff : (v.axis = z.axis ∧ v.bounds = z.bounds) ↔ (y.axis = z.axis ∧ y.bounds = z.bounds) := Iff.rfl
    split
    · next hsame =>
      rw [if_pos (hiff.mpr hsame)] at hmove
      exact ⟨htab.absolute.trans hmove.1, htab.periodic.trans hmove.2⟩
    · next hsame =>
      rw [if_neg (fun h => hsame (hiff.mp h))] at hmove
      exact ListsMove.of_sameTable hmove ⟨htab.slots, htab.absolute, htab.periodic⟩
  · cases hr : restart with
    | false =>
      rw [hr] at hd
      intro j
      have : t.dwell j = s.dwell j := by simp only [State.dwell, hev.dwells, hd]; rfl
      rw [this]; split
      · next e => subst e; rfl
      · rfl
    | true => rw [hr] at hd; exact .of_dwells (hev.dwells.trans hd)
  · rw [itemsOf, ← hamended.persistent]; exact henq
  · exact hgain

end Sys2Proof.Machine
end

section
/-! RETIRE, RECLAIM, ARM, DISARM, CLEAR, TRANSFER and RELEASE_ALL taken (2.4 to 2.8). -/

namespace Sys2Proof.Machine

/-! ### RETIRE and RECLAIM -/

theorem leaveList_frame (i : SlotNo) (z : Zone) (s : State) : ∃ a b, leaveList i z s = { s with absolute := a, periodic := b } := by
  unfold leaveList
  cases z.bounds.kind <;> exact ⟨_, _, rfl⟩

theorem parseSlot_ofNat (i : SlotNo) : parseSlot [BitVec.ofNat 8 i.val] = some i := by
  have hi : (BitVec.ofNat 8 i.val).toNat = i.val := by rw [BitVec.toNat_ofNat]; omega
  simp only [parseSlot, slotOf, hi]
  rw [dif_pos i.isLt]

/-- Settles O25: the zone, or the quarantine, leaves the slot; a TRIPPED zone and a slot in another state are refused. -/
theorem retireAndReclaimFreeTheSlot : Obligations.RetireAndReclaimFreeTheSlot := by
  refine ⟨fun s p tag payload h z hs hdue hparse hopen hz hi ho => ⟨fun ht => ?_, fun ht => ?_⟩,
    fun s p tag i hdue hopen => ⟨fun hq => ?_, fun hq => ?_⟩⟩
  · have hact : actOf .retire p payload (beginGrant p s) = retireTaken p h z (beginGrant p s) := by
      simp only [actOf, actRetire, hparse, parseCreate_frozen hopen p, zonePasses_beginGrant hz hi ho, ht, if_false]
    obtain ⟨t, htx, hend⟩ := grant_ended hdue hact (workLeaves_retireTaken ..)
    obtain ⟨_, hmove⟩ := tableOk_leaveList (v := .vacant z.incarnation) (tableOk_beginGrant hs.table p) hdue.running hz (by simp)
    obtain ⟨a, b, hlists⟩ := leaveList_frame h.slot z ((beginGrant p s).setSlot h.slot (.vacant z.incarnation))
    obtain ⟨hanswered, _, htab, hev, hcf, htr, henq, hgain, hrec⟩ := hend
    rw [hlists] at hmove
    simp only [retireTaken, hlists] at htab hev hcf htr
    simp only [retireTaken, noticeCauses_singleton] at hgain
    exact ⟨t, htx, hanswered, .of_slots htab.slots, hmove.of_sameTable ⟨htab.slots, htab.absolute, htab.periodic⟩,
      ⟨hev.available, hev.conditions⟩, hev.passes, .of_dwells hev.dwells, ⟨hcf.axes, hcf.lines, hcf.ports, hcf.freeze⟩, htr,
      henq, by rwa [causeOf_congr (s := s) (by rw [hlists]; rfl)] at hgain, hrec⟩
  · refine grant_answered hdue ?_
    simp only [actOf, actRetire, hparse, parseCreate_frozen hopen p, zonePasses_beginGrant hz hi ho, ht, if_true]
    rfl
  · have hact : actOf .reclaim p [BitVec.ofNat 8 i.val] (beginGrant p s) =
        ⟨reclaimed p i (beginGrant p s), .ok, [countByte i.val]⟩ := by
      simp only [actOf, actReclaim, parseSlot_ofNat, parseCreate_frozen hopen p, Bool.false_eq_true, if_false,
        beginGrant_slot, hq, ne_eq, not_true]
      rfl
    obtain ⟨t, htx, hend⟩ := grant_ended hdue hact (workLeaves_setSlot ..)
    obtain ⟨hanswered, _, htab, hev, hcf, htr, henq, hgain, hrec⟩ := hend
    simp only [reclaimed, noticeCauses_singleton] at hgain
    exact ⟨t, htx, hanswered, .of_slots htab.slots, ⟨htab.absolute, htab.periodic⟩,
      ⟨hev.available, hev.passes, hev.conditions, hev.dwells⟩, ⟨hcf.axes, hcf.lines, hcf.ports, hcf.freeze⟩, htr,
      lines_eq_of_recomputed_nil hrec, henq, hgain⟩
  · refine grant_answered hdue ?_
    simp only [actOf, actReclaim, parseSlot_ofNat, parseCreate_frozen hopen p, Bool.false_eq_true, if_false,
      beginGrant_slot, ne_eq, hq, not_false_eq_true, if_true]
    rfl

/-! ### ARM, DISARM and CLEAR -/

/-- An ARM, DISARM or CLEAR gives the zone `z` of a slot the record `y`: what its grant leaves (R24, R35 to R38). -/
structure ZoneChanged (s t : State) (i : SlotNo) (z y : Zone) (entered : Bool) : Prop where
  now : t.now = s.now + 1
  slot : SlotBecomes s t i (.live y)
  lists : SameLists s t
  conditions : SameConditions s t
  dwell : DwellBecomes s t i none
  pass : PassAsked s t y.axis (y.armed && s.available[y.axis])
  config : SameConfig s t
  trackers : t.trackers = s.trackers
  enqueued : Enqueued (itemsOf i y.persistent) s t
  gained : Gained s t (occupancyCause s i z y entered)
  recomputed : Recomputed s t y.line.toList

theorem changedZone_ended {s : State} {p : Port} {c : TableCommand} {tag : Byte} {payload : List Byte} {i : SlotNo} {z y : Zone}
    {entered : Bool} (hdue : Due s p c tag payload)
    (hact : actOf c p payload (beginGrant p s) = changedZone i z y entered (beginGrant p s)) :
    ∃ t, exec (grantOf p c) s = .next t ∧ Answered s t p ⟨tag, c.code, .ok, [0, occupancyCode y.occupancy]⟩ ∧
      ZoneChanged s t i z y entered := by
  obtain ⟨t, ht, hend⟩ := grant_ended hdue hact (workLeaves_changedZone ..)
  obtain ⟨w, hw, hwv⟩ := restartPass_frame y (cancelDwell i ((beginGrant p s).setSlot i (.live y)))
  obtain ⟨hanswered, hnow, htab, hev, hcf, htr, henq, hgain, hrec⟩ := hend
  simp only [changedZone, hw] at htab hev hcf htr
  simp only [changedZone, noticeCauses_occupancyNotice] at hgain
  rw [occupancyCause_congr (s := s) (by rw [hw]; rfl)] at hgain
  exact ⟨t, ht, hanswered, hnow, .of_slots htab.slots, ⟨htab.absolute, htab.periodic⟩, ⟨hev.available, hev.conditions⟩,
    .of_dwells hev.dwells, .of_passes hnow (hev.passes.trans (by rw [hwv]; rfl)), ⟨hcf.axes, hcf.lines, hcf.ports, hcf.freeze⟩,
    htr, henq, hgain, hrec⟩

/-- Settles O26: both restart the judgement of the zone, which is armed. -/
theorem armAndClearRestartTheJudgement : Obligations.ArmAndClearRestartTheJudgement := by
  intro s p c tag payload h z hs hdue hparse hc hz hi ho o y
  have harmed : c = .clear → z.armed = true := by
    rintro rfl
    rcases hc with ⟨hc, _⟩ | ⟨_, ht⟩
    · cases hc
    · by_contra hn
      rw [Bool.not_eq_true] at hn
      rw [(hs.zones _ _ hz).disarmed hn] at ht
      cases ht
  have hrestarted : restarted s.available[z.axis] { z with armed := true } = y := restarted_eq ..
  have hact : actOf c p payload (beginGrant p s) = changedZone h.slot z y (decide (o = .tripped)) (beginGrant p s) := by
    rcases hc with ⟨rfl, hf, ha⟩ | ⟨rfl, ht⟩
    · simp only [actOf, actArm, hparse, frozenAtFixed_eq_false.mpr (show (beginGrant p s).freezeLevel ≠ .fixed from hf),
        zonePasses_beginGrant hz hi ho, ha, Bool.false_eq_true, if_false, beginGrant_available, hrestarted]
      rfl
    · have hself : ({ z with armed := true } : Zone) = z := by rw [← harmed rfl]
      rw [hself] at hrestarted
      simp only [actOf, actClear, hparse, zonePasses_beginGrant hz hi ho, ht, ne_eq, not_true, if_false, beginGrant_available,
        hrestarted]
      rfl
  obtain ⟨t, htx, hanswered, hch⟩ := changedZone_ended hdue hact
  exact ⟨t, htx, hanswered, hch.now, hch.slot, hch.lists, hch.conditions, hch.dwell, hch.pass, hch.config, hch.trackers,
    hch.enqueued, hch.gained, hch.recomputed⟩

theorem PassAsked.passes_eq {s t : State} {n : Axis} (h : PassAsked s t n false) : t.passes = s.passes := by
  refine Vector.ext fun i hi => ?_
  have := h ⟨i, hi⟩
  simpa [State.pendingPass] using this

/-- Settles O27: the zone is disarmed and UNKNOWN, without a pass asked for. -/
theorem disarmEndsTheJudgement : Obligations.DisarmEndsTheJudgement := by
  intro s p tag payload h z hs hdue hparse hf hz hi ho ha
  have hfixed := frozenAtFixed_eq_false.mpr (show (beginGrant p s).freezeLevel ≠ .fixed from hf)
  refine ⟨fun ht => ?_, fun ht => grant_answered hdue ?_⟩
  · have hact : actOf .disarm p payload (beginGrant p s) =
        changedZone h.slot z { z with armed := false, occupancy := .unknown, tripMark := false } false (beginGrant p s) := by
      simp only [actOf, actDisarm, hparse, hfixed, zonePasses_beginGrant hz hi ho, ht, if_false, ha, Bool.not_true,
        Bool.false_eq_true]
      rfl
    obtain ⟨t, htx, hanswered, hch⟩ := changedZone_ended hdue hact
    exact ⟨t, htx, hanswered, hch.slot, hch.lists, hch.conditions, hch.pass.passes_eq, hch.dwell, hch.config, hch.trackers,
      hch.enqueued, hch.gained, hch.recomputed⟩
  · simp only [actOf, actDisarm, hparse, hfixed, zonePasses_beginGrant hz hi ho, ht, if_true]
    rfl

/-! ### TRANSFER and RELEASE_ALL -/

/-- A zone in a slot belongs to a port. -/
def ownedBy (s : State) (p : Port) (i : SlotNo) : Bool :=
  match s.zone i with
  | some z => decide (z.owner = ownerOf p)
  | none => false

/-- The zone in a slot is PERSISTENT. -/
def persistentIn (s : State) (i : SlotNo) : Bool :=
  match s.zone i with
  | some z => z.persistent
  | none => false

/-- The slots of `l` have been released (R40): their zones that the port owned are SHARED, and no other slot differs. -/
structure Released (p : Port) (s : State) (l : List SlotNo) (r : Work × Nat) : Prop where
  frame : ∃ v, r.1.state = { s with slots := v }
  done : ∀ i ∈ l, ∀ z, s.zone i = some z → z.owner = ownerOf p → r.1.state.slot i = .live { z with owner := .shared }
  kept : ∀ i, (i ∈ l → ownedBy s p i = false) → r.1.state.slot i = s.slot i
  items : r.1.items = ((l.filter (ownedBy s p)).filter (persistentIn s)).map slotItem
  notices : r.1.notices = (l.filter (ownedBy s p)).map fun i => transferNotice p i (ownerOf p) .shared
  lines : r.1.lines = []
  count : r.2 = (l.filter (ownedBy s p)).length

theorem zone_congr {s t : State} {i : SlotNo} (h : t.slot i = s.slot i) : t.zone i = s.zone i := by
  cases hz : s.zone i with
  | some z => rw [zone_eq_some_iff] at hz ⊢; rw [h, hz]
  | none => rw [zone_eq_none_iff] at hz ⊢; rw [h]; exact hz

theorem Released.snoc {p : Port} {s : State} {l : List SlotNo} {r : Work × Nat} (h : Released p s l r) {i : SlotNo} (hi : i ∉ l) :
    Released p s (l ++ [i]) (releaseSlot p r i) := by
  have hzi : r.1.state.zone i = s.zone i := zone_congr (h.kept i fun hm => absurd hm hi)
  unfold releaseSlot
  rw [hzi]
  by_cases howned : ownedBy s p i = true
  · obtain ⟨z, hz, hown⟩ : ∃ z, s.zone i = some z ∧ z.owner = ownerOf p := by
      unfold ownedBy at howned
      split at howned
      · next z hz => exact ⟨z, hz, of_decide_eq_true howned⟩
      · cases howned
    simp only [hz, hown, if_true]
    refine ⟨?_, fun j hj y hy hyo => ?_, fun j hj => ?_, ?_, ?_, h.lines, ?_⟩
    · obtain ⟨v, hv⟩ := h.frame
      simp only [hv]
      exact ⟨_, rfl⟩
    · rw [State.setSlot_at]
      by_cases hji : j = i
      · subst hji; rw [if_pos rfl]; cases hz.symm.trans hy; rfl
      · rw [if_neg hji]
        exact h.done j (by simpa [hji] using hj) y hy hyo
    · rw [State.setSlot_at]
      have hji : j ≠ i := by
        rintro rfl
        rw [hj (by simp)] at howned
        cases howned
      rw [if_neg hji]
      exact h.kept j fun hm => hj (by simp [hm])
    · have hp : persistentItem i z = ([i].filter (persistentIn s)).map slotItem := by
        unfold persistentItem persistentIn
        cases hpz : z.persistent <;> simp [hz, hpz]
      rw [h.items, hp]
      simp only [List.filter_append, List.map_append, List.filter_cons_of_pos howned, List.filter_nil]
    · simp only [h.notices, List.filter_append, List.map_append, List.filter_cons_of_pos howned, List.filter_nil,
        List.map_cons, List.map_nil]
    · simp only [h.count, List.filter_append, List.filter_cons_of_pos howned, List.filter_nil, List.length_append,
        List.length_cons, List.length_nil]
  · have hsame : Released p s (l ++ [i]) r := by
      have hf : (l ++ [i]).filter (ownedBy s p) = l.filter (ownedBy s p) := by simp [List.filter_append, howned]
      refine ⟨h.frame, fun j hj y hy hyo => ?_, fun j hj => h.kept j fun hm => hj (by simp [hm]), by rw [hf]; exact h.items,
        by rw [hf]; exact h.notices, h.lines, by rw [hf]; exact h.count⟩
      rcases List.mem_append.mp hj with hj | hj
      · exact h.done j hj y hy hyo
      · rw [List.mem_singleton] at hj
        subst hj
        exact absurd (by simp [ownedBy, hy, hyo]) howned
    split
    · next z hz =>
      have hown : ¬z.owner = ownerOf p := fun e => howned (by simp [ownedBy, hz, e])
      rw [if_neg hown]
      exact hsame
    · exact hsame

theorem released_foldl (p : Port) (s : State) {l : List SlotNo} (hl : l.Nodup) :
    Released p s l (l.foldl (releaseSlot p) ({ state := s }, 0)) := by
  induction l using List.reverseRecOn with
  | nil => exact ⟨⟨s.slots, rfl⟩, by simp, fun _ _ => rfl, rfl, rfl, rfl, rfl⟩
  | append_singleton l i ih =>
    rw [List.foldl_append]
    rw [List.nodup_append] at hl
    exact (ih hl.1).snoc fun hm => hl.2.2 i hm i (by simp) rfl

theorem released_releasedAll (p : Port) (s : State) : Released p s allSlots (releasedAll p s) := by
  unfold releasedAll
  exact released_foldl p s (List.nodup_finRange 96)

/-- Notices of one kind, one for each of some slots, give their cause to these slots (R107, R108). -/
theorem noticeCauses_map (s : State) (f : SlotNo → Notice) (hf : ∀ i, (f i).slot = i) (l : List SlotNo) (q : Port) (j : SlotNo) :
    noticeCauses s (l.map f) q j = if j ∈ l then causeOf s j (f j).cause (f j).sentTo (f j).owners q j else 0 := by
  induction l with
  | nil => rfl
  | cons i l ih =>
    rw [List.map_cons, noticeCauses_cons, ih, hf]
    by_cases hji : j = i
    · subst hji
      rw [if_pos List.mem_cons_self]
      split
      · exact BitVec.or_self
      · exact BitVec.or_zero
    · have : causeOf s i (f i).cause (f i).sentTo (f i).owners q j = 0 := by simp [causeOf, hji]
      rw [this]
      simp [hji]

/-- Settles O28: a TRANSFER gives the zone its new owner, and a RELEASE_ALL visits the slots in ascending order. -/
theorem transfersChangeTheOwner : Obligations.TransfersChangeTheOwner := by
  constructor
  · intro s p tag payload h o z hs hdue hparse hopen hz hi ho owner hne
    have howner : o.owner p = owner := by cases o <;> rfl
    have hact : actOf .transfer p payload (beginGrant p s) =
        ⟨transferred p h.slot z owner (beginGrant p s), .ok, [flagsByte false false, ownerByte owner]⟩ := by
      simp only [actOf, actTransfer, hparse, parseCreate_frozen hopen p, zonePasses_beginGrant hz hi ho, howner, hne, if_false]
      rfl
    obtain ⟨t, ht, hend⟩ := grant_ended hdue hact (workLeaves_setSlot ..)
    obtain ⟨hanswered, _, htab, hev, hcf, htr, henq, hgain, hrec⟩ := hend
    simp only [transferred, noticeCauses_singleton] at hgain
    exact ⟨t, ht, hanswered, .of_slots htab.slots, ⟨htab.absolute, htab.periodic⟩,
      ⟨hev.available, hev.passes, hev.conditions, hev.dwells⟩, ⟨hcf.axes, hcf.lines, hcf.ports, hcf.freeze⟩, htr,
      lines_eq_of_recomputed_nil hrec, henq, hgain⟩
  · intro s p tag hdue hopen owned
    have hact : actOf .releaseAll p [] (beginGrant p s) =
        ⟨(releasedAll p (beginGrant p s)).1, .ok, [countByte (releasedAll p (beginGrant p s)).2]⟩ := by
      simp only [actOf, actReleaseAll, parseNothing, parseCreate_frozen hopen p, Bool.false_eq_true, if_false]
      rfl
    obtain ⟨t, ht, hend⟩ := grantEnded_of_due hdue
    rw [hact] at hend
    obtain ⟨⟨v, hv⟩, hdone, hkept, hitems, hnotices, hlines, hcount⟩ := released_releasedAll p (beginGrant p s)
    have howned : allSlots.filter (ownedBy (beginGrant p s) p) = owned := List.filter_congr fun _ _ => rfl
    have hpersistent : owned.filter (persistentIn (beginGrant p s)) = owned.filter fun i =>
        match s.zone i with
        | some z => z.persistent
        | none => false := List.filter_congr fun _ _ => rfl
    rw [howned] at hitems hnotices hcount
    rw [hpersistent] at hitems
    obtain ⟨hanswered, _, htab, hev, hcf, htr, henq, hgain, hrec⟩ := hend
    have hslot : ∀ i, t.slot i = (releasedAll p (beginGrant p s)).1.state.slot i := fun i => by
      simp only [State.slot, htab.slots]
    simp only [hv] at hev hcf htr
    have hl : t.absolute = s.absolute ∧ t.periodic = s.periodic :=
      ⟨htab.absolute.trans (by simp only [hv]; rfl), htab.periodic.trans (by simp only [hv]; rfl)⟩
    simp only [hlines] at hrec
    simp only [hitems] at henq
    simp only [hcount] at hanswered
    refine ⟨t, ht, hanswered, fun i => ⟨fun z hz hzo => ?_, fun hz => ?_⟩, hl,
      ⟨hev.available, hev.passes, hev.conditions, hev.dwells⟩, ⟨hcf.axes, hcf.lines, hcf.ports, hcf.freeze⟩, htr,
      lines_eq_of_recomputed_nil hrec, henq, fun q j => ?_⟩
    · rw [hslot]; exact hdone i (List.mem_finRange i) z hz hzo
    · rw [hslot]
      refine hkept i fun _ => ?_
      unfold ownedBy
      split
      · next z hzi => exact decide_eq_false (hz z hzi)
      · rfl
    · have := hgain q j
      simp only [hnotices, hv] at this
      rw [noticeCauses_map _ (fun i => transferNotice p i (ownerOf p) .shared) (fun _ => rfl)] at this
      exact this

end Sys2Proof.Machine
end

section
/-! The axis trackers' events (chapter 4): postings, departures, and what every event of a tracker leaves alone. -/

namespace Sys2Proof.Machine

/-! ### Postings (R69, R80) -/

/-- The pending conditions of an axis are none, one, or two that alternate (R80). -/
theorem ConditionsOk.cases {available sure : Bool} {l : List Condition} (h : ConditionsOk available sure l) :
    (l = [] ∧ sure = available) ∨
      (∃ c, l = [c] ∧ available = decide (c.kind = .unsure) ∧ sure = decide (c.kind = .sure)) ∨
      ∃ c d, l = [c, d] ∧ available = decide (c.kind = .unsure) ∧ c.kind ≠ d.kind ∧ sure = decide (d.kind = .sure) := by
  match l, h with
  | [], h => exact .inl ⟨rfl, h⟩
  | [c], h => exact .inr (.inl ⟨c, rfl, h⟩)
  | [c, d], h => exact .inr (.inr ⟨c, d, rfl, h⟩)
  | _ :: _ :: _ :: _, h => exact h.elim

/-- The pending conditions of an axis once one that alternates with them is posted (R80). -/
def alternated (k : ConditionKind) (now : Nat) : List Condition → List Condition
  | [] => [⟨k, now⟩]
  | [c] => [c, ⟨k, now⟩]
  | c :: _ :: _ => [c]

/-- A condition that the tracker's indicator does not yet agree with is posted by alternation: the list is longer by it, or the
second of two is withdrawn (R80). -/
theorem postedTo_of_ok {available : Bool} {k : ConditionKind} {now : Nat} {l : List Condition}
    (h : ConditionsOk available (decide (k ≠ .sure)) l) : postedTo k now l = (alternated k now l, decide (l.length = 2)) := by
  rcases h.cases with ⟨rfl, _⟩ | ⟨c, rfl, _, hs⟩ | ⟨c, d, rfl, _, _, hs⟩
  · rfl
  · have hne : c.kind ≠ k := by rintro rfl; cases hk : c.kind <;> simp [hk] at hs
    simp [postedTo, alternated, hne]
  · have hne : d.kind ≠ k := by rintro rfl; cases hk : d.kind <;> simp [hk] at hs
    simp [postedTo, alternated, hne]

/-- After a posting the conditions lead to the indicator that it announces (R69, R80). -/
theorem ConditionsOk.postedTo {available : Bool} {k : ConditionKind} {now : Nat} {l : List Condition}
    (h : ConditionsOk available (decide (k ≠ .sure)) l) :
    ConditionsOk available (decide (k = .sure)) (postedTo k now l).1 := by
  rw [postedTo_of_ok h]
  rcases h.cases with ⟨rfl, hs⟩ | ⟨c, rfl, ha, hs⟩ | ⟨c, d, rfl, ha, hne, hs⟩
  · exact ⟨by rw [← hs]; cases k <;> rfl, rfl⟩
  · refine ⟨ha, ?_, rfl⟩
    rintro rfl
    cases hk : c.kind <;> simp [hk] at hs
  · refine ⟨ha, ?_⟩
    have hck : c.kind = k := by
      cases hc : c.kind <;> cases hd : d.kind <;> cases k <;> simp_all
    rw [hck]

theorem posted_post {s : State} {n : Axis} {k : ConditionKind}
    (h : ConditionsOk s.available[n] (decide (k ≠ .sure)) (s.pendingConditions n)) :
    Posted s (post n k s).1 n k ∧ (post n k s).2 = withdraws s n := by
  rw [post_eq, postedTo_of_ok h]
  refine ⟨fun m => ?_, rfl⟩
  rw [State.setConditions_at]
  split
  · rcases h.cases with ⟨hl, _⟩ | ⟨c, hl, _⟩ | ⟨c, d, hl, _⟩ <;> rw [hl] <;> rfl
  · rfl

theorem Posted.congr {s u t : State} {n : Axis} {k : ConditionKind} (h : Posted u t n k) (hc : u.conditions = s.conditions) :
    Posted s t n k := by
  intro m
  have hm : ∀ a, u.pendingConditions a = s.pendingConditions a := fun a => by simp only [State.pendingConditions, hc]
  have := h m
  rwa [hm, hm] at this

/-! ### The frame of a tracker's event -/

theorem OnlyTracking.trans {s t u : State} (h : OnlyTracking s t) (k : OnlyTracking t u) : OnlyTracking s u := by
  obtain ⟨⟨h1, h2, h3, h4⟩, ⟨h5, h6, h7⟩, h8, h9, ⟨h10, h11, h12, h13⟩, ⟨h14, h15⟩, h16,
    ⟨⟨h17, h18, h19, h20⟩, ⟨h21, h22⟩, ⟨h23, h24⟩⟩⟩ := h
  obtain ⟨⟨k1, k2, k3, k4⟩, ⟨k5, k6, k7⟩, k8, k9, ⟨k10, k11, k12, k13⟩, ⟨k14, k15⟩, k16,
    ⟨⟨k17, k18, k19, k20⟩, ⟨k21, k22⟩, ⟨k23, k24⟩⟩⟩ := k
  exact ⟨⟨k1.trans h1, k2.trans h2, k3.trans h3, k4.trans h4⟩, ⟨k5.trans h5, k6.trans h6, k7.trans h7⟩, k8.trans h8,
    k9.trans h9, ⟨k10.trans h10, k11.trans h11, k12.trans h12, k13.trans h13⟩, ⟨k14.trans h14, k15.trans h15⟩, k16.trans h16,
    ⟨⟨k17.trans h17, k18.trans h18, k19.trans h19, k20.trans h20⟩, ⟨k21.trans h21, k22.trans h22⟩,
      ⟨k23.trans h23, k24.trans h24⟩⟩⟩

/-- An event of the tracker of axis `n` leaves it the record `v`, raises these flags, and leaves alone all but the trackers, the
evaluator, the ports and the clock. -/
structure TrackerStep (s t : State) (n : Axis) (flags : FlagSet) (v : Tracker) : Prop where
  only : OnlyTracking s t
  pending : t.pending = s.pending
  raised : Raised s t flags
  tracker : ∀ a, t.tracker a = if a = n then v else s.tracker a

theorem TrackerStep.same {s t : State} {n : Axis} {flags : FlagSet} {v : Tracker} (h : TrackerStep s t n flags v) :
    t.tracker n = v := by rw [h.tracker, if_pos rfl]

theorem TrackerStep.trans {s t u : State} {n : Axis} {f g : FlagSet} {v w : Tracker} (h : TrackerStep s t n f v)
    (k : TrackerStep t u n g w) : TrackerStep s u n (f ||| g) w where
  only := h.only.trans k.only
  pending := k.pending.trans h.pending
  raised p := by
    rw [k.raised p, h.raised p]
    simp only [BitVec.or_assoc]
  tracker a := by
    rw [k.tracker, h.tracker]
    split <;> rfl

theorem Raised.refl (s : State) : Raised s s 0 := fun p => by simp

theorem OnlyTracking.refl (s : State) : OnlyTracking s s :=
  ⟨⟨rfl, rfl, rfl, rfl⟩, ⟨rfl, rfl, rfl⟩, rfl, rfl, ⟨rfl, rfl, rfl, rfl⟩, ⟨rfl, rfl⟩, rfl,
    ⟨⟨rfl, rfl, rfl, rfl⟩, ⟨rfl, rfl⟩, ⟨rfl, rfl⟩⟩⟩

theorem trackerStep_setTracker (s : State) (n : Axis) (v : Tracker) : TrackerStep s (s.setTracker n v) n 0 v where
  only := ⟨⟨rfl, rfl, rfl, rfl⟩, ⟨rfl, rfl, rfl⟩, rfl, rfl, ⟨rfl, rfl, rfl, rfl⟩, ⟨rfl, rfl⟩, rfl,
    ⟨⟨rfl, rfl, rfl, rfl⟩, ⟨rfl, rfl⟩, ⟨rfl, rfl⟩⟩⟩
  pending := rfl
  raised := Raised.refl s
  tracker _ := State.setTracker_at ..

theorem trackerStep_raiseBoth (x : Flag) (s : State) (n : Axis) : TrackerStep s (raiseBoth x s) n x.mask (s.tracker n) where
  only := ⟨⟨rfl, rfl, rfl, rfl⟩, ⟨rfl, rfl, rfl⟩, rfl, rfl, ⟨rfl, rfl, rfl, rfl⟩, ⟨rfl, rfl⟩, rfl,
    ⟨⟨rfl, rfl, rfl, rfl⟩, ⟨rfl, rfl⟩, ⟨rfl, rfl⟩⟩⟩
  pending := rfl
  raised := raised_raiseBoth x s
  tracker a := by
    split
    · next h => rw [h]; rfl
    · rfl

theorem trackerStep_setConditions (s : State) (n : Axis) (v : List Condition) :
    TrackerStep s (s.setConditions n v) n 0 (s.tracker n) where
  only := ⟨⟨rfl, rfl, rfl, rfl⟩, ⟨rfl, rfl, rfl⟩, rfl, rfl, ⟨rfl, rfl, rfl, rfl⟩, ⟨rfl, rfl⟩, rfl,
    ⟨⟨rfl, rfl, rfl, rfl⟩, ⟨rfl, rfl⟩, ⟨rfl, rfl⟩⟩⟩
  pending := rfl
  raised := Raised.refl s
  tracker a := by
    split
    · next h => rw [h]; rfl
    · rfl

theorem trackerStep_setPass (s : State) (n : Axis) (v : Option Nat) : TrackerStep s (s.setPass n v) n 0 (s.tracker n) where
  only := ⟨⟨rfl, rfl, rfl, rfl⟩, ⟨rfl, rfl, rfl⟩, rfl, rfl, ⟨rfl, rfl, rfl, rfl⟩, ⟨rfl, rfl⟩, rfl,
    ⟨⟨rfl, rfl, rfl, rfl⟩, ⟨rfl, rfl⟩, ⟨rfl, rfl⟩⟩⟩
  pending := rfl
  raised := Raised.refl s
  tracker a := by
    split
    · next h => rw [h]; rfl
    · rfl

theorem trackerStep_tick (s : State) (m : Moment) (n : Axis) : TrackerStep s (s.tick m) n 0 (s.tracker n) := by
  have htracker : ∀ a, (s.tick m).tracker a = if a = n then s.tracker n else s.tracker a := fun a => by
    simp only [State.tracker, State.tick_trackers]
    split
    · next h => rw [h]
    · rfl
  cases m <;> exact ⟨⟨⟨rfl, rfl, rfl, rfl⟩, ⟨rfl, rfl, rfl⟩, rfl, rfl, ⟨rfl, rfl, rfl, rfl⟩, ⟨rfl, rfl⟩, rfl,
    ⟨⟨rfl, rfl, rfl, rfl⟩, ⟨rfl, rfl⟩, ⟨rfl, rfl⟩⟩⟩, rfl, Raised.refl s, htracker⟩

@[simp] theorem tick_eq_momentOf (s : State) (m : Moment) : (s.tick m).now = momentOf s m := by
  cases m <;> rfl

/-! ### Departures (R66, R67, R69) -/

/-- The tracker of an axis is sure exactly in TRACKING, and its conditions lead to its indicator (R69, R80): what a departure
from its state rests on. -/
structure DepartOk (s : State) (n : Axis) : Prop where
  sure : (s.tracker n).sure = true ↔ (s.tracker n).state = .tracking
  conditions : ConditionsOk s.available[n] (s.tracker n).sure (s.pendingConditions n)

theorem AxisOk.departOk {s : State} {n : Axis} (h : AxisOk s n) : DepartOk s n := ⟨h.tracker.sure, h.conditions⟩

/-- The record of a tracker that leaves its state (R66, R67, R69). -/
def departedTracker (s : State) (n : Axis) : Tracker :=
  { s.tracker n with held := heldOnLeaving s n,
                     live := if (s.tracker n).state = .tracking then none else (s.tracker n).live
                     sure := false, timer := none }

/-- The tracker of axis `n` has left its state, with the record `v`. -/
structure Left (s t : State) (n : Axis) (flags : FlagSet) (v : Tracker) : Prop where
  step : TrackerStep s t n flags v
  now : t.now = s.now
  passes : t.passes = s.passes
  posted : (s.tracker n).sure = true → Posted s t n .unsure
  quiet : (s.tracker n).sure = false → t.conditions = s.conditions
  conditions : ConditionsOk s.available[n] false (t.pendingConditions n)

theorem heldAfter_eq {s : State} {n : Axis} {b : Bool} (h : (s.tracker n).state = .tracking → b = withdraws s n) :
    heldAfter (s.tracker n) b = heldOnLeaving s n := by
  unfold heldAfter heldOnLeaving
  by_cases ht : (s.tracker n).state = .tracking
  · obtain rfl := h ht
    rfl
  · rw [if_neg fun e => ht e.1, if_neg fun e => ht e.1]

theorem left_depart {s : State} {n : Axis} (h : DepartOk s n) : Left s (depart n s) n 0 (departedTracker s n) := by
  cases hs : (s.tracker n).sure with
  | true =>
    have hc : ConditionsOk s.available[n] (decide (ConditionKind.unsure ≠ .sure)) (s.pendingConditions n) := by
      have := h.conditions; rwa [hs] at this
    obtain ⟨hp, hw⟩ := posted_post hc
    have hd : depart n s = (post n .unsure s).1.setTracker n (departedTracker s n) := by
      unfold depart departedTracker
      simp only [hs, if_true, hw, heldAfter_eq (s := s) (n := n) (b := withdraws s n) fun _ => rfl]
    rw [hd]
    rw [post_eq] at hp ⊢
    refine ⟨by simpa using (trackerStep_setConditions s n _).trans (trackerStep_setTracker ..), rfl, rfl, fun _ => hp,
      fun hf => by simp [hs] at hf, ?_⟩
    have := hc.postedTo (now := s.now)
    simpa using this
  | false =>
    have hnot : (s.tracker n).state ≠ .tracking := fun ht => by simp [h.sure.mpr ht] at hs
    have hd : depart n s = s.setTracker n (departedTracker s n) := by
      unfold depart departedTracker
      simp only [hs, Bool.false_eq_true, if_false, heldAfter_eq (s := s) (n := n) (b := false) fun ht => absurd ht hnot]
    rw [hd]
    refine ⟨trackerStep_setTracker .., rfl, rfl, fun hf => by simp [hs] at hf, fun _ => rfl, ?_⟩
    have := h.conditions
    rwa [hs] at this

/-- The record of a tracker that has left its state is set, and flags are raised. -/
theorem Left.setTracker {s t : State} {n : Axis} {f : FlagSet} {v : Tracker} (h : Left s t n f v) (w : Tracker) :
    Left s (t.setTracker n w) n f w :=
  ⟨by simpa using h.step.trans (trackerStep_setTracker t n w), h.now, h.passes, h.posted, h.quiet, h.conditions⟩

theorem Left.raiseBoth {s t : State} {n : Axis} {f : FlagSet} {v : Tracker} (h : Left s t n f v) (x : Flag) :
    Left s (raiseBoth x t) n (f ||| x.mask) v := by
  refine ⟨?_, h.now, h.passes, h.posted, h.quiet, h.conditions⟩
  have := h.step.trans (trackerStep_raiseBoth x t n)
  rwa [h.step.same] at this

theorem left_enterLost {s : State} {n : Axis} (h : DepartOk s n) (c : LostCause) :
    Left s (enterLost n c s) n Flag.axisLost.mask { departedTracker s n with state := .lost, cause := some c } := by
  have hl := left_depart h
  have := (hl.setTracker { departedTracker s n with state := .lost, cause := some c }).raiseBoth .axisLost
  unfold enterLost
  dsimp only
  rw [hl.step.same]
  simpa using this

theorem left_resynchronise {s : State} {n : Axis} (h : DepartOk s n) (state : TrackerState) (turn : Option Turn) (forget : Bool) :
    Left s (resynchronise n state turn forget s) n 0
      (resyncedTracker s n state turn (if forget then none else (s.tracker n).sequence)) := by
  have hl := left_depart h
  unfold resynchronise
  dsimp only
  rw [hl.step.same]
  exact hl.setTracker _

/-- The spans and the position that a departure moves are those of the tracker before (R66). -/
theorem heldOnLeaving_congr {s u : State} {n : Axis} (hstate : (u.tracker n).state = (s.tracker n).state)
    (hlive : (u.tracker n).live = (s.tracker n).live) (hposition : (u.tracker n).position = (s.tracker n).position)
    (hheld : (u.tracker n).held = (s.tracker n).held) (hc : u.conditions = s.conditions) :
    heldOnLeaving u n = heldOnLeaving s n := by
  unfold heldOnLeaving withdraws
  dsimp only
  rw [hstate, hlive, hposition, hheld, State.pendingConditions, State.pendingConditions, hc]

/-- A departure from a part whose tracker the same event has already given a new record, its indicator as it was. -/
theorem Left.departs {s u t : State} {n : Axis} {f : FlagSet} {v w : Tracker} (h : Left u t n f v)
    (hu : ∀ a, u.tracker a = if a = n then w else s.tracker a) (hsure : w.sure = (s.tracker n).sure)
    (hc : u.conditions = s.conditions) : Departs s t n v := by
  have hn : u.tracker n = w := by rw [hu, if_pos rfl]
  refine ⟨fun m => ?_, fun hs => (h.posted (by rw [hn, hsure, hs])).congr hc,
    fun hs => (h.quiet (by rw [hn, hsure, hs])).trans hc⟩
  rw [h.step.tracker, hu]
  split <;> rfl

/-! ### Acceptances that make the axis sure (R69, R80) -/

/-- The axis has become sure with the record `v`. -/
structure BecameSure (s t : State) (n : Axis) (v : Tracker) : Prop where
  step : TrackerStep s t n 0 v
  now : t.now = s.now
  passes : t.passes = s.passes
  posted : Posted s t n .sure
  conditions : ConditionsOk s.available[n] true (t.pendingConditions n)

theorem becameSure_becomeSure {s : State} {n : Axis} (h : ConditionsOk s.available[n] false (s.pendingConditions n)) (t : Tracker) :
    BecameSure s (becomeSure n t s) n { t with sure := true, held := if withdraws s n then none else t.held } := by
  have hc : ConditionsOk s.available[n] (decide (ConditionKind.sure ≠ .sure)) (s.pendingConditions n) := by simpa using h
  obtain ⟨hp, hw⟩ := posted_post hc
  unfold becomeSure
  simp only [hw]
  rw [post_eq] at hp ⊢
  refine ⟨by simpa using (trackerStep_setConditions s n _).trans (trackerStep_setTracker ..), rfl, rfl, hp, ?_⟩
  have := hc.postedTo (now := s.now)
  simpa using this

end Sys2Proof.Machine
end

section
/-! SET_AXIS, RESYNC, sample frames and the staleness timer (chapter 4). -/

namespace Sys2Proof.Machine

/-! ### Departures in a longer event -/

theorem DepartOk.of_step {s u : State} {n : Axis} {f : FlagSet} {w : Tracker} (h : DepartOk s n) (hu : TrackerStep s u n f w)
    (hsure : w.sure = (s.tracker n).sure) (hstate : w.state = (s.tracker n).state) (hc : u.conditions = s.conditions) :
    DepartOk u n := by
  have hav : u.available = s.available := hu.only.available
  refine ⟨by rw [hu.same, hsure, hstate]; exact h.sure, ?_⟩
  rw [hu.same, hsure, State.pendingConditions, hc, hav]
  exact h.conditions

theorem Posted.of_eq {s u t : State} {n : Axis} {k : ConditionKind} (h : Posted s u n k) (hc : t.conditions = u.conditions)
    (hnow : t.now = u.now) : Posted s t n k := by
  intro m
  have := h m
  rw [State.pendingConditions, hc, hnow]
  exact this

theorem Departs.of_eq {s u t : State} {n : Axis} {v : Tracker} (h : Departs s u n v) (hc : t.conditions = u.conditions)
    (ht : t.trackers = u.trackers) (hnow : t.now = u.now) : Departs s t n v where
  tracker m := by rw [State.tracker, ht]; exact h.tracker m
  posted hs := (h.posted hs).of_eq hc hnow
  quiet hs := hc.trans (h.quiet hs)

/-! ### SET_AXIS -/

theorem forcesResync_eq (c d : AxisConfig) : forcesResync c d = decide (d.enabled ≠ c.enabled ∨ d.reverse ≠ c.reverse ∨
    d.offset ≠ c.offset ∨ d.initMode ≠ c.initMode ∨ d.presetTurns ≠ c.presetTurns) := by
  simp only [forcesResync, Bool.decide_or, Bool.or_assoc]

/-- The staleness timer after a SET_AXIS without a resynchronisation (R67). -/
theorem retimed_eq (c d : AxisConfig) (now : Nat) (t : Tracker) : retimed c d now t =
    if d.staleness ≠ c.staleness ∧ (t.timer ≠ none ∨ (c.staleness = 0 ∧ t.state = .tracking)) then
      { t with timer := timerFrom d now }
    else t := by
  unfold retimed
  by_cases h : d.staleness = c.staleness
  · simp [h]
  · by_cases ht : t.timer.isSome = true ∨ (c.staleness = 0 ∧ t.state = .tracking)
    · have ht' : t.timer ≠ none ∨ (c.staleness = 0 ∧ t.state = .tracking) := by
        rwa [← Option.isSome_iff_ne_none]
      rw [if_neg h, if_pos ht, if_pos ⟨h, ht'⟩]
      rfl
    · have ht' : ¬(t.timer ≠ none ∨ (c.staleness = 0 ∧ t.state = .tracking)) := by
        rwa [← Option.isSome_iff_ne_none]
      rw [if_neg h, if_neg ht, if_neg fun hc => ht' hc.2]

theorem flagsByte_resync (a : Prop) [Decidable a] (b : Bool) :
    flagsByte (decide a) b = (if a then 1 else 0) ||| (if b then 2 else 0) := by
  unfold flagsByte
  simp only [decide_eq_true_eq]

theorem axisEffect_forced {u : State} {n : Axis} {c d : AxisConfig} (h : DepartOk u n) (hf : forcesResync c d = true) :
    Left u (axisEffect n c d u) n 0
      (resyncedTracker u n (if d.enabled then .acquiring else .disabled) none (u.tracker n).sequence) := by
  unfold axisEffect
  rw [if_pos hf]
  exact left_resynchronise h _ none false

theorem axisEffect_unforced {u : State} {n : Axis} {c d : AxisConfig} (hf : forcesResync c d = false) :
    axisEffect n c d u = u.setTracker n (retimed c d u.now (u.tracker n)) := by
  unfold axisEffect
  rw [if_neg (by simp [hf])]

/-- Settles O31: the record is written, and the tracker is resynchronised or retimed. -/
theorem setAxisConfiguresTheAxis : Obligations.SetAxisConfiguresTheAxis := by
  intro s p tag payload n x hs hdue hparse hopen c d forced
  have hforced : forcesResync c d = forced := forcesResync_eq c d
  obtain ⟨t, ht, hend⟩ := grantEnded_of_due hdue
  set u := (beginGrant p s).setAxisConfig n d with hu
  have hact : actOf .setAxis p payload (beginGrant p s) = configEnding (axisEffect n c d u) (axisItem n) (decide (d ≠ c)) []
      [flagsByte (decide (d = c)) forced] := by
    have hfrozen : wiringFrozen (beginGrant p s) = false := wiringFrozen_eq_false.mpr hopen
    simp only [actOf, actSetAxis, hparse, hfrozen, Bool.false_eq_true, if_false, ← hforced]
    rfl
  rw [hact] at hend
  obtain ⟨hanswered, hnow, htab, hev, hcf, htr, henq, hgain, hrec⟩ := hend
  simp only [configEnding] at hanswered htab hev hcf htr henq hrec hgain
  rw [ite_decide_not] at henq
  rw [flagsByte_resync] at hanswered
  have hleft := workLeaves_axisEffect n c d u
  have hunow : u.now = s.now + 1 := rfl
  have haxes : ∀ m, u.axisConfig m = if m = n then d else s.axisConfig m := State.setAxisConfig_at _ n d
  set w := axisEffect n c d u with hw
  have htnow : t.now = w.now := by rw [hnow, hleft.now, hunow]
  have hok : DepartOk u n := ⟨(hs.axes n).tracker.sure, (hs.axes n).conditions⟩
  have hforce : forced = true →
      Left u w n 0 (resyncedTracker s n (if d.enabled then .acquiring else .disabled) none (s.tracker n).sequence) :=
    fun hf => axisEffect_forced hok (hforced.trans hf)
  have hretime : forced = false → w = u.setTracker n (retimed c d t.now (s.tracker n)) := fun hf => by
    rw [hw, axisEffect_unforced (hforced.trans hf), hnow]; rfl
  have hsame : OnlyTracking u w ∧ w.passes = s.passes := by
    cases hf : forced with
    | true => exact ⟨(hforce hf).step.only, (hforce hf).passes⟩
    | false => rw [hretime hf]; exact ⟨(trackerStep_setTracker ..).only, rfl⟩
  obtain ⟨hsame, hpasses⟩ := hsame
  refine ⟨t, ht, hnow, hanswered, fun m => ?_, fun hf => ?_, fun hf => ?_, henq, hgain, hcf.lines.trans hsame.config.lines,
    hcf.ports.trans hsame.config.ports, hcf.freeze.trans hsame.config.freeze, ?_, hev.available.trans hsame.available,
    hev.passes.trans hpasses, hev.dwells.trans hsame.dwells, lines_eq_of_recomputed_nil hrec⟩
  · rw [← haxes m]
    simp only [State.axisConfig, hcf.axes, hsame.config.axes]
  · have hd : Departs s w n _ := (hforce hf).departs (w := s.tracker n)
      (fun a => by split; · next h => rw [h]; rfl
                   · rfl) rfl rfl
    exact hd.of_eq hev.conditions htr htnow
  · rw [hretime hf] at hev htr
    refine ⟨hev.conditions, fun m => ?_⟩
    rw [State.tracker, htr]
    change (u.setTracker n (retimed c d t.now (s.tracker n))).tracker m = _
    rw [State.setTracker_at, retimed_eq]
    by_cases hm : m = n
    · subst hm; simp only [true_and, if_true]
    · simp [hm]; rfl
  · exact ⟨htab.slots.trans hsame.table.slots, htab.absolute.trans hsame.table.absolute,
      htab.periodic.trans hsame.table.periodic⟩

/-! ### RESYNC -/

theorem onlyTracking_setPort (s : State) (p : Port) (v : PortState) : OnlyTracking s (s.setPort p v) :=
  ⟨⟨rfl, rfl, rfl, rfl⟩, ⟨rfl, rfl, rfl⟩, rfl, rfl, ⟨rfl, rfl, rfl, rfl⟩, ⟨rfl, rfl⟩, rfl,
    ⟨⟨rfl, rfl, rfl, rfl⟩, ⟨rfl, rfl⟩, ⟨rfl, rfl⟩⟩⟩

theorem parseResync_length {payload : List Byte} {n : Axis} {turn : Option Turn} (h : parseResync payload = some (n, turn)) :
    payload.length ≤ 32 := by
  unfold parseResync at h
  split at h
  · simp
  · cases h

theorem Raised.port {s t : State} (h : Raised s t 0) (p : Port) : t.port p = s.port p := by
  rw [h p]
  simp

/-- Settles O38: the tracker is resynchronised, and the answer placed. -/
theorem resyncRestartsTheTracker : Obligations.ResyncRestartsTheTracker := by
  intro s p tag payload m n turn hs hp hd hparse hstate
  set a := accepted s p payload with ha
  have hok : DepartOk (a.tick m) n := by
    have h := (hs.axes n).departOk
    have hstep : TrackerStep a (a.tick m) n 0 (a.tracker n) := trackerStep_tick a m n
    exact DepartOk.of_step (s := a) ⟨h.sure, h.conditions⟩ hstep rfl rfl (by simp)
  have hl := left_resynchronise hok .acquiring turn true
  set w := resynchronise n .acquiring turn true (a.tick m) with hw
  have hexec : exec (.resync p tag payload m) s = .next (placeResponse p ⟨tag, 0x49, .ok, []⟩ w) := by
    change Host.Outcome.next (occupy p payload _ s) = _
    rw [occupy_accepted _ hp (parseResync_length hparse), whenRunning_running (show (accepted s p payload).device = _ from hd)]
    simp only [serveResync, hparse]
    rw [if_neg (show ¬((accepted s p payload).tracker n).state = .disabled from hstate)]
    rfl
  have htick := trackerStep_tick a m n
  have hraised : Raised a w 0 := by simpa using (htick.trans hl.step).raised
  refine ⟨_, hexec, ?_, ?_, ?_, ?_, ?_, ?_⟩
  · exact hl.now.trans (by rw [tick_eq_momentOf]; rfl)
  · simp only [placeResponse, State.setPort_same, hraised.port p, ha, accepted_port]
    rfl
  · rw [placeResponse, State.setPort_other, hraised.port, ha, accepted, State.setPort_other]
  · have hheld : heldOnLeaving (a.tick m) n = heldOnLeaving s n := by
      refine (heldOnLeaving_congr (s := a) ?_ ?_ ?_ ?_ ?_).trans rfl <;> simp
    have hdep : Departs s w n _ := hl.departs (w := s.tracker n) (fun b => by
      rw [htick.tracker]; rfl) rfl (by simp [ha]; rfl)
    have hv : resyncedTracker (a.tick m) n .acquiring turn none = resyncedTracker s n .acquiring turn none := by
      unfold resyncedTracker
      rw [hheld, htick.same]
      rfl
    simp only [if_true] at hdep
    rw [hv] at hdep
    exact hdep.of_eq rfl rfl rfl
  · exact hl.passes.trans (by simp [ha]; rfl)
  · exact (((onlyTracking_setPort s p _).trans htick.only).trans hl.step.only).trans (onlyTracking_setPort ..)

end Sys2Proof.Machine
end

section
/-! Sample frames (4.1 to 4.5): what fails a test, and what the tracker's state makes of a frame that passes. -/

namespace Sys2Proof.Machine

/-! ### The tests of a frame (R57, R58) -/

theorem inService_iff (s : State) : s.inService = true ↔ s.device = .running ∧ s.held = false := by
  simp [State.inService]

theorem exec_sampleFrame {s : State} {n : Axis} {straddles : Bool} (bits : Nat) (word : BitVec 32) (m : Moment)
    (h : Judged s n straddles) :
    exec (.sampleFrame n bits word straddles m) s = .next (judgeSample n bits word (s.tick m)) := by
  obtain ⟨hservice, rfl, henabled⟩ := h
  change execSampleFrame n bits word false m s = _
  simp [execSampleFrame, (inService_iff s).mpr hservice, henabled]

theorem exec_sampleFrame_ignored {s : State} {n : Axis} {straddles : Bool} (bits : Nat) (word : BitVec 32) (m : Moment)
    (h : ¬Judged s n straddles) : exec (.sampleFrame n bits word straddles m) s = .next s := by
  change execSampleFrame n bits word straddles m s = _
  unfold execSampleFrame
  refine if_neg fun hc => h ?_
  simp only [Bool.and_eq_true, inService_iff, Bool.not_eq_true', decide_eq_true_eq] at hc
  exact ⟨hc.1.1, hc.1.2, hc.2⟩

theorem checkPasses_iff (bits : Nat) (word : BitVec 32) : checkPasses bits word = true ↔ Checked bits word := by
  rw [checkPasses, Bool.and_eq_true, decide_eq_true_iff, decide_eq_true_iff]
  exact ⟨fun ⟨h, k⟩ => ⟨h, k⟩, fun ⟨h, k⟩ => ⟨h, k⟩⟩

theorem statusPasses_iff (word : BitVec 32) :
    statusPasses (frameStatus word) = true ↔ word.getLsbD 27 = true ∧ word.getLsbD 24 = false := by
  simp [statusPasses, frameStatus]

theorem statusWarns_eq (word : BitVec 32) : statusWarns (frameStatus word) = (word.getLsbD 26 || word.getLsbD 25) := by
  simp [statusWarns, frameStatus]

theorem correctedAngle_eq (c : AxisConfig) (word : BitVec 32) : correctedAngle c (word.extractLsb' 8 16) = angleOf c word := by
  unfold correctedAngle angleOf
  have h : (0 : Angle) - word.extractLsb' 8 16 = BitVec.ofNat 16 ((65536 - (word.extractLsb' 8 16).toNat) % 65536) := by
    apply BitVec.eq_of_toNat_eq
    rw [BitVec.toNat_sub, BitVec.toNat_ofNat]
    simp
  rw [h]

/-- The tracker of an axis has read a frame, which goes on to the judgement of its state (R58). -/
structure FrameRead (s v : State) (n : Axis) (word : BitVec 32) (m : Moment) : Prop where
  step : TrackerStep s v n (warning word) (readTracker (s.tracker n) word)
  now : v.now = momentOf s m
  passes : v.passes = s.passes
  conditions : v.conditions = s.conditions

theorem judgeSample_passes {s : State} {n : Axis} {bits : Nat} {word : BitVec 32} (m : Moment) (h : Passes bits word) :
    ∃ v, FrameRead s v n word m ∧
      judgeSample n bits word (s.tick m) = judgePassed n (sequenceOf word) (angleOf (s.axisConfig n) word) v := by
  have htick := trackerStep_tick s m n
  have hread := htick.trans (trackerStep_setTracker (s.tick m) n (readTracker ((s.tick m).tracker n) word))
  have haxis : (s.tick m).axisConfig n = s.axisConfig n := by simp
  rw [htick.same] at hread
  unfold judgeSample
  simp only [(checkPasses_iff _ _).mpr h.checked, (statusPasses_iff word).mpr ⟨h.valid, h.alarm⟩, if_true, correctedAngle_eq,
    haxis, htick.same, statusWarns_eq]
  by_cases hw : (word.getLsbD 26 || word.getLsbD 25) = true
  · have hwarn := hread.trans (trackerStep_raiseBoth .sensorWarning _ n)
    rw [hread.same] at hwarn
    refine ⟨raiseBoth .sensorWarning ((s.tick m).setTracker n (readTracker (s.tracker n) word)), ⟨?_, ?_, ?_, ?_⟩, ?_⟩
    · rw [warning, if_pos hw]; simpa using hwarn
    · exact (tick_eq_momentOf s m)
    · exact State.tick_passes s m
    · exact State.tick_conditions s m
    · rw [if_pos hw]; rfl
  · refine ⟨(s.tick m).setTracker n (readTracker (s.tracker n) word), ⟨?_, by simp, by simp, by simp⟩, ?_⟩
    · rw [warning, if_neg hw]; simpa using hread
    · rw [if_neg hw]; rfl

/-- A frame that fails a test raises SENSOR_FAULT, and its tracker counts it (R58, R72). -/
theorem trackerStep_failed (s : State) (n : Axis) (m : Moment) (v : Tracker) :
    TrackerStep s (raiseBoth .sensorFault ((s.tick m).setTracker n v)) n Flag.sensorFault.mask v := by
  have h := (trackerStep_tick s m n).trans (trackerStep_setTracker (s.tick m) n v)
  have hr := h.trans (trackerStep_raiseBoth .sensorFault _ n)
  rw [h.same] at hr
  simpa using hr

/-- Settles O39: a frame is ignored, or it is counted by the test that it fails. -/
theorem framesThatFailTheTests : Obligations.FramesThatFailTheTests := by
  intro s n bits word straddles m
  refine ⟨exec_sampleFrame_ignored bits word m, fun h hc => ?_, fun h hc hp => ?_⟩
  · refine ⟨raiseBoth .sensorFault ((s.tick m).setTracker n (countCheckFail ((s.tick m).tracker n))), ?_, ?_⟩
    · rw [exec_sampleFrame bits word m h, judgeSample, if_neg fun hcp => hc ((checkPasses_iff _ _).mp hcp)]
    · have hs := trackerStep_failed s n m (countCheckFail ((s.tick m).tracker n))
      rw [(trackerStep_tick s m n).same] at hs ⊢
      exact ⟨hs.raised, hs.only, tick_eq_momentOf s m, State.tick_passes s m, State.tick_conditions s m, hs.tracker⟩
  · have hstatus : ¬statusPasses (frameStatus word) = true := fun hst =>
      hp ⟨hc, ((statusPasses_iff word).mp hst).1, ((statusPasses_iff word).mp hst).2⟩
    refine ⟨raiseBoth .sensorFault ((s.tick m).setTracker n (countInvalid (readTracker ((s.tick m).tracker n) word))), ?_, ?_⟩
    · rw [exec_sampleFrame bits word m h, judgeSample, if_pos ((checkPasses_iff _ _).mpr hc), if_neg hstatus]
      rfl
    · have hs := trackerStep_failed s n m (countInvalid (readTracker ((s.tick m).tracker n) word))
      rw [(trackerStep_tick s m n).same] at hs ⊢
      exact ⟨hs.raised, hs.only, tick_eq_momentOf s m, State.tick_passes s m, State.tick_conditions s m, hs.tracker⟩

/-! ### ACQUIRING and LOST -/

theorem FrameRead.axisConfig {s v : State} {n : Axis} {word : BitVec 32} {m : Moment} (h : FrameRead s v n word m) (a : Axis) :
    v.axisConfig a = s.axisConfig a := by simp only [State.axisConfig, h.step.only.config.axes]

theorem FrameRead.available {s v : State} {n : Axis} {word : BitVec 32} {m : Moment} (h : FrameRead s v n word m) :
    v.available = s.available := h.step.only.available

theorem FrameRead.pendingConditions {s v : State} {n : Axis} {word : BitVec 32} {m : Moment} (h : FrameRead s v n word m)
    (a : Axis) : v.pendingConditions a = s.pendingConditions a := by simp only [State.pendingConditions, h.conditions]

theorem FrameRead.pendingPass {s v : State} {n : Axis} {word : BitVec 32} {m : Moment} (h : FrameRead s v n word m)
    (a : Axis) : v.pendingPass a = s.pendingPass a := by simp only [State.pendingPass, h.passes]

theorem FrameRead.departOk {s v : State} {n : Axis} {word : BitVec 32} {m : Moment} (h : FrameRead s v n word m)
    (hs : DepartOk s n) : DepartOk v n := hs.of_step h.step rfl rfl h.conditions

theorem FrameRead.setTracker {s v : State} {n : Axis} {word : BitVec 32} {m : Moment} (h : FrameRead s v n word m) (w : Tracker) :
    TrackerStep s (v.setTracker n w) n (warning word) w := by
  simpa using h.step.trans (trackerStep_setTracker v n w)

theorem acquisitionTurn_eq (c : AxisConfig) (given : Option Turn) :
    acquisitionTurn c given = given.getD (if c.initMode = .preset then c.presetTurns else 0) := by
  unfold acquisitionTurn
  cases given with
  | some t => rfl
  | none => cases c.initMode <;> rfl

/-- An axis that is not TRACKING is not sure (R69). -/
theorem DepartOk.unsure {s : State} {n : Axis} (h : DepartOk s n) (hstate : (s.tracker n).state ≠ .tracking) :
    ConditionsOk s.available[n] false (s.pendingConditions n) := by
  have hs : (s.tracker n).sure = false := by
    rw [← Bool.not_eq_true]
    exact fun hs => hstate (h.sure.mp hs)
  have := h.conditions
  rwa [hs] at this

/-- An acceptance that makes the axis sure, of a frame that has been read (R60, R68). -/
theorem FrameRead.becameSure {s v : State} {n : Axis} {word : BitVec 32} {m : Moment} (h : FrameRead s v n word m)
    (hs : DepartOk s n) (hstate : (s.tracker n).state ≠ .tracking) (t : Tracker) :
    let w := becomeSure n t v
    TrackerStep s w n (warning word) { t with sure := true, held := if withdraws s n then none else t.held } ∧
      w.now = momentOf s m ∧ w.passes = s.passes ∧ Posted s w n .sure := by
  have hb := becameSure_becomeSure ((h.departOk hs).unsure (n := n) (by rw [h.step.same]; exact hstate)) t
  have hw : withdraws v n = withdraws s n := by simp only [withdraws, h.pendingConditions]
  rw [hw] at hb
  exact ⟨by simpa using h.step.trans hb.step, hb.now.trans h.now, hb.passes.trans h.passes, hb.posted.congr h.conditions⟩

/-- Settles O40: the first acceptance makes the axis sure, and a LOST axis reads its frames without judging them. -/
theorem framesAcquireTheAxis : Obligations.FramesAcquireTheAxis := by
  intro s n bits word m hs hj hp
  obtain ⟨v, hv, hjudge⟩ := judgeSample_passes (s := s) (n := n) m hp
  have hexec := exec_sampleFrame bits word m hj
  rw [hjudge] at hexec
  have hstate : (v.tracker n).state = (s.tracker n).state := by rw [hv.step.same]; rfl
  refine ⟨fun hacq => ?_, fun hlost => ?_⟩
  · intro k c turn x
    obtain ⟨hstep, hnow, hpasses, hposted⟩ := hv.becameSure (hs.axes n).departOk (by rw [hacq]; decide)
      { acceptedAt c v.now (sequenceOf word) x (Span.single x) (readTracker k word) with acquireTurn := none }
    have hact : judgePassed n (sequenceOf word) (angleOf (s.axisConfig n) word) v = becomeSure n
        { acceptedAt c v.now (sequenceOf word) x (Span.single x) (readTracker k word) with acquireTurn := none } v := by
      unfold judgePassed acquire
      rw [hstate, hacq]
      simp only [hv.axisConfig, hv.step.same, acquisitionTurn_eq]
      rfl
    rw [hact] at hexec
    refine ⟨_, hexec, hstep.raised, hstep.only, hnow, hpasses, hposted, fun a => ?_⟩
    rw [hstep.tracker, hnow, hv.now]
    rfl
  · have hact : judgePassed n (sequenceOf word) (angleOf (s.axisConfig n) word) v = v := by
      unfold judgePassed
      rw [hstate, hlost]
    rw [hact] at hexec
    exact ⟨v, hexec, hv.step.raised, hv.step.only, hv.now, hv.passes, hv.conditions, hv.step.tracker⟩

/-! ### The step of a frame (R61 to R63) -/

theorem missedFrames_eq (last sequence : BitVec 4) : missedFrames (some last) sequence = framesMissed last sequence := by
  unfold missedFrames framesMissed
  have h1 := last.isLt
  have h2 := sequence.isLt
  have h3 : (1 : BitVec 4).toNat = 1 := rfl
  dsimp only
  rw [BitVec.toNat_sub, BitVec.toNat_add, h3]
  omega

theorem stepDelta_eq (last angle : Angle) : stepDelta last angle = stepTo last angle := by
  unfold stepDelta stepTo
  have h1 := last.isLt
  have h2 := angle.isLt
  rw [BitVec.toInt_eq_toNat_cond, BitVec.toNat_sub]
  dsimp only
  split <;> split <;> omega

theorem steppedTurn_eq (turn : Turn) (last angle : Angle) :
    steppedTurn turn last (stepTo last angle) = turnAfter turn last angle := by
  unfold steppedTurn turnAfter
  dsimp only
  split
  · rfl
  · split
    · rfl
    · omega

theorem nextTurn_eq (turn : Turn) (last angle : Angle) : nextTurn turn last (stepTo last angle) =
    if -2048 ≤ turnAfter turn last angle ∧ turnAfter turn last angle ≤ 2047 then
      some (BitVec.ofInt 12 (turnAfter turn last angle)) else none := by
  unfold nextTurn
  simp only [steppedTurn_eq]

theorem stepAllowed_iff (c : AxisConfig) (missed : Nat) (last angle : Angle) :
    stepAllowed c missed (stepDelta last angle) = true ↔
      (stepTo last angle).natAbs ≤ min (c.maxStep.toNat * (missed + 1)) 32767 := by
  simp [stepAllowed, allowedStep, Config.stepCap, stepDelta_eq]

theorem widen_eq (l : Span) (x : ExtPos) : l.widen x =
    ⟨if x.counts < l.lowest.counts then x else l.lowest, if l.highest.counts < x.counts then x else l.highest⟩ := by
  unfold Span.widen ExtPos.lower ExtPos.higher
  simp only [ExtPos.le_iff]
  congr 1
  · by_cases h : l.lowest.counts ≤ x.counts
    · rw [if_pos h, if_neg (by omega)]
    · rw [if_neg h, if_pos (by omega)]
  · by_cases h : l.highest.counts < x.counts
    · rw [if_pos h, if_pos (by omega)]
    · rw [if_neg h]
      split
      · next hle => exact ExtPos.counts_injective (by omega)
      · rfl

/-! ### TRACKING -/

/-- The frame that has been read makes the axis LOST; `w` is the tracker as the judgement has counted the frame (R70). -/
theorem FrameRead.lost {s v : State} {n : Axis} {word : BitVec 32} {m : Moment} (h : FrameRead s v n word m)
    (hs : DepartOk s n) (c : LostCause) {w : Tracker} (hstate : w.state = (s.tracker n).state)
    (hsure : w.sure = (s.tracker n).sure) (hlive : w.live = (s.tracker n).live)
    (hposition : w.position = (s.tracker n).position) (hheld : w.held = (s.tracker n).held) :
    let t := enterLost n c (v.setTracker n w)
    OnlyTracking s t ∧ Raised s t (warning word ||| Flag.axisLost.mask) ∧ t.now = momentOf s m ∧ t.passes = s.passes ∧
      Departs s t n (lostTracker s n w c) := by
  have hu := h.setTracker w
  have hok : DepartOk (v.setTracker n w) n := hs.of_step hu hsure hstate h.conditions
  have hl := left_enterLost hok c
  have hall := hu.trans hl.step
  have hleaving : heldOnLeaving (v.setTracker n w) n = heldOnLeaving s n :=
    heldOnLeaving_congr (by rw [hu.same, hstate]) (by rw [hu.same, hlive]) (by rw [hu.same, hposition]) (by rw [hu.same, hheld])
      h.conditions
  have hd := hl.departs hu.tracker hsure h.conditions
  refine ⟨hall.only, hall.raised, hl.now.trans h.now, hl.passes.trans h.passes, ?_⟩
  have hv : ({ departedTracker (v.setTracker n w) n with state := .lost, cause := some c } : Tracker) = lostTracker s n w c := by
    unfold departedTracker lostTracker
    rw [hleaving, hu.same]
  rwa [hv] at hd

theorem trackerStep_refl (s : State) (n : Axis) : TrackerStep s s n 0 (s.tracker n) where
  only := OnlyTracking.refl s
  pending := rfl
  raised := Raised.refl s
  tracker a := by
    split
    · next h => rw [h]
    · rfl

theorem surePending_eq_false_iff (s : State) (n : Axis) :
    surePending s n = false ↔ ∀ d ∈ s.pendingConditions n, d.kind ≠ .sure := by
  simp [surePending]

/-- The pass that an acceptance asks for (R64, R79). -/
theorem requestPass_step (n : Axis) (s : State) :
    TrackerStep s (requestPass n s) n 0 (s.tracker n) ∧ (requestPass n s).now = s.now ∧
      (requestPass n s).conditions = s.conditions ∧
      ∀ a, (requestPass n s).pendingPass a =
        if a = n ∧ ∀ d ∈ s.pendingConditions n, d.kind ≠ .sure then some ((s.pendingPass n).getD s.now) else s.pendingPass a := by
  unfold requestPass
  cases hsure : surePending s n with
  | true =>
    have hno : ¬∀ d ∈ s.pendingConditions n, d.kind ≠ .sure := fun h => by
      rw [(surePending_eq_false_iff s n).mpr h] at hsure; cases hsure
    exact ⟨trackerStep_refl s n, rfl, rfl, fun a => by simp [hno]⟩
  | false =>
    have hall := (surePending_eq_false_iff s n).mp hsure
    simp only [Bool.false_eq_true, if_false, setPassPending_eq]
    refine ⟨trackerStep_setPass .., rfl, rfl, fun a => ?_⟩
    rw [State.setPass_at]
    by_cases ha : a = n
    · rw [if_pos ha, if_pos ⟨ha, hall⟩]
    · rw [if_neg ha, if_neg fun h => ha h.1]

/-- The tracker as a jump counts it (R62). -/
def jumped (k : Tracker) : Tracker := withJump { k with jumpRun := k.jumpRun + 1 }

/-- What a frame that passes both tests in TRACKING does (R61 to R64); `k` is the tracker once its missed frames are counted. -/
theorem follow_eq {n : Axis} {sequence : BitVec 4} {angle : Angle} {v : State} {k : Tracker} {q : ExtPos} {live : Span} {missed : Nat}
    (hmissed : missedFrames (v.tracker n).sequence sequence = missed) (hk : countGaps (v.tracker n) missed = k)
    (hq : k.position = some q) (hlive : k.live = some live) :
    follow n sequence angle v =
      if (stepTo k.lastAngle angle).natAbs ≤ min ((v.axisConfig n).maxStep.toNat * (missed + 1)) 32767 then
        if -2048 ≤ turnAfter q.turn k.lastAngle angle ∧ turnAfter q.turn k.lastAngle angle ≤ 2047 then
          requestPass n (v.setTracker n (acceptedAt (v.axisConfig n) v.now sequence
            ⟨BitVec.ofInt 12 (turnAfter q.turn k.lastAngle angle), angle⟩
            (live.widen ⟨BitVec.ofInt 12 (turnAfter q.turn k.lastAngle angle), angle⟩) k))
        else enterLost n .turnLimit (v.setTracker n k)
      else if (v.axisConfig n).jumpLimit.toNat ≤ k.jumpRun.toNat + 1 then enterLost n .jumps (v.setTracker n (jumped k))
      else v.setTracker n (jumped k) := by
  unfold follow
  simp only [hmissed, hk, hq, hlive]
  by_cases hstep : (stepTo k.lastAngle angle).natAbs ≤ min ((v.axisConfig n).maxStep.toNat * (missed + 1)) 32767
  · rw [if_pos ((stepAllowed_iff ..).mpr hstep), if_pos hstep, stepDelta_eq, nextTurn_eq]
    by_cases hturn : -2048 ≤ turnAfter q.turn k.lastAngle angle ∧ turnAfter q.turn k.lastAngle angle ≤ 2047
    · simp only [if_pos hturn]
    · simp only [if_neg hturn]
  · rw [if_neg fun h => hstep ((stepAllowed_iff ..).mp h), if_neg hstep]
    rfl

theorem acceptedAt_tracking {c : AxisConfig} {now : Nat} {sequence : BitVec 4} {x : ExtPos} {live : Span} {k : Tracker}
    (h : k.state = .tracking) : acceptedAt c now sequence x live k =
      withAccepted { k with position := some x, lastAngle := x.angle, sequence := some sequence, live := some live,
                            jumpRun := 0, timer := timerFrom c now } := by
  cases k
  cases h
  rfl

/-- Settles O41: the step is allowed and the turn in range, or the axis counts a jump or is LOST. -/
theorem framesTrackTheAxis : Obligations.FramesTrackTheAxis := by
  intro s n bits word m last q live hs hj hp hstate hlast hq hlive c angle missed k turn x
  obtain ⟨v, hv, hjudge⟩ := judgeSample_passes (s := s) (n := n) m hp
  have hexec := exec_sampleFrame bits word m hj
  have hok := (hs.axes n).departOk
  have hread := hv.step.same
  have hmissed : missedFrames (v.tracker n).sequence (sequenceOf word) = missed := by
    have : (v.tracker n).sequence = some last := by rw [hread]; exact hlast
    rw [this, missedFrames_eq]
  have hk : countGaps (v.tracker n) missed = k := by rw [hread]; rfl
  have hact : judgePassed n (sequenceOf word) angle v = follow n (sequenceOf word) angle v := by
    unfold judgePassed
    rw [show (v.tracker n).state = .tracking by rw [hread]; exact hstate]
  rw [hjudge, hact, follow_eq hmissed hk hq hlive, hv.axisConfig] at hexec
  by_cases hstep : (stepTo k.lastAngle angle).natAbs ≤ min (c.maxStep.toNat * (missed + 1)) 32767
  · rw [if_pos hstep] at hexec
    by_cases hturn : -2048 ≤ turn ∧ turn ≤ 2047
    · rw [if_pos hturn] at hexec
      obtain ⟨hpass, hnow, hconds, hpasses⟩ := requestPass_step n (v.setTracker n
        (acceptedAt c v.now (sequenceOf word) x (live.widen x) k))
      have hset := hv.setTracker (acceptedAt c v.now (sequenceOf word) x (live.widen x) k)
      have hall := hset.trans hpass
      rw [hset.same] at hall
      refine ⟨_, hexec, hall.only, hnow.trans hv.now, fun _ => ⟨fun _ _ => ⟨by simpa using hall.raised, hconds.trans hv.conditions,
        fun a => ?_, fun a => ?_⟩, fun h => absurd h (by omega)⟩, fun h => absurd h (by omega)⟩
      · have := hpasses a
        simp only [State.setTracker_get_pendingConditions, State.setTracker_get_pendingPass, hv.pendingConditions,
          hv.pendingPass] at this
        rw [hnow]
        exact this
      · rw [hall.tracker, hnow, widen_eq, acceptedAt_tracking (k := k) hstate]
        rfl
    · rw [if_neg hturn] at hexec
      obtain ⟨honly, hraised, hnow, hpasses, hdep⟩ := hv.lost hok .turnLimit (w := k) rfl rfl rfl rfl rfl
      exact ⟨_, hexec, honly, hnow, fun _ => ⟨fun h1 h2 => absurd ⟨h1, h2⟩ hturn, fun _ => ⟨hraised, hpasses, hdep⟩⟩,
        fun h => absurd h (by omega)⟩
  · rw [if_neg hstep] at hexec
    by_cases hlimit : c.jumpLimit.toNat ≤ k.jumpRun.toNat + 1
    · rw [if_pos hlimit] at hexec
      obtain ⟨honly, hraised, hnow, hpasses, hdep⟩ := hv.lost hok .jumps (w := jumped k) rfl rfl rfl rfl rfl
      exact ⟨_, hexec, honly, hnow, fun h => absurd h hstep,
        fun _ => ⟨hpasses, fun h => absurd h (by omega), fun _ => ⟨hraised, hdep⟩⟩⟩
    · rw [if_neg hlimit] at hexec
      have hset := hv.setTracker (jumped k)
      exact ⟨_, hexec, hset.only, hv.now, fun h => absurd h hstep, fun _ => ⟨hv.passes,
        fun _ => ⟨hset.raised, hv.conditions, hset.tracker⟩, fun h => absurd h hlimit⟩⟩

/-! ### STALE -/

/-- What a frame that passes both tests in STALE does (R68); `k` is the tracker once its missed frames are counted. -/
theorem recover_eq {n : Axis} {sequence : BitVec 4} {angle : Angle} {v : State} {k : Tracker} {q : ExtPos} {missed : Nat}
    (hmissed : missedFrames (v.tracker n).sequence sequence = missed) (hk : countGaps (v.tracker n) missed = k)
    (hq : k.position = some q) :
    recover n sequence angle v =
      if (stepTo k.lastAngle angle).natAbs ≤ min ((v.axisConfig n).maxStep.toNat * (missed + 1)) 32767 then
        if -2048 ≤ turnAfter q.turn k.lastAngle angle ∧ turnAfter q.turn k.lastAngle angle ≤ 2047 then
          becomeSure n (acceptedAt (v.axisConfig n) v.now sequence
            ⟨BitVec.ofInt 12 (turnAfter q.turn k.lastAngle angle), angle⟩
            (Span.single ⟨BitVec.ofInt 12 (turnAfter q.turn k.lastAngle angle), angle⟩) k) v
        else enterLost n .turnLimit (v.setTracker n k)
      else enterLost n .slip (v.setTracker n (countJump k)) := by
  unfold recover
  simp only [hmissed, hk, hq]
  by_cases hstep : (stepTo k.lastAngle angle).natAbs ≤ min ((v.axisConfig n).maxStep.toNat * (missed + 1)) 32767
  · rw [if_pos ((stepAllowed_iff ..).mpr hstep), if_pos hstep, stepDelta_eq, nextTurn_eq]
    by_cases hturn : -2048 ≤ turnAfter q.turn k.lastAngle angle ∧ turnAfter q.turn k.lastAngle angle ≤ 2047
    · simp only [if_pos hturn]
    · simp only [if_neg hturn]
  · rw [if_neg fun h => hstep ((stepAllowed_iff ..).mp h), if_neg hstep]

/-- Settles O42: the axis recovers at the new position, or it is LOST. -/
theorem framesRecoverOrLoseTheAxis : Obligations.FramesRecoverOrLoseTheAxis := by
  intro s n bits word m last q hs hj hp hstate hlast hq c angle missed k turn x
  obtain ⟨v, hv, hjudge⟩ := judgeSample_passes (s := s) (n := n) m hp
  have hexec := exec_sampleFrame bits word m hj
  have hok := (hs.axes n).departOk
  have hread := hv.step.same
  have hmissed : missedFrames (v.tracker n).sequence (sequenceOf word) = missed := by
    have : (v.tracker n).sequence = some last := by rw [hread]; exact hlast
    rw [this, missedFrames_eq]
  have hk : countGaps (v.tracker n) missed = k := by rw [hread]; rfl
  have hact : judgePassed n (sequenceOf word) angle v = recover n (sequenceOf word) angle v := by
    unfold judgePassed
    rw [show (v.tracker n).state = .stale by rw [hread]; exact hstate]
  rw [hjudge, hact, recover_eq hmissed hk hq, hv.axisConfig] at hexec
  by_cases hstep : (stepTo k.lastAngle angle).natAbs ≤ min (c.maxStep.toNat * (missed + 1)) 32767
  · rw [if_pos hstep] at hexec
    by_cases hturn : -2048 ≤ turn ∧ turn ≤ 2047
    · rw [if_pos hturn] at hexec
      obtain ⟨hall, hnow, hpasses, hposted⟩ := hv.becameSure hok (by rw [hstate]; decide)
        (acceptedAt c v.now (sequenceOf word) x (Span.single x) k)
      refine ⟨_, hexec, hall.only, hpasses, hnow, fun _ => ⟨fun _ _ => ⟨hall.raised, hposted, fun a => ?_⟩,
        fun h => absurd h (by omega)⟩, fun h => absurd h (by omega)⟩
      rw [hall.tracker, hnow, hv.now]
      rfl
    · rw [if_neg hturn] at hexec
      obtain ⟨honly, hraised, hnow, hpasses, hdep⟩ := hv.lost hok .turnLimit (w := k) rfl rfl rfl rfl rfl
      exact ⟨_, hexec, honly, hpasses, hnow, fun _ => ⟨fun h1 h2 => absurd ⟨h1, h2⟩ hturn, fun _ => ⟨hraised, hdep⟩⟩,
        fun h => absurd h (by omega)⟩
  · rw [if_neg hstep] at hexec
    obtain ⟨honly, hraised, hnow, hpasses, hdep⟩ := hv.lost hok .slip (w := countJump k) rfl rfl rfl rfl rfl
    exact ⟨_, hexec, honly, hpasses, hnow, fun h => absurd h hstep, fun _ => ⟨hraised, hdep⟩⟩

/-! ### The staleness timer -/

/-- Settles O43: the tracker leaves TRACKING for STALE. -/
theorem stalenessMakesTheAxisStale : Obligations.StalenessMakesTheAxisStale := by
  intro s n m hs hd hheld hstate htimer
  have htick := trackerStep_tick s m n
  have hok : DepartOk (s.tick m) n := (hs.axes n).departOk.of_step htick rfl rfl (by simp)
  have hl := left_depart hok
  have hst := (hl.setTracker { departedTracker (s.tick m) n with state := .stale }).raiseBoth .axisStale
  have hexec : exec (.stalenessExpiry n m) s =
      .next (raiseBoth .axisStale ((depart n (s.tick m)).setTracker n { departedTracker (s.tick m) n with state := .stale })) := by
    change execStalenessExpiry n m s = _
    unfold execStalenessExpiry
    dsimp only
    rw [if_pos, hl.step.same]
    simp [(inService_iff s).mpr ⟨hd, hheld⟩, hstate, Option.isSome_iff_ne_none.mpr htimer]
  have hall := htick.trans hst.step
  have hleaving : heldOnLeaving (s.tick m) n = heldOnLeaving s n := by
    refine heldOnLeaving_congr ?_ ?_ ?_ ?_ ?_ <;> simp
  have hdep := hst.departs htick.tracker rfl (by simp)
  have hv : ({ departedTracker (s.tick m) n with state := .stale } : Tracker) =
      { s.tracker n with state := .stale, held := heldOnLeaving s n, live := none, sure := false, timer := none } := by
    unfold departedTracker
    rw [hleaving, htick.same, if_pos hstate]
  refine ⟨_, hexec, by simpa using hall.raised, hall.only, hst.now.trans (tick_eq_momentOf s m), hst.passes.trans (by simp), ?_⟩
  rw [← hv]
  exact hdep

end Sys2Proof.Machine
end

section
/-! The evaluator's grants (chapter 5): what the visit of every zone of an axis makes of the table, and what is handed on. -/

namespace Sys2Proof.Machine

/-! ### A grant of the evaluator -/

/-- An evaluator grant has ended with its work handed over. -/
structure EvaluatorEnded (s : State) (w : Work) (t : State) : Prop where
  evaluated : Evaluated s t
  now : t.now = s.now + 1
  table : SameTable w.state t
  evaluator : SameEvaluator w.state t
  trackers : t.trackers = w.state.trackers
  enqueued : Enqueued w.items s t
  gained : Gained s t (noticeCauses s w.notices)
  recomputed : Recomputed s t w.lines

/-- The part as an evaluator's grant begins (R15). -/
def beginEvaluation (s : State) : State := (s.setPointer .evaluator).tick .later

theorem evaluator_ended {s : State} {w : Work} (hl : WorkLeaves (beginEvaluation s) w.state)
    (hc : SameConfig (beginEvaluation s) w.state) : EvaluatorEnded s w (handOver w) := by
  have ho := handedOver w
  have hdevice := hl.device
  have hstore := hl.store
  have hport (q : Port) : w.state.port q = s.port q := by simp only [State.port, hl.ports]; rfl
  refine ⟨⟨ho.arbiter.pointer.trans hl.arbiter.pointer, ho.arbiter.running.trans hl.arbiter.running, ?_, ?_, ?_, ?_, fun q => ?_⟩,
    ho.now.trans hl.now, ho.table, ho.evaluator, ho.trackers, ?_, fun q j => ?_, fun l => ?_⟩
  · exact ⟨ho.device.device.trans hdevice.device, ho.device.supply.trans hdevice.supply, ho.device.resetN.trans hdevice.resetN,
      ho.device.load.trans hdevice.load⟩
  · exact ⟨ho.config.axes.trans hc.axes, ho.config.lines.trans hc.lines, ho.config.ports.trans hc.ports,
      ho.config.freeze.trans hc.freeze⟩
  · exact ⟨ho.rows.rows.trans hstore.rows.rows, ho.rows.wear.trans hstore.rows.wear, ho.rows.copyMap.trans hstore.rows.copyMap,
      ho.rows.committed.trans hstore.rows.committed⟩
  · exact ⟨ho.sweep.array.trans hstore.sweep.array, ho.sweep.sweep.trans hstore.sweep.sweep⟩
  · rw [ho.ports q, hport]
  · exact Enqueued.congr (s' := s) ho.enqueued hdevice.device.symm ⟨hstore.queue.queue.symm, hstore.queue.engine.symm⟩
  · have := ho.gained q j
    rw [hport, noticeCauses_congr (s := s) hc.ports] at this
    exact this
  · have hr := ho.recomputed l
    have hline : w.state.line l = s.line l := by simp only [State.line, hl.lines]; rfl
    rwa [hline] at hr

/-! ### The visit of a zone -/

/-- What the evaluator makes of the zones that it visits: which it acts on, their new records and dwell timers, and the notices
beside OCCUPANCY. -/
structure Judgement where
  acts : Zone → Bool
  zone : Zone → Zone
  timer : Zone → Nat → Option DwellTimer → Option DwellTimer
  extra : SlotNo → Zone → List Notice

/-- One zone is visited. -/
def Judgement.visit (g : Judgement) (w : Work) (i : SlotNo) : Work :=
  match w.state.zone i with
  | some z =>
    if g.acts z then
      { state := (w.state.setSlot i (.live (g.zone z))).setDwell i (g.timer z w.state.now (w.state.dwell i))
        items := w.items ++ if entersTrip z (g.zone z) then persistentItem i (g.zone z) else []
        notices := w.notices ++ (occupancyNotice i z (g.zone z) (entersTrip z (g.zone z)) ++ g.extra i z)
        lines := w.lines ++ if z.occupancy = (g.zone z).occupancy then [] else linesOf (g.zone z) }
    else w
  | none => w

/-- The zone in slot `i` is one that the evaluator acts on. -/
def Judgement.actsAt (g : Judgement) (s : State) (i : SlotNo) (z : Zone) : Prop := s.zone i = some z ∧ g.acts z = true

/-- What the visit of a slot hands on. -/
def Judgement.itemsAt (g : Judgement) (s : State) (i : SlotNo) : List ItemNo :=
  match s.zone i with
  | some z => if g.acts z && entersTrip z (g.zone z) then persistentItem i (g.zone z) else []
  | none => []
def Judgement.noticesAt (g : Judgement) (s : State) (i : SlotNo) : List Notice :=
  match s.zone i with
  | some z => if g.acts z then occupancyNotice i z (g.zone z) (entersTrip z (g.zone z)) ++ g.extra i z else []
  | none => []
def Judgement.linesAt (g : Judgement) (s : State) (i : SlotNo) : List LineNo :=
  match s.zone i with
  | some z => if g.acts z && decide (z.occupancy ≠ (g.zone z).occupancy) then linesOf (g.zone z) else []
  | none => []

/-- The slots of `l` have been visited, each once. -/
structure Judgement.Visited (g : Judgement) (s : State) (l : List SlotNo) (w : Work) : Prop where
  frame : ∃ a b, w.state = { s with slots := a, dwells := b }
  acted : ∀ i ∈ l, ∀ z, g.actsAt s i z → w.state.slot i = .live (g.zone z) ∧ w.state.dwell i = g.timer z s.now (s.dwell i)
  kept : ∀ i, (i ∈ l → ∀ z, ¬g.actsAt s i z) → w.state.slot i = s.slot i ∧ w.state.dwell i = s.dwell i
  items : w.items = l.flatMap (g.itemsAt s)
  notices : w.notices = l.flatMap (g.noticesAt s)
  lines : w.lines = l.flatMap (g.linesAt s)

theorem Judgement.Visited.snoc {g : Judgement} {s : State} {l : List SlotNo} {w : Work} (h : g.Visited s l w) {i : SlotNo}
    (hi : i ∉ l) : g.Visited s (l ++ [i]) (g.visit w i) := by
  obtain ⟨hslot, hdwell⟩ := h.kept i fun hm => absurd hm hi
  have hzi : w.state.zone i = s.zone i := zone_congr hslot
  obtain ⟨a, b, hframe⟩ := h.frame
  have hnow : w.state.now = s.now := by rw [hframe]
  unfold Judgement.visit
  rw [hzi, hdwell, hnow]
  by_cases hacts : ∃ z, g.actsAt s i z
  · obtain ⟨z, hz, ha⟩ := hacts
    simp only [hz, ha, if_true]
    refine ⟨?_, fun j hj y hy => ?_, fun j hj => ?_, ?_, ?_, ?_⟩
    · rw [hframe]; exact ⟨_, _, rfl⟩
    · by_cases hji : j = i
      · subst hji
        cases hz.symm.trans hy.1
        exact ⟨by simp, by rw [State.setDwell_at, if_pos rfl]⟩
      · obtain ⟨h1, h2⟩ := h.acted j (by simpa [hji] using hj) y hy
        exact ⟨by rw [State.setDwell_get_slot, State.setSlot_at, if_neg hji, h1],
          by rw [State.setDwell_at, if_neg hji, State.setSlot_get_dwell, h2]⟩
    · have hji : j ≠ i := by
        rintro rfl
        exact hj (by simp) z ⟨hz, ha⟩
      obtain ⟨h1, h2⟩ := h.kept j fun hm => hj (by simp [hm])
      exact ⟨by rw [State.setDwell_get_slot, State.setSlot_at, if_neg hji, h1],
        by rw [State.setDwell_at, if_neg hji, State.setSlot_get_dwell, h2]⟩
    · simp only [h.items, List.flatMap_append, List.flatMap_singleton, Judgement.itemsAt, hz, ha, Bool.true_and]
    · simp only [h.notices, List.flatMap_append, List.flatMap_singleton, Judgement.noticesAt, hz, ha, if_true]
    · simp only [h.lines, List.flatMap_append, List.flatMap_singleton, Judgement.linesAt, hz, ha, Bool.true_and,
        decide_eq_true_eq, ite_not]
  · have hno : ∀ z, s.zone i = some z → g.acts z = false := fun z hz => by
      rw [← Bool.not_eq_true]; exact fun ha => hacts ⟨z, hz, ha⟩
    have hsame : g.Visited s (l ++ [i]) w := by
      refine ⟨h.frame, fun j hj y hy => ?_, fun j hj => h.kept j fun hm => hj (by simp [hm]), ?_, ?_, ?_⟩
      · rcases List.mem_append.mp hj with hj | hj
        · exact h.acted j hj y hy
        · rw [List.mem_singleton] at hj
          subst hj
          exact absurd ⟨y, hy⟩ hacts
      all_goals
        simp only [List.flatMap_append, List.flatMap_singleton, h.items, h.notices, h.lines, Judgement.itemsAt,
          Judgement.noticesAt, Judgement.linesAt]
        cases hz : s.zone i with
        | none => simp
        | some z => simp [hno z hz]
    split
    · next z hz =>
      rw [if_neg (by simp [hno z hz])]
      exact hsame
    · exact hsame

theorem Judgement.visited_foldl (g : Judgement) (s : State) {l : List SlotNo} (hl : l.Nodup) :
    g.Visited s l (l.foldl g.visit { state := s }) := by
  induction l using List.reverseRecOn with
  | nil => exact ⟨⟨_, _, rfl⟩, by simp, fun _ _ => ⟨rfl, rfl⟩, rfl, rfl, rfl⟩
  | append_singleton l i ih =>
    rw [List.foldl_append]
    rw [List.nodup_append] at hl
    exact (ih hl.1).snoc fun hm => hl.2.2 i hm i (by simp) rfl

/-! ### What the visits hand on -/

theorem noticeCauses_flatMap (s : State) (f : SlotNo → List Notice) (hf : ∀ i, ∀ x ∈ f i, x.slot = i) (l : List SlotNo) (q : Port)
    (j : SlotNo) : noticeCauses s (l.flatMap f) q j = if j ∈ l then noticeCauses s (f j) q j else 0 := by
  have hother : ∀ i, j ≠ i → noticeCauses s (f i) q j = 0 := by
    intro i hji
    have : ∀ xs : List Notice, (∀ x ∈ xs, x.slot = i) → noticeCauses s xs q j = 0 := by
      intro xs hxs
      induction xs with
      | nil => rfl
      | cons x xs ih =>
        have hx := hxs x List.mem_cons_self
        rw [noticeCauses_cons, ih fun y hy => hxs y (List.mem_cons_of_mem _ hy)]
        simp [causeOf, hx, hji]
    exact this _ (hf i)
  induction l with
  | nil => rfl
  | cons i l ih =>
    rw [List.flatMap_cons, noticeCauses_append, ih]
    by_cases hji : j = i
    · subst hji
      rw [if_pos List.mem_cons_self]
      split
      · exact BitVec.or_self
      · exact BitVec.or_zero
    · rw [hother i hji]
      simp [hji]

theorem Recomputed.congr {s t : State} {ls ms : List LineNo} (h : Recomputed s t ls) (hm : ∀ l, l ∈ ms ↔ l ∈ ls) :
    Recomputed s t ms := fun l => by
  rw [h l]
  simp only [hm]

/-- A PERSISTENT zone of slot `i` enters TRIPPED between two parts. -/
def tripsAt (s t : State) (i : SlotNo) : Bool :=
  match s.zone i, t.zone i with
  | some z, some y => decide (z.occupancy ≠ .tripped) && decide (y.occupancy = .tripped) && y.persistent
  | _, _ => false

theorem trippedItems_eq (s t : State) : trippedItems s t = (allSlots.filter (tripsAt s t)).map slotItem := by
  refine congrArg (List.map slotItem) (List.filter_congr fun i _ => ?_)
  unfold tripsAt
  cases s.zone i <;> cases t.zone i <;> rfl

theorem mem_movedLines_iff {s t : State} {x : LineNo} : x ∈ movedLines s t ↔
    ∃ i z y, s.zone i = some z ∧ t.zone i = some y ∧ z.occupancy ≠ y.occupancy ∧ x ∈ y.line.toList := by
  unfold movedLines
  rw [List.mem_flatMap]
  constructor
  · rintro ⟨i, _, hi⟩
    cases hz : s.zone i with
    | none => simp [hz] at hi
    | some z =>
      cases hy : t.zone i with
      | none => simp [hz, hy] at hi
      | some y =>
        simp only [hz, hy] at hi
        split at hi
        · cases hi
        · next hne => exact ⟨i, z, y, hz, hy, hne, hi⟩
  · rintro ⟨i, z, y, hz, hy, hne, hx⟩
    exact ⟨i, List.mem_finRange i, by simpa [hz, hy, hne] using hx⟩

theorem flatMap_ite_singleton {α β : Type} (f : α → β) (p : α → Bool) (l : List α) :
    l.flatMap (fun a => if p a then [f a] else []) = (l.filter p).map f := by
  induction l with
  | nil => rfl
  | cons a l ih =>
    rw [List.flatMap_cons, ih]
    cases h : p a <;> simp [h]

/-- Items put into slot order (R18): those of the slots that pass a test, in ascending order. -/
theorem inSlotOrder_map {p : SlotNo → Bool} {l : List SlotNo} (h : ∀ i, p i = true → i ∈ l) :
    inSlotOrder ((l.filter p).map slotItem) = (allSlots.filter p).map slotItem := by
  refine List.Pairwise.eq_of_mem_iff (r := (· < ·)) ?_ ?_ fun k => ?_
  · exact (List.pairwise_lt_finRange 103).sublist List.filter_sublist
  · exact ((List.pairwise_lt_finRange 96).sublist List.filter_sublist).map slotItem fun _ _ hij => hij
  · simp only [inSlotOrder, List.mem_filter, decide_eq_true_eq, List.mem_map]
    constructor
    · rintro ⟨_, i, ⟨_, hp⟩, rfl⟩
      exact ⟨i, ⟨List.mem_finRange i, hp⟩, rfl⟩
    · rintro ⟨i, ⟨_, hp⟩, rfl⟩
      exact ⟨List.mem_finRange _, i, ⟨h i hp, hp⟩, rfl⟩

/-- The notices beside OCCUPANCY that the visit of a slot hands on. -/
def Judgement.extraAt (g : Judgement) (s : State) (n : Axis) (i : SlotNo) : List Notice :=
  match s.zone i with
  | some z => if g.acts z && decide (z.axis = n) then g.extra i z else []
  | none => []

/-- The visits of the zones of axis `n` that the evaluator acts on have made `t`'s slots of `s`'s. -/
structure Judgement.Outcome (g : Judgement) (s t : State) (n : Axis) (l : List SlotNo) (w : Work) : Prop where
  zones : ZonesBecome s t n g.zone
  items : w.items = (l.filter (tripsAt s t)).map slotItem
  trips : ∀ i, tripsAt s t i = true → i ∈ l
  lines : ∀ x, x ∈ movedLines s t ↔ x ∈ w.lines
  notices : ∀ q j, noticeCauses s w.notices q j = movedCauses s t q j ||| noticeCauses s (g.extraAt s n j) q j

theorem Judgement.Visited.outcome {g : Judgement} {s t : State} {n : Axis} {l : List SlotNo} {w : Work} (h : g.Visited s l w)
    (hslots : t.slots = w.state.slots) (hl : ∀ i z, s.zone i = some z → ((i ∈ l ∧ g.acts z = true) ↔ ActedOn n z))
    (hacts : ∀ z, g.acts z = true → z.armed = true ∧ z.occupancy ≠ .tripped)
    (hextra : ∀ i z, ∀ x ∈ g.extra i z, x.slot = i) : g.Outcome s t n l w := by
  have hslot : ∀ i, t.slot i = w.state.slot i := fun i => by simp only [State.slot, hslots]
  have hacted : ∀ i z, s.zone i = some z → ActedOn n z → t.zone i = some (g.zone z) := fun i z hz ha => by
    obtain ⟨hi, ha⟩ := (hl i z hz).mpr ha
    exact zone_of_slot ((hslot i).trans (h.acted i hi z ⟨hz, ha⟩).1)
  have hkept : ∀ i, (∀ z, s.zone i = some z → ¬ActedOn n z) → t.slot i = s.slot i := fun i hi =>
    (hslot i).trans (h.kept i fun hm z hz => hi z hz.1 ((hl i z hz.1).mp ⟨hm, hz.2⟩)).1
  have hkeptz : ∀ i z, s.zone i = some z → ¬ActedOn n z → t.zone i = some z := fun i z hz hn => by
    rw [zone_congr (hkept i fun y hy => by rw [hz] at hy; cases hy; exact hn), hz]
  have hnot : ∀ i z, s.zone i = some z → ¬ActedOn n z → i ∈ l → g.acts z = false := fun i z hz hn hi => by
    rw [← Bool.not_eq_true]
    exact fun ha => hn ((hl i z hz).mp ⟨hi, ha⟩)
  have htrips : ∀ i, tripsAt s t i = true → i ∈ l := fun i hi => by
    cases hz : s.zone i with
    | none => simp [tripsAt, hz] at hi
    | some z =>
      by_cases ha : ActedOn n z
      · exact ((hl i z hz).mpr ha).1
      · simp [tripsAt, hz, hkeptz i z hz ha] at hi
  refine ⟨fun i => ⟨fun z hz ha => ?_, hkept i⟩, ?_, htrips, fun x => ?_, fun q j => ?_⟩
  · exact zone_eq_some_iff.mp (hacted i z hz ha)
  · have hat : ∀ i ∈ l, g.itemsAt s i = if tripsAt s t i then [slotItem i] else [] := fun i hi => by
      unfold Judgement.itemsAt tripsAt
      cases hz : s.zone i with
      | none => rfl
      | some z =>
        by_cases ha : ActedOn n z
        · simp only [hacted i z hz ha, ((hl i z hz).mpr ha).2, entersTrip, persistentItem]
          by_cases h1 : (g.zone z).occupancy = .tripped <;> by_cases h2 : z.occupancy = .tripped <;>
            cases h3 : (g.zone z).persistent <;> simp [h1, h2]
        · by_cases h2 : z.occupancy = .tripped <;> simp [hkeptz i z hz ha, hnot i z hz ha hi, h2]
    rw [h.items, List.flatMap_congr hat, flatMap_ite_singleton]
  · rw [mem_movedLines_iff, h.lines, List.mem_flatMap]
    constructor
    · rintro ⟨i, z, y, hz, hy, hne, hx⟩
      by_cases ha : ActedOn n z
      · obtain ⟨hi, hacts⟩ := (hl i z hz).mpr ha
        cases (hacted i z hz ha).symm.trans hy
        exact ⟨i, hi, by simpa [Judgement.linesAt, hz, hacts, hne, linesOf] using hx⟩
      · cases (hkeptz i z hz ha).symm.trans hy
        exact absurd rfl hne
    · rintro ⟨i, hi, hx⟩
      unfold Judgement.linesAt at hx
      split at hx
      · next z hz =>
        split at hx
        · next hc =>
          rw [Bool.and_eq_true, decide_eq_true_eq] at hc
          exact ⟨i, z, g.zone z, hz, hacted i z hz ((hl i z hz).mp ⟨hi, hc.1⟩), hc.2, hx⟩
        · cases hx
      · cases hx
  · rw [h.notices, noticeCauses_flatMap]
    · cases hz : s.zone j with
      | none => simp [Judgement.noticesAt, Judgement.extraAt, movedCauses, hz, nothing]
      | some z =>
        by_cases ha : ActedOn n z
        · obtain ⟨hi, hacts⟩ := (hl j z hz).mpr ha
          have hm : movedCauses s t q j = occupancyCause s j z (g.zone z) (entersTrip z (g.zone z)) q j := by
            unfold movedCauses entersTrip
            rw [hz, hacted j z hz ha]
          rw [if_pos hi, hm]
          simp only [Judgement.noticesAt, Judgement.extraAt, hz, hacts, ha.1, decide_true, Bool.and_self, if_true,
            noticeCauses_append, noticeCauses_occupancyNotice]
        · have hm : movedCauses s t q j = 0 := by
            unfold movedCauses occupancyCause
            rw [hz, hkeptz j z hz ha]
            by_cases h2 : z.occupancy = .tripped <;> simp [h2, nothing]
          have he : g.extraAt s n j = [] := by
            simp only [Judgement.extraAt, hz]
            refine if_neg fun hc => ha ?_
            rw [Bool.and_eq_true, decide_eq_true_eq] at hc
            exact ⟨hc.2, hacts z hc.1⟩
          rw [hm, he]
          split
          · next hi => simp [Judgement.noticesAt, hz, hnot j z hz ha hi, nothing]
          · simp [nothing]
    · intro i x hx
      unfold Judgement.noticesAt at hx
      split at hx
      · split at hx
        · rcases List.mem_append.mp hx with hx | hx
          · unfold occupancyNotice at hx
            split at hx
            · rw [List.mem_singleton] at hx
              subst hx; rfl
            · cases hx
          · exact hextra i _ x hx
        · cases hx
      · cases hx

end Sys2Proof.Machine
end

section
/-! Passes, expiries and axis conditions taken (5.3 to 5.5). -/

namespace Sys2Proof.Machine

/-! ### The judgement of a pass (R86 to R88) -/

/-- The verdict on a visited zone is the gathered table's (R88), with a transit where R87 records one. -/
theorem judgeZone_eq {z : Zone} {x : SweptSpan} (h : z.occupancy ≠ .tripped) :
    (judgeZone z x).occupancy = passOccupancy z x ∧ (judgeZone z x).transit = passTransit z x := by
  unfold judgeZone passOccupancy passTransit enterVerdict crossVerdict
  cases ho : z.occupancy with
  | tripped => exact absurd ho h
  | qualifying => cases z.bounds.contains x.final <;> simp
  | inside => cases z.bounds.holds z.hysteresis x.final <;> simp
  | unknown =>
    by_cases hd : z.dwell = 0#8 <;> cases z.bounds.contains x.final <;> cases z.action <;> simp [hd]
  | outside =>
    by_cases hd : z.dwell = 0#8 <;> cases z.bounds.contains x.final <;> cases z.bounds.touched x.span <;> cases z.action <;>
      simp [hd]

theorem judgeZone_zone {z : Zone} {x : SweptSpan} (h : z.occupancy ≠ .tripped) : (judgeZone z x).zone z = passedZone z x := by
  obtain ⟨ho, ht⟩ := judgeZone_eq (x := x) h
  unfold Verdict.zone passedZone Zone.withOccupancy addTransit
  rw [ho, ht]
  by_cases hp : passTransit z x = true
  · by_cases h255 : z.transits = 255#8 <;> simp [hp, h255]
  · simp [hp]

theorem setDwell_self (s : State) (i : SlotNo) : s.setDwell i (s.dwell i) = s := by
  simp [State.setDwell, State.dwell]

theorem judgeZone_timer {z : Zone} {x : SweptSpan} (h : z.occupancy ≠ .tripped) (i : SlotNo) (s : State) :
    (judgeZone z x).timer.act i z s = s.setDwell i (passedTimer z x s.now (s.dwell i)) := by
  have ho := (judgeZone_eq (x := x) h).1
  unfold passedTimer
  rw [← ho]
  unfold judgeZone enterVerdict crossVerdict
  cases hz : z.occupancy with
  | tripped => exact absurd hz h
  | qualifying => cases z.bounds.contains x.final <;> simp [TimerAction.act, setDwell_self, cancelDwell]
  | inside => cases z.bounds.holds z.hysteresis x.final <;> simp [TimerAction.act, setDwell_self]
  | unknown =>
    by_cases hd : z.dwell = 0#8 <;> cases z.bounds.contains x.final <;> cases z.action <;>
      simp [hd, TimerAction.act, setDwell_self, newDwell]
  | outside =>
    by_cases hd : z.dwell = 0#8 <;> cases z.bounds.contains x.final <;> cases z.bounds.touched x.span <;> cases z.action <;>
      simp [hd, TimerAction.act, setDwell_self, newDwell]

/-- The judgement of a pass on a span (R83 to R88). -/
def passJudgement (x : SweptSpan) : Judgement where
  acts := evaluated
  zone z := passedZone z x
  timer z now timer := passedTimer z x now timer
  extra i z := if passTransit z x then [transitNotice i z] else []

theorem evaluated_iff (z : Zone) : evaluated z = true ↔ z.armed = true ∧ z.occupancy ≠ .tripped := by
  simp [evaluated]

theorem ite_append_nil {α : Type} (c : Prop) [Decidable c] (l m : List α) :
    (if c then l ++ m else l) = l ++ if c then m else [] := by
  split <;> simp

theorem ite_nil_append {α : Type} (c : Prop) [Decidable c] (l m : List α) :
    (if c then l else l ++ m) = l ++ if c then [] else m := by
  split <;> simp

/-- What a zone given a new record hands on, in the words of the statements (R96, R98, R103). -/
theorem changeZone_eq (i : SlotNo) (z y : Zone) (w : Work) : changeZone i z y w =
    { state := w.state.setSlot i (.live y)
      items := w.items ++ if entersTrip z y then persistentItem i y else []
      notices := w.notices ++ occupancyNotice i z y (entersTrip z y)
      lines := w.lines ++ if z.occupancy = y.occupancy then [] else linesOf y } := by
  unfold changeZone entersTrip
  dsimp only
  rw [ite_append_nil, ite_nil_append]

theorem visit_eq (x : SweptSpan) : visit x = (passJudgement x).visit := by
  funext w i
  unfold visit Judgement.visit
  cases hz : w.state.zone i with
  | none => rfl
  | some z =>
    simp only [passJudgement]
    by_cases he : evaluated z = true
    · have ht := ((evaluated_iff z).mp he).2
      simp only [he, if_true, judgeZone_zone ht, (judgeZone_eq (x := x) ht).2, judgeZone_timer ht, changeZone_eq,
        State.setSlot_get_dwell]
      rw [ite_append_nil, List.append_assoc]
      rfl
    · simp [he]

/-! ### Axis conditions (R93 to R95) -/

/-- The judgement of an axis condition: the zones of the axis take the occupancy that `f` gives, and lose their dwell timers. -/
def settleJudgement (n : Axis) (f : Zone → Occupancy) : Judgement where
  acts z := evaluated z && decide (z.axis = n)
  zone z := zoneAt z (f z)
  timer _ _ _ := none
  extra _ _ := []

theorem settle_eq (n : Axis) (f : Zone → Occupancy) : settle n f = (settleJudgement n f).visit := by
  funext w i
  unfold settle Judgement.visit
  cases hz : w.state.zone i with
  | none => rfl
  | some z =>
    simp only [settleJudgement]
    by_cases he : (evaluated z && decide (z.axis = n)) = true
    · have hy : z.withOccupancy (f z) = zoneAt z (f z) := rfl
      simp only [he, if_true, changeZone_eq, hy, List.append_nil, cancelDwell]
      rfl
    · simp [he]

theorem extraAt_settleJudgement (n m : Axis) (f : Zone → Occupancy) (s : State) (i : SlotNo) :
    (settleJudgement n f).extraAt s m i = [] := by
  unfold Judgement.extraAt
  split
  · exact ite_self _
  · rfl

theorem visited_settleAxis (n : Axis) (f : Zone → Occupancy) (s : State) :
    (settleJudgement n f).Visited s allSlots (settleAxis n f s) := by
  unfold settleAxis
  rw [settle_eq]
  exact Judgement.visited_foldl _ s (List.nodup_finRange 96)

/-! ### The grants -/

theorem EvaluatorDue.running {s : State} {w : WorkItem} (h : EvaluatorDue s w) : s.device = .running :=
  (nextClass_eq_some_service h.next).1

/-- The dwell timers as the visits of the zones of axis `n` leave them. -/
theorem Judgement.Visited.dwells {g : Judgement} {s : State} {n : Axis} {l : List SlotNo} {w : Work} (h : g.Visited s l w)
    (hl : ∀ i z, s.zone i = some z → ((i ∈ l ∧ g.acts z = true) ↔ ActedOn n z)) (i : SlotNo) :
    (∀ z, s.zone i = some z → ActedOn n z → w.state.dwell i = g.timer z s.now (s.dwell i)) ∧
      ((∀ z, s.zone i = some z → ¬ActedOn n z) → w.state.dwell i = s.dwell i) := by
  refine ⟨fun z hz ha => ?_, fun hno => (h.kept i fun hi z hz => hno z hz.1 ((hl i z hz.1).mp ⟨hi, hz.2⟩)).2⟩
  obtain ⟨hi, hacts⟩ := (hl i z hz).mpr ha
  exact (h.acted i hi z ⟨hz, hacts⟩).2

theorem pendingPass_of_due {s : State} {n : Axis} (h : nextItem s = some (.pass n)) : ∃ m, s.pendingPass n = some m := by
  rcases nextItem_cases h with ⟨_, m, hw, hf⟩ | ⟨_, _, _, hw, _⟩ | ⟨_, _, _, hw, _⟩ | ⟨_, _, _, m, hw, hf⟩ <;> cases hw
  · exact ⟨m, hf.1.1⟩
  · exact ⟨m, hf.1⟩

/-- The tracker after a pass has received its span, in the words of the statement (R65, R82). -/
theorem afterPassSpan_eq {t : Tracker} {x : SweptSpan} (h : passSpan t = some x) :
    afterPassSpan t = if t.held = none ∧ t.live ≠ none then { t with live := some ⟨x.final, x.final⟩ } else t := by
  unfold passSpan at h
  unfold afterPassSpan
  cases hh : t.held <;> cases hl : t.live <;> cases hp : t.position <;> simp_all
  subst h
  rfl

/-- The zones that a pass of axis `n` acts on. -/
theorem evaluated_listed_iff {s : State} (h : TableOk s) (hd : s.device = .running) {n : Axis} {i : SlotNo} {z : Zone}
    (hz : s.zone i = some z) :
    (i ∈ s.zoneList n .absolute ++ s.zoneList n .periodic ∧ evaluated z = true) ↔ ActedOn n z := by
  rw [mem_bothLists_iff h hd, evaluated_iff]
  constructor
  · rintro ⟨⟨y, hy, hn⟩, ha⟩
    cases hz.symm.trans hy
    exact ⟨hn, ha⟩
  · rintro ⟨hn, ha⟩
    exact ⟨⟨z, hz, hn⟩, ha⟩

/-- The part as a pass of axis `n` with span `x` judges it. -/
def passBegun (n : Axis) (s : State) : State :=
  ((beginEvaluation s).setPass n none).setTracker n (afterPassSpan (s.tracker n))

/-- The work of a pass that receives span `x`: the visits of its judgement, with the items in slot order. -/
theorem passWork_visited {s : State} {n : Axis} {x : SweptSpan} (havail : s.available[n] = true)
    (hx : passSpan (s.tracker n) = some x) (hnodup : (s.zoneList n .absolute ++ s.zoneList n .periodic).Nodup) :
    ∃ w : Work, passWork n (beginEvaluation s) = { w with items := inSlotOrder w.items } ∧
      (passJudgement x).Visited (passBegun n s) (s.zoneList n .absolute ++ s.zoneList n .periodic) w := by
  refine ⟨_, ?_, Judgement.visited_foldl _ _ hnodup⟩
  unfold passWork
  dsimp only
  rw [if_pos (by exact havail)]
  split
  · next y hy =>
    cases hx.symm.trans hy
    rw [visit_eq]
    rfl
  · next hy => cases hx.symm.trans hy

theorem Judgement.Outcome.congr {g : Judgement} {b s t : State} {n : Axis} {l : List SlotNo} {w : Work}
    (h : g.Outcome b t n l w) (hslots : b.slots = s.slots) (hports : b.portConfig = s.portConfig) : g.Outcome s t n l w := by
  have hzone : ∀ i, b.zone i = s.zone i := fun i => zone_congr (by simp only [State.slot, hslots])
  have hslot : ∀ i, b.slot i = s.slot i := fun i => by simp only [State.slot, hslots]
  have htrips : tripsAt b t = tripsAt s t := funext fun i => by simp only [tripsAt, hzone]
  obtain ⟨hzones, hitems, hin, hlines, hnotices⟩ := h
  rw [htrips] at hitems hin
  refine ⟨fun i => ?_, hitems, hin, fun x => ?_, fun q j => ?_⟩
  · have hi := hzones i
    rwa [hzone, hslot] at hi
  · rw [← hlines x, mem_movedLines_iff, mem_movedLines_iff]
    simp only [hzone]
  · have hmoved : movedCauses b t q j = movedCauses s t q j := by
      unfold movedCauses
      rw [hzone]
      simp only [occupancyCause_congr hports]
    have hextra : g.extraAt b n j = g.extraAt s n j := by simp only [Judgement.extraAt, hzone]
    rw [← noticeCauses_congr hports, hnotices q j, hmoved, noticeCauses_congr hports, hextra]

/-- What an evaluator grant ends with, where its work is the visits of a judgement from a part `b` whose slots, dwell timers and
records are those of `s`. -/
theorem EvaluatorEnded.of_visited {s b : State} {g : Judgement} {l : List SlotNo} {w w' : Work} (hv : g.Visited b l w)
    (hw' : w'.state = w.state) (hb : WorkLeaves (beginEvaluation s) b) (hc : SameConfig (beginEvaluation s) b) :
    EvaluatorEnded s w' (handOver w') := by
  obtain ⟨a, d, hframe⟩ := hv.frame
  have hleaves : WorkLeaves b w'.state := by
    rw [hw', hframe]
    exact ⟨rfl, rfl, ⟨rfl, rfl, rfl, rfl⟩, ⟨⟨rfl, rfl, rfl, rfl⟩, ⟨rfl, rfl⟩, ⟨rfl, rfl⟩⟩, ⟨rfl, rfl⟩, rfl, rfl⟩
  have hconfig : SameConfig b w'.state := by
    rw [hw', hframe]
    exact ⟨rfl, rfl, rfl, rfl⟩
  exact evaluator_ended (hb.trans hleaves) ⟨hconfig.axes.trans hc.axes, hconfig.lines.trans hc.lines,
    hconfig.ports.trans hc.ports, hconfig.freeze.trans hc.freeze⟩

/-- Settles O44: a pass is the visit of each zone of both lists once, and acts on those that are armed and not TRIPPED. -/
theorem passJudgesTheZones : Obligations.PassJudgesTheZones := by
  intro s n hs hdue
  obtain ⟨m, hm⟩ := pendingPass_of_due hdue.item
  have havail : s.available[n] = true := (hs.axes n).pass (by rw [hm]; rfl)
  have hexec : exec (.pass n) s = .next (handOver (passWork n (beginEvaluation s))) :=
    congrArg Host.Outcome.next (evaluatorGrant_due _ hdue)
  have hpasses : ∀ t : State, t.passes = s.passes.set n none →
      ∀ m, t.pendingPass m = if m = n then none else s.pendingPass m := fun t ht m => by
    rw [← State.setPass_at]
    simp only [State.pendingPass, ht, State.setPass]
  cases hx : passSpan (s.tracker n) with
  | none =>
    have hw : passWork n (beginEvaluation s) = { state := (beginEvaluation s).setPass n none } := by
      unfold passWork
      dsimp only
      rw [if_pos (by exact havail)]
      split
      · next y hy => cases hx.symm.trans hy
      · rfl
    have hend : EvaluatorEnded s _ _ := evaluator_ended (s := s) (w := passWork n (beginEvaluation s))
      (by rw [hw]; exact workLeaves_setPass _ _ _) (by rw [hw]; exact ⟨rfl, rfl, rfl, rfl⟩)
    rw [hw] at hend hexec
    refine ⟨_, hexec, hend.evaluated, hend.now, ⟨hend.table.absolute, hend.table.periodic⟩,
      ⟨hend.evaluator.available, hend.evaluator.conditions⟩, hpasses _ hend.evaluator.passes, by simp, fun _ =>
        ⟨hend.trackers, hend.table.slots, hend.evaluator.dwells, lines_eq_of_recomputed_nil hend.recomputed, hend.enqueued, ?_⟩⟩
    exact hend.gained
  | some x =>
    obtain ⟨w, hw, hv⟩ := passWork_visited havail hx (bothLists_nodup hs.table hdue.running n)
    have hl := fun i z (hz : s.zone i = some z) => evaluated_listed_iff hs.table hdue.running (n := n) hz
    have hend := EvaluatorEnded.of_visited (s := s) (w' := { w with items := inSlotOrder w.items }) hv rfl
      ((workLeaves_setPass _ n none).trans (workLeaves_setTracker ..)) ⟨rfl, rfl, rfl, rfl⟩
    rw [hw] at hexec
    generalize handOver { w with items := inSlotOrder w.items } = t at hend hexec
    have hout := hv.outcome (t := t) (n := n) hend.table.slots hl (fun z hz => (evaluated_iff z).mp hz)
      (fun i z y hy => by simp only [passJudgement] at hy; split at hy <;> simp_all [transitNotice])
    obtain ⟨a, d, hframe⟩ := hv.frame
    have hdwell := fun i => hv.dwells (n := n) hl i
    have hset : ∀ m, t.tracker m = if m = n then afterPassSpan (s.tracker n) else s.tracker m := fun m => by
      have : t.tracker m = (passBegun n s).tracker m := by
        simp only [State.tracker, hend.trackers, hframe]
      rw [this, passBegun, State.setTracker_at]
      rfl
    refine ⟨_, hexec, hend.evaluated, hend.now, ⟨hend.table.absolute.trans (by rw [hframe]; rfl),
      hend.table.periodic.trans (by rw [hframe]; rfl)⟩, ⟨hend.evaluator.available.trans (by rw [hframe]; rfl),
      hend.evaluator.conditions.trans (by rw [hframe]; rfl)⟩, hpasses t (hend.evaluator.passes.trans (by rw [hframe]; rfl)),
      fun y hy => ?_, by simp⟩
    cases hy
    refine ⟨fun m => ?_, hout.zones, fun i => ?_, ?_, fun q j => ?_, hend.recomputed.congr hout.lines⟩
    · rw [hset, afterPassSpan_eq hx]
      by_cases hmn : m = n
      · subst hmn; simp
      · simp [hmn]
    · have ht : t.dwell i = w.state.dwell i := by simp only [State.dwell, hend.evaluator.dwells]
      rw [ht, hend.now]
      cases hz : s.zone i with
      | none => exact (hdwell i).2 fun z hz' => by cases hz.symm.trans hz'
      | some z =>
        dsimp only
        split
        · next ha => exact (hdwell i).1 z hz ha
        · next ha => exact (hdwell i).2 fun y hy => by cases hz.symm.trans hy; exact ha
    · have hitems : inSlotOrder w.items = trippedItems s t := by
        rw [hout.items, inSlotOrder_map hout.trips, ← trippedItems_eq]
        rfl
      rw [← hitems]
      exact hend.enqueued
    · rw [hend.gained q j]
      refine congrArg _ ((hout.notices q j).trans (congrArg _ ?_))
      have hb : (passBegun n s).zone j = s.zone j := rfl
      have hcauses : causeOf (passBegun n s) j = causeOf s j := by
        funext c l o
        exact causeOf_congr rfl j c l o
      cases hz : s.zone j with
      | none => simp [Judgement.extraAt, hb, hz, nothing]
      | some z =>
        by_cases ht : passTransit z x = true
        · by_cases ha : z.axis = n ∧ z.armed = true ∧ z.occupancy ≠ .tripped
          · have he : evaluated z = true := (evaluated_iff z).mpr ha.2
            simp [Judgement.extraAt, hb, hz, passJudgement, he, ha, ht, transitNotice, hcauses]
          · have he : ¬(evaluated z = true ∧ z.axis = n) := fun he => ha ⟨he.2, (evaluated_iff z).mp he.1⟩
            simp [Judgement.extraAt, hb, hz, passJudgement, he, ha, ht, nothing]
        · simp [Judgement.extraAt, hb, hz, passJudgement, ht, nothing]

theorem completedOccupancy_eq_tripped (a : Action) : completedOccupancy a = .tripped ↔ a = .latch := by
  cases a <;> simp [completedOccupancy]

/-- The zone of a slot whose expired dwell timer is granted (R90). -/
theorem qualifying_of_expiry {s : State} (hs : Good s) {i : SlotNo} (h : nextItem s = some (.expiry i)) :
    ∃ d z, s.dwell i = some d ∧ s.zone i = some z ∧ z.occupancy = .qualifying ∧ d.incarnation = z.incarnation := by
  have hd : ∃ d, s.dwell i = some d := by
    rcases nextItem_cases h with ⟨_, _, hw, _⟩ | ⟨_, _, _, hw, _⟩ | ⟨_, _, m, hw, hf⟩ | ⟨_, _, _, _, hw, _⟩ <;> cases hw
    obtain ⟨d, hd, _⟩ := hf.1
    exact ⟨d, hd⟩
  obtain ⟨d, hd⟩ := hd
  cases hz : s.zone i with
  | none => cases hd.symm.trans (hs.dwells.empty i hz)
  | some z =>
    exact ⟨d, z, hd, rfl, (hs.dwells.held i z hz).mp (by rw [hd]; rfl), (hs.dwells.own i z d hz hd).1⟩

/-- Settles O45: the timer's expiry dates it, and its grant completes the entry of the zone it belongs to. -/
theorem dwellCompletesTheEntry : Obligations.DwellCompletesTheEntry := by
  refine ⟨fun s i m d hrun hheld hd hexp => ?_, fun s i hs hdue => ?_⟩
  · have hin : s.inService = true := (inService_iff s).mpr ⟨hrun, hheld⟩
    have hexec : exec (.dwellTimerExpiry i m) s =
        .next ((s.tick m).setDwell i (some { d with expired := some (s.tick m).now })) := by
      change execDwellTimerExpiry i m s = _
      unfold execDwellTimerExpiry
      simp only [hd, hin, hexp, Option.isNone_none, Bool.and_self, if_true]
    refine ⟨_, hexec, ?_⟩
    cases m <;>
      exact ⟨.of_dwells rfl, rfl, ⟨rfl, rfl, rfl, rfl⟩, ⟨rfl, rfl, rfl⟩, ⟨rfl, rfl⟩, rfl, ⟨rfl, rfl, rfl, rfl⟩, ⟨rfl, rfl⟩, rfl,
        rfl, rfl, ⟨⟨rfl, rfl, rfl, rfl⟩, ⟨rfl, rfl⟩, ⟨rfl, rfl⟩⟩⟩
  · obtain ⟨d, z, hd, hz, hq, hinc⟩ := qualifying_of_expiry hs hdue.item
    have hexec : exec (.dwellExpiry i) s = .next (handOver (expiryWork i (beginEvaluation s))) :=
      congrArg Host.Outcome.next (evaluatorGrant_due _ hdue)
    have hy : z.withOccupancy (completedOccupancy z.action) = zoneAt z (completedOccupancy z.action) := rfl
    have hentered : entersTrip z (zoneAt z (completedOccupancy z.action)) = decide (z.action = .latch) := by
      simp [entersTrip, zoneAt, completedOccupancy_eq_tripped, hq]
    have hw : expiryWork i (beginEvaluation s) = changeZone i z (zoneAt z (completedOccupancy z.action))
        { state := cancelDwell i (beginEvaluation s) } := by
      have hz' : (beginEvaluation s).zone i = some z := hz
      have hd' : (beginEvaluation s).dwell i = some d := hd
      unfold expiryWork
      simp only [hz', hd', hinc, hq, and_self, if_true]
      rw [hy]
    rw [changeZone_eq, hentered] at hw
    have hend := evaluator_ended (s := s) (w := expiryWork i (beginEvaluation s))
      (by rw [hw]; exact (workLeaves_cancelDwell i _).trans (workLeaves_setSlot ..)) (by rw [hw]; exact ⟨rfl, rfl, rfl, rfl⟩)
    rw [hw] at hend hexec
    have hne : z.occupancy ≠ (zoneAt z (completedOccupancy z.action)).occupancy := by
      simp only [zoneAt, hq]
      cases z.action <;> decide
    have hitems : ((if decide (z.action = .latch) = true then persistentItem i (zoneAt z (completedOccupancy z.action)) else []) :
        List ItemNo) = if z.action = .latch then itemsOf i z.persistent else [] := by
      simp only [decide_eq_true_eq]
      rfl
    generalize handOver _ = t at hend hexec
    obtain ⟨hev, hnow, htab, heval, htrackers, henq, hgain, hrec⟩ := hend
    dsimp only [List.nil_append] at hgain henq hrec
    rw [noticeCauses_occupancyNotice] at hgain
    rw [hitems] at henq
    rw [if_neg hne] at hrec
    exact ⟨t, z, hexec, hev, hnow, hz, hq, .of_slots htab.slots, ⟨htab.absolute, htab.periodic⟩,
      ⟨heval.available, heval.conditions⟩, heval.passes, .of_dwells heval.dwells, htrackers, henq, hgain, hrec⟩

/-- The instruction of an axis condition, and the occupancy that it gives (R93 to R95). -/
def conditionInstr (n : Axis) : ConditionKind → Instr
  | .unsure => .axisUnsure n
  | .sure => .axisSure n

def conditionOccupancy : ConditionKind → Zone → Occupancy
  | .unsure => policyOccupancy
  | .sure => fun _ => .unknown

/-- The part as an axis condition settles its zones (R93, R95): the condition taken and the copy set, then the held span
discarded, or a pass asked for. -/
def conditionBegun (n : Axis) (k : ConditionKind) (s : State) : State :=
  let t := (takeCondition n (beginEvaluation s)).setAvailable n (decide (k = .sure))
  match k with
  | .unsure => t.setTracker n { s.tracker n with held := none }
  | .sure => setPassPending n t

theorem policyOccupancy_eq (z : Zone) : policyOccupancy z = unsureOccupancy z := by
  unfold policyOccupancy unsureOccupancy
  cases z.policy <;> cases z.action <;> cases z.occupancy <;> simp [completedOccupancy]

theorem exec_condition {s : State} {n : Axis} {k : ConditionKind} (h : EvaluatorDue s (.condition n k)) :
    exec (conditionInstr n k) s = .next (handOver (settleAxis n (conditionOccupancy k) (conditionBegun n k s))) := by
  cases k with
  | unsure => exact congrArg Host.Outcome.next (evaluatorGrant_due (unsureWork n) h)
  | sure => exact congrArg Host.Outcome.next (evaluatorGrant_due (sureWork n) h)

/-- What an axis condition does before it settles its zones. -/
structure ConditionBegun (n : Axis) (k : ConditionKind) (s b : State) : Prop where
  leaves : WorkLeaves (beginEvaluation s) b
  config : SameConfig s b
  table : SameTable s b
  dwells : b.dwells = s.dwells
  available : b.available = s.available.set n (decide (k = .sure))
  conditions : b.conditions = s.conditions.set n (s.pendingConditions n).tail
  passes : b.passes =
    s.passes.set n (if decide (k = .sure) = true then some ((s.pendingPass n).getD (s.now + 1)) else s.pendingPass n)
  tracker : ∀ m, b.tracker m = if m = n ∧ k = .unsure then { s.tracker n with held := none } else s.tracker m

theorem conditionBegun_spec (n : Axis) (k : ConditionKind) (s : State) : ConditionBegun n k s (conditionBegun n k s) := by
  cases k with
  | unsure =>
    refine ⟨((workLeaves_setConditions _ n _).trans (workLeaves_setAvailable ..)).trans (workLeaves_setTracker ..),
      ⟨rfl, rfl, rfl, rfl⟩, ⟨rfl, rfl, rfl⟩, rfl, rfl, rfl, ?_, fun m => ?_⟩
    · exact (Vector.set_getElem_self n.isLt).symm
    · simp only [conditionBegun, State.setTracker_at, and_true]
      rfl
  | sure =>
    refine ⟨((workLeaves_setConditions _ n _).trans (workLeaves_setAvailable ..)).trans (workLeaves_setPassPending ..), ?_, ?_, ?_,
      ?_, ?_, ?_, fun m => ?_⟩ <;> simp only [conditionBegun, setPassPending_eq]
    · exact ⟨rfl, rfl, rfl, rfl⟩
    · exact ⟨rfl, rfl, rfl⟩
    · rfl
    · rfl
    · rfl
    · rfl
    · rw [if_neg (by simp)]
      rfl

/-- The zones that an axis condition acts on. -/
theorem settled_iff {n : Axis} {f : Zone → Occupancy} {i : SlotNo} {z : Zone} :
    (i ∈ allSlots ∧ (settleJudgement n f).acts z = true) ↔ ActedOn n z := by
  simp only [settleJudgement, Bool.and_eq_true, decide_eq_true_eq, evaluated_iff, ActedOn]
  exact ⟨fun h => ⟨h.2.2, h.2.1⟩, fun h => ⟨List.mem_finRange i, h.2, h.1⟩⟩

/-- Settles O46: an axis condition is the visit of each slot once, and acts on the zones of its axis. -/
theorem axisConditionsSettleTheZones : Obligations.AxisConditionsSettleTheZones := by
  intro s n k hs hdue f e
  have he : e = conditionInstr n k := by cases k <;> rfl
  have hf : f = fun z => zoneAt z (conditionOccupancy k z) := by
    funext z
    cases k with
    | unsure => exact congrArg (zoneAt z) (policyOccupancy_eq z).symm
    | sure => rfl
  have hexec := exec_condition hdue
  have hv := visited_settleAxis n (conditionOccupancy k) (conditionBegun n k s)
  have hb := conditionBegun_spec n k s
  generalize conditionBegun n k s = b at hexec hv hb
  generalize settleAxis n (conditionOccupancy k) b = w at hexec hv
  have hend := EvaluatorEnded.of_visited (s := s) (w' := w) hv rfl hb.leaves
    ⟨hb.config.axes, hb.config.lines, hb.config.ports, hb.config.freeze⟩
  generalize handOver w = t at hexec hend
  have hout := (hv.outcome (t := t) (n := n) hend.table.slots (fun i z _ => settled_iff)
    (fun z hz => (evaluated_iff z).mp (by simp only [settleJudgement, Bool.and_eq_true] at hz; exact hz.1))
    (by simp [settleJudgement])).congr hb.table.slots hb.config.ports
  obtain ⟨a, d, hframe⟩ := hv.frame
  have hzone : ∀ i, b.zone i = s.zone i := fun i => zone_congr (by simp only [State.slot, hb.table.slots])
  refine ⟨t, he ▸ hexec, hend.evaluated, hend.now, ⟨hend.table.absolute.trans (by rw [hframe]; exact hb.table.absolute),
    hend.table.periodic.trans (by rw [hframe]; exact hb.table.periodic)⟩, fun m => ?_, fun m => ?_, ?_, fun m => ?_, ?_, fun i => ?_,
    ?_, ?_, hend.recomputed.congr hout.lines⟩
  · have ha : t.available = s.available.set n (decide (k = .sure)) :=
      hend.evaluator.available.trans (by rw [hframe]; exact hb.available)
    rw [ha]
    exact State.setAvailable_at s n _ m
  · have hc : t.conditions = s.conditions.set n (s.pendingConditions n).tail :=
      hend.evaluator.conditions.trans (by rw [hframe]; exact hb.conditions)
    rw [← State.setConditions_at]
    simp only [State.pendingConditions, hc, State.setConditions]
  · exact .of_passes hend.now (hend.evaluator.passes.trans (by rw [hframe]; exact hb.passes))
  · rw [← hb.tracker m]
    simp only [State.tracker, hend.trackers, hframe]
  · rw [hf]; exact hout.zones
  · have hd : t.dwell i = w.state.dwell i := by simp only [State.dwell, hend.evaluator.dwells]
    have hsame : b.dwell i = s.dwell i := by simp only [State.dwell, hb.dwells]
    have hdwell := hv.dwells (n := n) (fun i z _ => settled_iff) i
    rw [hzone, hsame] at hdwell
    rw [hd]
    cases hz : s.zone i with
    | none => exact hdwell.2 fun z hz' => by cases hz.symm.trans hz'
    | some z =>
      dsimp only
      split
      · next ha => exact hdwell.1 z hz ha
      · next ha => exact hdwell.2 fun y hy => by cases hz.symm.trans hy; exact ha
  · have hitems : w.items = trippedItems s t := by
      rw [hout.items, trippedItems_eq]
    rw [← hitems]
    exact hend.enqueued
  · intro q j
    rw [hend.gained q j, hout.notices q j]
    rw [extraAt_settleJudgement]
    exact congrArg _ BitVec.or_zero

end Sys2Proof.Machine
end

section
/-! The record store at work (chapter 7): what a grant of the table to the store, a verify and a sweep read make of the engine, the
queue, the array and the ports that wait for their SYNCs. -/

namespace Sys2Proof.Machine

/-! ### The array (R135) -/

theorem serveArray_busy {s : State} (h : s.array ≠ .free) : serveArray s = s := by
  unfold serveArray
  split
  · next hf => exact absurd hf h
  · rfl

theorem serveArray_program {s : State} {x : Program} (h : s.array = .free) (hx : programOf s.engine = some x) :
    serveArray s = beginProgram x s := by
  unfold serveArray
  rw [h]
  cases he : s.engine <;> rw [he] at hx <;> cases hx <;> rfl

theorem serveArray_sweep {s : State} (h : s.array = .free) (hx : programOf s.engine = none) (ha : s.sweep.asked = true) :
    serveArray s = (s.setArray (.sweepRead s.sweep.nextRow true)).setSweep { s.sweep with asked := false } := by
  unfold serveArray beginSweepRead
  simp only [h, ha, if_true]
  cases he : s.engine with
  | idle | claiming _ _ => rfl
  | programming x | retrying x => rw [he] at hx; cases hx

theorem serveArray_rest {s : State} (h : s.array = .free) (hx : programOf s.engine = none) (ha : s.sweep.asked = false) :
    serveArray s = s := by
  unfold serveArray
  simp only [h, ha]
  cases he : s.engine with
  | idle | claiming _ _ => rfl
  | programming x | retrying x => rw [he] at hx; cases hx

/-- What a free array turns to (R135). -/
theorem serveArray_turns {s : State} (h : s.array = .free) : ArrayTurnsTo (programOf s.engine) s.sweep s.row (serveArray s) := by
  cases hx : programOf s.engine with
  | some x =>
    rw [serveArray_program h hx]
    exact ⟨rfl, rfl, fun r => State.setRow_at ..⟩
  | none =>
    cases ha : s.sweep.asked with
    | true =>
      rw [serveArray_sweep h hx ha]
      exact ⟨fun r => rfl, by simp [ha]⟩
    | false =>
      rw [serveArray_rest h hx ha]
      exact ⟨fun r => rfl, by simp [ha, h]⟩

theorem serveArray_frame (s : State) : ∃ a r w, serveArray s = { s with array := a, rows := r, sweep := w } := by
  by_cases h : s.array = .free
  · cases hx : programOf s.engine with
    | some x => exact ⟨_, _, _, serveArray_program h hx⟩
    | none =>
      cases ha : s.sweep.asked with
      | true => exact ⟨_, _, _, serveArray_sweep h hx ha⟩
      | false => exact ⟨s.array, s.rows, s.sweep, serveArray_rest h hx ha⟩
  · exact ⟨s.array, s.rows, s.sweep, serveArray_busy h⟩

theorem setPort_self (s : State) (p : Port) : s.setPort p (s.port p) = s := by cases p <;> rfl

/-! ### The end of a commit (R122, R131, R132) -/

theorem syncedPort_not_waiting {q : PortState} (h : ∀ tag, q.slot ≠ .waiting tag) (gone : Bool) (d : Nat) :
    syncedPort q gone d = q := by
  unfold syncedPort
  split
  · next tag hq => exact absurd hq (h tag)
  · rfl

theorem syncedPort_same (q : PortState) : syncedPort q false q.sync.dropped = q := by
  unfold syncedPort
  split
  · simp
  · rfl

/-- A port's SYNC looked at: its slot and its SYNC record. -/
theorem completeSync_eq (p : Port) (s : State) :
    completeSync p s = s.setPort p (syncedPort (s.port p) (noMark s p) (s.port p).sync.dropped) := by
  unfold completeSync syncedPort
  dsimp only
  cases hslot : (s.port p).slot with
  | waiting tag =>
    dsimp only
    split
    · rfl
    · rw [← hslot]
      exact (setPort_self s p).symm
  | empty | queued _ _ _ | done _ => exact (setPort_self s p).symm

theorem noMark_setPort (s : State) (p q : Port) (v : PortState) : noMark (s.setPort p v) q = noMark s q := rfl

theorem completeSyncs_port (s : State) (q : Port) :
    (completeSyncs s).port q = syncedPort (s.port q) (noMark s q) (s.port q).sync.dropped := by
  unfold completeSyncs
  rw [completeSync_eq .a, completeSync_eq .b, noMark_setPort]
  cases q <;> rfl

theorem completeSyncs_frame (s : State) : ∃ v, completeSyncs s = { s with ports := v } := by
  unfold completeSyncs
  rw [completeSync_eq .a, completeSync_eq .b]
  exact ⟨_, rfl⟩

/-- What the end of a commit leaves alone. -/
theorem afterCommit_frame (s : State) : ∃ v q e, afterCommit s = { s with ports := v, queue := q, engine := e } := by
  obtain ⟨v, hv⟩ := completeSyncs_frame s
  obtain ⟨q, e, hq⟩ := takeHead_frame (completeSyncs s)
  exact ⟨v, q, e, hq.trans (by rw [hv]; rfl)⟩

theorem takeHead_port (s : State) (p : Port) : (takeHead s).port p = s.port p := by
  obtain ⟨q, e, h⟩ := takeHead_frame s
  rw [h]; rfl

theorem noMark_idle {s : State} (h : s.engine = .idle) (p : Port) : noMark s p = unmarked s.queue p := by
  simp [noMark, unmarked, inFlight, h]

/-- The end of a commit answers the SYNCs whose last mark has gone. -/
theorem afterCommit_port {s : State} (h : s.engine = .idle) (p : Port) :
    (afterCommit s).port p = syncedPort (s.port p) (unmarked s.queue p) (s.port p).sync.dropped := by
  rw [afterCommit, takeHead_port, completeSyncs_port, noMark_idle h]

/-- An idle engine takes the head of the queue (R122). -/
theorem takeHead_ended {s : State} (h : s.engine = .idle) (hd : s.device = .running) : CommitEnded (takeHead s) s.queue := by
  unfold takeHead
  cases hq : s.queue with
  | nil =>
    simp only [hd, h]
    exact ⟨hq, h⟩
  | cons e rest =>
    simp only [hd, h]
    exact ⟨rfl, rfl⟩

/-- The engine takes the head of the queue at the end of a commit. -/
theorem commitEnded_afterCommit {s : State} (h : s.engine = .idle) (hd : s.device = .running) :
    CommitEnded (afterCommit s) s.queue := by
  obtain ⟨v, hv⟩ := completeSyncs_frame s
  have hc : afterCommit s = takeHead { s with ports := v } := congrArg takeHead hv
  rw [hc]
  exact takeHead_ended (s := { s with ports := v }) h hd

/-! ### A dropped commit (R128, R131) -/

theorem countDrop_eq (p : Port) (m : Marks) (s : State) :
    countDrop p m s = s.setPort p { s.port p with sync := { (s.port p).sync with dropped := droppedAfter s p m } } := by
  unfold countDrop droppedAfter
  dsimp only
  split
  · rfl
  · exact (setPort_self s p).symm

theorem dropCommit_frame (m : Marks) (s : State) : ∃ v, dropCommit m s = { s with ports := v, engine := .idle } := by
  unfold dropCommit
  rw [countDrop_eq .a, countDrop_eq .b]
  exact ⟨_, rfl⟩

theorem dropCommit_port (m : Marks) (s : State) (p : Port) :
    (dropCommit m s).port p = { s.port p with sync := { (s.port p).sync with dropped := droppedAfter s p m } } := by
  unfold dropCommit
  rw [countDrop_eq .a, countDrop_eq .b]
  cases p <;> rfl

/-- A port that waits for no SYNC counts no dropped commit. -/
theorem syncedPort_dropped {s : State} {p : Port} (h : (s.port p).sync.waiting = true → ∃ tag, (s.port p).slot = .waiting tag)
    (m : Marks) (gone : Bool) :
    syncedPort { s.port p with sync := { (s.port p).sync with dropped := droppedAfter s p m } } gone (droppedAfter s p m) =
      syncedPort (s.port p) gone (droppedAfter s p m) := by
  cases hslot : (s.port p).slot with
  | waiting tag => simp only [syncedPort, hslot]
  | empty | queued _ _ _ | done _ =>
    have hwait : (s.port p).sync.waiting = false := by
      rw [← Bool.not_eq_true]
      intro hw
      obtain ⟨tag, htag⟩ := h hw
      cases hslot.symm.trans htag
    have hdropped : droppedAfter s p m = (s.port p).sync.dropped := by simp [droppedAfter, hwait]
    rw [hdropped]

/-- A dropped commit, with the SYNCs that it ends. -/
theorem afterCommit_dropCommit_port {s : State} {p : Port}
    (h : (s.port p).sync.waiting = true → ∃ tag, (s.port p).slot = .waiting tag) (m : Marks) :
    (afterCommit (dropCommit m s)).port p = syncedPort (s.port p) (unmarked s.queue p) (droppedAfter s p m) := by
  obtain ⟨v, hv⟩ := dropCommit_frame m s
  rw [afterCommit_port (by rw [hv]), dropCommit_port]
  have hq : (dropCommit m s).queue = s.queue := by rw [hv]
  rw [hq]
  exact syncedPort_dropped h m _

theorem afterDrop_frame (m : Marks) (s : State) :
    ∃ v q e, afterCommit (dropCommit m s) = { s with ports := v, queue := q, engine := e } := by
  obtain ⟨_, hdrop⟩ := dropCommit_frame m s
  obtain ⟨v, q, e, hframe⟩ := afterCommit_frame (dropCommit m s)
  exact ⟨v, q, e, hframe.trans (by rw [hdrop])⟩

theorem commitEnded_afterDrop {s : State} (m : Marks) (hd : s.device = .running) :
    CommitEnded (afterCommit (dropCommit m s)) s.queue := by
  obtain ⟨_, hdrop⟩ := dropCommit_frame m s
  have hend := commitEnded_afterCommit (s := dropCommit m s) (by rw [hdrop]) (by rw [hdrop]; exact hd)
  have hq : (dropCommit m s).queue = s.queue := by rw [hdrop]
  rwa [hq] at hend

/-! ### STORE_GRANT -/

theorem contentAt_eq (s : State) (k : ItemNo) : snapshot s k = contentAt s k := by
  unfold snapshot contentAt
  cases itemKind k with
  | slot i =>
    dsimp only
    cases s.slot i with
    | live z => cases hp : z.persistent <;> simp [hp]
    | vacant _ | quarantined => rfl
  | axis _ | lines | ports | freeze => rfl

/-- The engine's choice is the copy that R125 names. -/
theorem chooseTarget_eq {e : ItemEntry} {c : Copy} (h : Targets e c) : chooseTarget e = some c := by
  unfold chooseTarget ItemEntry.bothWorn CopyState.isWorn otherCopy
  cases h with
  | afterWorn0 h0 h1 => simp [h0, h1]
  | afterWorn1 h1 h0 => simp [h0, h1]
  | faulty0 h0 h1 => rcases h0 with h0 | h0 <;> simp [h0, h1]
  | faulty1 h0 h1 => rcases h1 with h1 | h1 <;> simp [h0, h1]
  | older0 h0 h1 hn =>
    cases hc : e.newest with
    | none => simp [h0, h1]
    | some c =>
      have hother : ∀ c : Copy, some c ≠ some 0 → c = 1 := by decide
      have hc1 : c = 1 := hother c (hc ▸ hn)
      simp [h0, h1, hc1]
  | older1 h0 h1 hn => simp [h0, h1, hn]

theorem chooseTarget_eq_none {e : ItemEntry} (h0 : e.copies[0] = .worn) (h1 : e.copies[1] = .worn) : chooseTarget e = none := by
  have hw : e.bothWorn = true := by simp [ItemEntry.bothWorn, CopyState.isWorn, h0, h1]
  simp [chooseTarget, hw]

/-- All that the engine's work on a row reaches of the part. -/
theorem EngineLeaves.of_frame {s t : State} {n : Nat} {c : Claimant} {a q e p r w i u f x}
    (h : t = { s with now := n, pointer := c, running := a, queue := q, engine := e, ports := p, rows := r, wornRows := w,
                      copyMap := i, array := u, committedFreeze := f, sweep := x }) : EngineLeaves s t := by
  subst h
  exact ⟨⟨rfl, rfl, rfl, rfl⟩, ⟨rfl, rfl, rfl⟩, ⟨rfl, rfl, rfl, rfl⟩, ⟨rfl, rfl, rfl, rfl⟩, rfl, rfl⟩

/-- The part as a STORE grant begins (R15). -/
def beginStore (s : State) : State := (s.setPointer .store).tick .later

theorem exec_storeGrant {s : State} {k : ItemNo} {m : Marks} (hnext : nextClass s = some .store) (he : s.engine = .claiming k m) :
    exec .storeGrant s = .next (storeWork k m (beginStore s)) := by
  change execStoreGrant s = _
  unfold execStoreGrant
  rw [if_pos hnext, he]
  rfl

/-- What a STORE grant leaves, whichever way its commit goes. -/
structure StoreGranted (s t : State) : Prop where
  leaves : EngineLeaves s t
  pointer : t.pointer = .store
  running : t.running = s.running
  copyMap : t.copyMap = s.copyMap
  worn : t.wornRows = s.wornRows
  committed : t.committedFreeze = s.committedFreeze

theorem StoreGranted.of_frame {s t : State} {q e p r u x}
    (h : t = { beginStore s with queue := q, engine := e, ports := p, rows := r, array := u, sweep := x }) : StoreGranted s t := by
  subst h
  exact ⟨.of_frame rfl, rfl, rfl, rfl, rfl, rfl⟩

/-- A program whose commit has begun waits for the array, or begins at once where the array is free (R125, R135). -/
theorem startProgram_frame (x : Program) (s : State) :
    ∃ a r, startProgram x s = { s with engine := .programming x, array := a, rows := r } := by
  unfold startProgram
  by_cases h : s.array = .free
  · exact ⟨_, _, serveArray_program h rfl⟩
  · exact ⟨s.array, s.rows, serveArray_busy h⟩

theorem startProgram_free {s : State} (x : Program) (h : s.array = .free) : ProgramBegun s (startProgram x s) x := by
  unfold startProgram
  rw [serveArray_program (s := s.setEngine (.programming x)) h rfl]
  exact ⟨rfl, fun r => State.setRow_at ..⟩

theorem startProgram_busy {s : State} (x : Program) (h : s.array ≠ .free) :
    (startProgram x s).array = s.array ∧ (startProgram x s).rows = s.rows := by
  unfold startProgram
  rw [serveArray_busy (s := s.setEngine (.programming x)) h]
  exact ⟨rfl, rfl⟩

theorem nextGeneration_eq (g : Option Byte) : nextGeneration g = (g.map (· + 1)).getD 1 := by cases g <;> rfl

/-- Settles O47: the three ways of a STORE grant are the cancelled commit, the dropped one and the one whose program begins. -/
theorem storeGrantBeginsTheCommit : Obligations.StoreGrantBeginsTheCommit := by
  intro s k m hs hnext he
  obtain ⟨hd, _, hrunning⟩ := nextClass_eq_some_service hnext
  have hsnap : snapshot (beginStore s) k = contentAt s k := contentAt_eq _ _
  have hexec := exec_storeGrant hnext he
  unfold storeWork at hexec
  rw [hsnap] at hexec
  cases hc : contentAt s k with
  | none =>
    simp only [hc] at hexec
    obtain ⟨v, q, e, hframe⟩ := afterCommit_frame ((beginStore s).setEngine .idle)
    have hg : StoreGranted s (afterCommit ((beginStore s).setEngine .idle)) := .of_frame hframe
    refine ⟨_, hexec, hg.leaves, hg.pointer, hg.running.trans hrunning, hg.copyMap, hg.worn, hg.committed, by rw [hframe]; rfl,
      fun _ => ⟨by rw [hframe]; rfl, by rw [hframe]; rfl, commitEnded_afterCommit rfl hd, fun p => afterCommit_port rfl p⟩,
      by simp, by simp⟩
  | some content =>
    simp only [hc] at hexec
    cases htarget : chooseTarget (s.item k) with
    | none =>
      have hno : chooseTarget ((beginStore s).item k) = none := htarget
      simp only [hno] at hexec
      obtain ⟨v, q, e, hframe⟩ := afterDrop_frame m (beginStore s)
      have hg : StoreGranted s (afterCommit (dropCommit m (beginStore s))) := .of_frame hframe
      refine ⟨_, hexec, hg.leaves, hg.pointer, hg.running.trans hrunning, hg.copyMap, hg.worn, hg.committed, by rw [hframe]; rfl,
        by simp, fun _ _ _ => ⟨by rw [hframe]; rfl, by rw [hframe]; rfl, commitEnded_afterDrop m hd, fun p => ?_⟩, ?_⟩
      · exact afterCommit_dropCommit_port (s := beginStore s) (hs.sync p).slot.mpr m
      · intro _ c _ ht
        cases htarget.symm.trans (chooseTarget_eq ht)
    | some target =>
      have hsome : chooseTarget ((beginStore s).item k) = some target := htarget
      simp only [hsome] at hexec
      have hgen : nextGeneration ((beginStore s).item k).generation = ((s.item k).generation.map (· + 1)).getD 1 :=
        nextGeneration_eq _
      rw [hgen] at hexec
      obtain ⟨a, r, hframe⟩ := startProgram_frame
        ⟨k, m, encodeImage k (((s.item k).generation.map (· + 1)).getD 1) content, target,
          ((s.item k).generation.map (· + 1)).getD 1⟩ (beginStore s)
      have hg := StoreGranted.of_frame hframe
      refine ⟨_, hexec, hg.leaves, hg.pointer, hg.running.trans hrunning, hg.copyMap, hg.worn, hg.committed, by rw [hframe]; rfl,
        by simp, fun _ h0 h1 => ?_, fun content' c hcontent ht => ?_⟩
      · cases htarget.symm.trans (chooseTarget_eq_none h0 h1)
      · cases hcontent
        cases htarget.symm.trans (chooseTarget_eq ht)
        exact ⟨by rw [hframe], by rw [hframe]; rfl, by rw [hframe]; rfl, startProgram_free (s := beginStore s) _,
          startProgram_busy (s := beginStore s) _⟩

/-! ### PROGRAM_VERIFY -/

theorem ArrayTurnsTo.congr {o : Option Program} {w : Sweep} {rows rows' : RowNo → Row} {s t : State}
    (h : ArrayTurnsTo o w rows s) (hrows : rows' = rows) (harray : t.array = s.array) (hrow : t.rows = s.rows)
    (hsweep : t.sweep = s.sweep) : ArrayTurnsTo o w rows' t := by
  subst hrows
  unfold ArrayTurnsTo State.row at h ⊢
  rw [harray, hrow, hsweep]
  exact h

/-- A commit of a part `u` has ended, and the array is released (R122, R132, R135). -/
structure CommitReleased (u t : State) : Prop where
  frame : ∃ p q e a r w, t = { u with ports := p, queue := q, engine := e, array := a, rows := r, sweep := w }
  turns : ArrayTurnsTo none u.sweep u.row t
  ended : CommitEnded t u.queue
  port : ∀ p, t.port p = syncedPort (u.port p) (unmarked u.queue p) (u.port p).sync.dropped

theorem released_afterCommit {u : State} (he : u.engine = .idle) (hd : u.device = .running) :
    CommitReleased u (afterCommit (releaseArray u)) := by
  have hturns : ArrayTurnsTo (programOf (u.setArray .free).engine) u.sweep u.row (releaseArray u) :=
    serveArray_turns (s := u.setArray .free) rfl
  rw [State.setArray_engine, he] at hturns
  obtain ⟨a, r, w, hrelease⟩ := serveArray_frame (u.setArray .free)
  replace hrelease : releaseArray u = { u with array := a, rows := r, sweep := w } := hrelease
  generalize releaseArray u = v at hturns hrelease
  have hve : v.engine = .idle := by rw [hrelease]; exact he
  have hvd : v.device = .running := by rw [hrelease]; exact hd
  have hvq : v.queue = u.queue := by rw [hrelease]
  obtain ⟨p, q, e, hafter⟩ := afterCommit_frame v
  refine ⟨⟨p, q, e, a, r, w, hafter.trans (by rw [hrelease])⟩, hturns.congr rfl (by rw [hafter]) (by rw [hafter]) (by rw [hafter]),
    hvq ▸ commitEnded_afterCommit hve hvd, fun p => ?_⟩
  have hvp : v.port p = u.port p := by rw [hrelease]; rfl
  rw [afterCommit_port hve, hvp, hvq]

/-- The commit that is dropped and its array released: a port that waits for it counts it (R131). -/
theorem CommitReleased.dropped_port {b t : State} {m : Marks} (h : CommitReleased (dropCommit m b) t) {p : Port}
    (hp : (b.port p).sync.waiting = true → ∃ tag, (b.port p).slot = .waiting tag) :
    t.port p = syncedPort (b.port p) (unmarked b.queue p) (droppedAfter b p m) := by
  obtain ⟨v, hv⟩ := dropCommit_frame m b
  have hq : (dropCommit m b).queue = b.queue := by rw [hv]
  rw [h.port, dropCommit_port, hq]
  exact syncedPort_dropped hp m _

/-- The verify passes, in the words of the statement (R116, R117). -/
theorem verifyPasses_eq_and (s : State) (x : Program) (r : VerifyRead) :
    verifyPasses s x r = (decide (r = .asWritten ∨ r = .reads (.clean x.image)) && !s.worn (programRow x)) := by
  cases hw : s.worn (programRow x) with
  | true => rw [verifyPasses_worn r hw]; simp
  | false => rw [verifyPasses_eq r hw]; simp

theorem otherCopy_eq : ∀ c : Copy, otherCopy c = 1 - c := by decide

theorem failed_eq (e : ItemEntry) (c : Copy) (v : CopyState) : e.failed c v = failedEntry e c v := by
  unfold ItemEntry.failed failedEntry newestAfterFailure newestAfter
  simp only [otherCopy_eq]

theorem commitFreeze_frame (x : Program) (s : State) : ∃ f, commitFreeze x s = { s with committedFreeze := f } := by
  unfold commitFreeze
  split
  · exact ⟨_, rfl⟩
  · exact ⟨s.committedFreeze, rfl⟩

theorem commitFreeze_committed (x : Program) (s : State) : (commitFreeze x s).committedFreeze =
    match decodeImage x.item x.image with
    | some (.freeze l) => some l
    | _ => s.committedFreeze := by
  unfold commitFreeze
  cases decodeImage x.item x.image with
  | none => rfl
  | some c => cases c <;> rfl

theorem requeue_eq (k : ItemNo) (m : Marks) (s : State) : requeue k m s = s.setQueue (requeued s.queue k m) := by
  have hany : (s.queue.any fun e => decide (e.item = k)) = decide (k ∈ s.queue.map QueueEntry.item) := by
    rw [Bool.eq_iff_iff]
    simp
  unfold requeue requeued
  rw [hany]
  by_cases h : k ∈ s.queue.map QueueEntry.item
  · rw [if_pos (by simpa using h), if_pos h]
    rfl
  · rw [if_neg (by simpa using h), if_neg h]

theorem syncedPort_faults (q : PortState) (f : FlagSet) (gone : Bool) (d : Nat) :
    syncedPort { q with faults := f } gone d = { syncedPort q gone d with faults := f } := by
  by_cases h : ∃ tag, q.slot = .waiting tag
  · obtain ⟨tag, hslot⟩ := h
    simp only [syncedPort, hslot]
    split <;> rfl
  · have hno : ∀ tag, q.slot ≠ .waiting tag := fun tag ht => h ⟨tag, ht⟩
    rw [syncedPort_not_waiting hno, syncedPort_not_waiting (q := { q with faults := f }) hno]

theorem bothWorn_failedEntry (e : ItemEntry) (c : Copy) :
    (failedEntry e c .worn).bothWorn = true ↔ e.copies[1 - c] = .worn := by
  rw [bothWorn_iff]
  unfold failedEntry
  have hc : c = 0 ∨ c = 1 := by revert c; decide
  rcases hc with rfl | rfl <;> simp [Fin.forall_fin_two]

theorem exec_programVerify {s : State} {x : Program} (r : VerifyRead) (ha : s.array = .program) (hx : programOf s.engine = some x) :
    exec (.programVerify r) s = .next (if verifyPasses s x r then commitSucceeds x s
      else if s.engine.isRetrying then commitFails x s else retryProgram x s) := by
  change execProgramVerify r s = _
  unfold execProgramVerify
  rw [if_pos ha]
  cases he : s.engine with
  | idle | claiming _ _ => rw [he] at hx; cases hx
  | programming y =>
    rw [he] at hx
    cases hx
    rfl
  | retrying y =>
    rw [he] at hx
    cases hx
    rfl

/-- The part as a commit that succeeds ends (R126). -/
def succeeded (x : Program) (s : State) : State :=
  (commitFreeze x ((s.setRow (programRow x) (.clean x.image)).setItem x.item
    ((s.item x.item).committed x.target x.generation))).setEngine .idle

theorem commitSucceeds_eq (x : Program) (s : State) : commitSucceeds x s = afterCommit (releaseArray (succeeded x s)) := rfl

theorem succeeded_frame (x : Program) (s : State) : ∃ f, succeeded x s =
    { (s.setRow (programRow x) (.clean x.image)).setItem x.item ((s.item x.item).committed x.target x.generation) with
      committedFreeze := f, engine := .idle } := by
  obtain ⟨f, hf⟩ := commitFreeze_frame x
    ((s.setRow (programRow x) (.clean x.image)).setItem x.item ((s.item x.item).committed x.target x.generation))
  exact ⟨f, congrArg (State.setEngine · .idle) hf⟩

/-- The part with the failure of both attempts of a commit in its row, its copy map and its fault copies (R127, R128). -/
def wornOut (x : Program) (s : State) : State :=
  raiseBoth .storeWriteFault (((s.setRow (programRow x) .uncorrectable).setWorn (programRow x) true).setItem x.item
    ((s.item x.item).failed x.target .worn))

/-- The part as a commit that fails ends (R128). -/
def failedTwice (x : Program) (s : State) : State :=
  if ((wornOut x s).item x.item).bothWorn then
    dropCommit x.marks (if storeExhaustedHolds s then wornOut x s else raiseBoth .storeExhausted (wornOut x s))
  else (requeue x.item x.marks (wornOut x s)).setEngine .idle

theorem commitFails_eq (x : Program) (s : State) : commitFails x s = afterCommit (releaseArray (failedTwice x s)) := rfl

theorem failedTwice_frame (x : Program) (s : State) :
    ∃ p q, failedTwice x s = { wornOut x s with ports := p, queue := q, engine := .idle } := by
  unfold failedTwice
  split
  · split
    · obtain ⟨p, hp⟩ := dropCommit_frame x.marks (wornOut x s)
      exact ⟨p, _, hp⟩
    · obtain ⟨p, hp⟩ := dropCommit_frame x.marks (raiseBoth .storeExhausted (wornOut x s))
      exact ⟨p, _, hp⟩
  · rw [requeue_eq]
    exact ⟨_, _, rfl⟩

theorem raiseBoth_frame (f : Flag) (s : State) : ∃ v, raiseBoth f s = { s with ports := v } := ⟨_, rfl⟩

/-- STORE_EXHAUSTED is raised where its condition becomes true (R128). -/
def raiseExhausted (s : State) : State → State := fun u => if storeExhaustedHolds s then u else raiseBoth .storeExhausted u

theorem raiseExhausted_frame (s u : State) : ∃ v, raiseExhausted s u = { u with ports := v } := by
  unfold raiseExhausted
  split
  · exact ⟨u.ports, rfl⟩
  · exact raiseBoth_frame ..

theorem raiseExhausted_port (s u : State) (p : Port) : (raiseExhausted s u).port p = { u.port p with
    faults := (u.port p).faults |||
      if ∃ j, ∀ c : Copy, (s.item j).copies[c] = .worn then 0 else Flag.storeExhausted.mask } := by
  unfold raiseExhausted
  by_cases h : storeExhaustedHolds s = true
  · have h0 : (u.port p).faults ||| (0 : FlagSet) = (u.port p).faults := BitVec.or_zero
    rw [if_pos h, if_pos ((storeExhaustedHolds_iff s).mp h), h0]
  · rw [if_neg h, if_neg (mt (storeExhaustedHolds_iff s).mpr h)]
    exact raised_raiseBoth _ _ p

theorem wornOut_frame (x : Program) (s : State) :
    ∃ r w c p, wornOut x s = { s with rows := r, wornRows := w, copyMap := c, ports := p } := by
  obtain ⟨p, hp⟩ := raiseBoth_frame .storeWriteFault (((s.setRow (programRow x) .uncorrectable).setWorn (programRow x) true).setItem
    x.item ((s.item x.item).failed x.target .worn))
  exact ⟨_, _, _, p, hp⟩

theorem wornOut_item (x : Program) (s : State) (j : ItemNo) :
    (wornOut x s).item j = if j = x.item then failedEntry (s.item x.item) x.target .worn else s.item j := by
  rw [← failed_eq]
  exact State.setItem_at ..

theorem wornOut_worn (x : Program) (s : State) (y : RowNo) : (wornOut x s).worn y = (s.worn y || decide (y = programRow x)) := by
  have h : (wornOut x s).worn y = if y = programRow x then true else s.worn y := State.setWorn_at ..
  rw [h]
  split <;> simp_all

theorem wornOut_row (x : Program) (s : State) (y : RowNo) :
    (wornOut x s).row y = if y = programRow x then .uncorrectable else s.row y := by
  have h : (wornOut x s).rows = (s.setRow (programRow x) .uncorrectable).rows := rfl
  rw [← State.setRow_at]
  simp only [State.row, h]

theorem wornOut_port (x : Program) (s : State) (p : Port) :
    (wornOut x s).port p = { s.port p with faults := (s.port p).faults ||| Flag.storeWriteFault.mask } :=
  raised_raiseBoth _ _ p

theorem bothWorn_wornOut (x : Program) (s : State) :
    ((wornOut x s).item x.item).bothWorn = true ↔ (s.item x.item).copies[1 - x.target] = .worn := by
  have hitem : (wornOut x s).item x.item = failedEntry (s.item x.item) x.target .worn := by
    rw [wornOut_item]
    exact if_pos rfl
  rw [hitem, bothWorn_failedEntry]

/-- With another copy left the item goes back to the queue (R128). -/
theorem failedTwice_requeued {s : State} {x : Program} (h : (s.item x.item).copies[1 - x.target] ≠ .worn) :
    failedTwice x s = ((wornOut x s).setQueue (requeued s.queue x.item x.marks)).setEngine .idle := by
  have hw := mt (bothWorn_wornOut x s).mp h
  obtain ⟨_, _, _, _, hframe⟩ := wornOut_frame x s
  have hq : (wornOut x s).queue = s.queue := by rw [hframe]
  have hf : failedTwice x s = (requeue x.item x.marks (wornOut x s)).setEngine .idle := if_neg hw
  rw [hf, requeue_eq, hq]

/-- With no copy left the commit is dropped, and counted by the ports that wait for it (R128, R131). -/
theorem failedTwice_dropped {s : State} {x : Program} (h : (s.item x.item).copies[1 - x.target] = .worn) :
    failedTwice x s = dropCommit x.marks (raiseExhausted s (wornOut x s)) :=
  if_pos ((bothWorn_wornOut x s).mpr h)

/-- Settles O48: a verify ends in success, in the first failure of its commit, or in the second. -/
theorem verifyEndsTheProgram : Obligations.VerifyEndsTheProgram := by
  intro s r x hs ha hx passes e
  have hd : s.device = .running := by
    cases hd : s.device with
    | running => rfl
    | starting => cases ha.symm.trans (hs.store.starting hd).2
  have hexec := exec_programVerify r ha hx
  have hpasses : verifyPasses s x r = passes := verifyPasses_eq_and s x r
  rw [hpasses] at hexec
  clear_value passes
  cases passes with
  | true =>
    rw [if_pos rfl, commitSucceeds_eq] at hexec
    obtain ⟨f, hf⟩ := succeeded_frame x s
    have hfreeze : (succeeded x s).committedFreeze = _ := commitFreeze_committed x _
    have hr := released_afterCommit (u := succeeded x s) (by rw [hf]) (by rw [hf]; exact hd)
    have hu : (succeeded x s).queue = s.queue ∧ (succeeded x s).sweep = s.sweep ∧ (succeeded x s).ports = s.ports := by
      rw [hf]; exact ⟨rfl, rfl, rfl⟩
    have hrow : ∀ y, (succeeded x s).row y = if y = programRow x then .clean x.image else s.row y := fun y => by
      rw [hf]; exact State.setRow_at ..
    generalize afterCommit (releaseArray (succeeded x s)) = t at hexec hr
    obtain ⟨p, q, e', a, w, w', hframe⟩ := hr.frame
    have hcommitted : t.committedFreeze = (succeeded x s).committedFreeze := by rw [hframe]
    rw [hf] at hframe
    refine ⟨t, hexec, .of_frame hframe, ⟨by rw [hframe]; rfl, by rw [hframe]; rfl⟩, fun y => ?_, fun _ => ⟨?_, fun j => ?_, ?_, ?_,
      fun p => ?_⟩, by simp, by simp⟩
    · rw [hframe]; simp [State.worn]
    · rw [← hu.2.1]
      exact hr.turns.congr (funext fun y => (hrow y).symm) rfl rfl rfl
    · rw [hframe]; exact State.setItem_at ..
    · exact hcommitted.trans hfreeze
    · rw [← hu.1]; exact hr.ended
    · have := hr.port p
      simpa only [State.port, hu.2.2, hu.1] using this
  | false =>
    rw [if_neg Bool.false_ne_true] at hexec
    cases he : s.engine with
    | idle | claiming _ _ => rw [he] at hx; cases hx
    | programming y =>
      rw [he] at hx hexec
      cases hx
      replace hexec : exec (.programVerify r) s = .next (retryProgram x s) := hexec
      have hr := raised_raiseBoth .storeWriteFault (s.setItem x.item ((s.item x.item).failed x.target .bad))
      obtain ⟨p, hp⟩ := raiseBoth_frame .storeWriteFault (s.setItem x.item ((s.item x.item).failed x.target .bad))
      have ht : retryProgram x s = { s.setItem x.item ((s.item x.item).failed x.target .bad) with ports := p, engine := .retrying x } :=
        congrArg (State.setEngine · (.retrying x)) hp
      refine ⟨_, hexec, .of_frame ht, ⟨by rw [ht]; rfl, by rw [ht]; rfl⟩, fun y => by rw [ht]; simp [State.worn, Engine.isRetrying],
        by simp, fun _ _ => ⟨by rw [ht], by rw [ht]; rfl, by rw [ht]; exact ha, by rw [ht]; rfl, by rw [ht]; rfl, by rw [ht]; rfl,
          fun j => ?_, hr⟩, by simp⟩
      rw [ht, ← failed_eq]
      exact State.setItem_at ..
    | retrying y =>
      rw [he] at hx hexec
      cases hx
      replace hexec : exec (.programVerify r) s = .next (commitFails x s) := hexec
      rw [commitFails_eq] at hexec
      obtain ⟨r', w', c', v', hwframe⟩ := wornOut_frame x s
      obtain ⟨p', q', hf⟩ := failedTwice_frame x s
      have hitem := wornOut_item x s
      have hworn := wornOut_worn x s
      have hrow := wornOut_row x s
      have hport := wornOut_port x s
      have hrequeued := failedTwice_requeued (s := s) (x := x)
      have hdropped := failedTwice_dropped (s := s) (x := x)
      generalize wornOut x s = w at *
      generalize failedTwice x s = u at *
      have hr := released_afterCommit (u := u) (by rw [hf]) (by rw [hf, hwframe]; exact hd)
      generalize afterCommit (releaseArray u) = t at *
      obtain ⟨p, q, e', a, rr, ww, hframe⟩ := hr.frame
      have hkeep : t.copyMap = w.copyMap ∧ t.wornRows = w.wornRows ∧ t.committedFreeze = w.committedFreeze := by
        rw [hframe, hf]; exact ⟨rfl, rfl, rfl⟩
      have hsweep : u.sweep = s.sweep := by rw [hf, hwframe]
      have hurow : u.row = w.row := by rw [hf]; rfl
      have hout : t = { s with
          queue := q, engine := e', ports := p, rows := rr, wornRows := w', copyMap := c', array := a, sweep := ww } := by
        rw [hframe, hf, hwframe]
      refine ⟨t, hexec, .of_frame hout, ⟨by rw [hout], by rw [hout]⟩, fun y => ?_, by simp, by simp, fun _ _ =>
        ⟨?_, fun j => ?_, by rw [hout], fun hother => ⟨?_, fun p => ?_⟩, fun hother => ⟨?_, fun p => ?_⟩⟩⟩
      · simpa [State.worn, hkeep.2.1, Engine.isRetrying] using hworn y
      · rw [← hsweep]
        exact hr.turns.congr (funext fun y => by rw [hurow, hrow]) rfl rfl rfl
      · have hj : t.item j = w.item j := by simp only [State.item, hkeep.1]
        rw [hj, hitem j]
      · have hq := hr.ended
        rw [hrequeued hother] at hq
        exact hq
      · have hq := hr.port p
        rw [hrequeued hother] at hq
        refine hq.trans ?_
        change syncedPort (w.port p) _ (w.port p).sync.dropped = _
        rw [hport, syncedPort_faults]
        rfl
      · obtain ⟨v, hv⟩ := raiseExhausted_frame s w
        obtain ⟨v', hv'⟩ := dropCommit_frame x.marks (raiseExhausted s w)
        have hq := hr.ended
        rw [hdropped hother, hv', hv, hwframe] at hq
        exact hq
      · rw [hdropped hother] at hr
        obtain ⟨v, hv⟩ := raiseExhausted_frame s w
        have hq : (raiseExhausted s w).queue = s.queue := by rw [hv, hwframe]
        have hb := raiseExhausted_port s w p
        rw [hport] at hb
        have hd : droppedAfter (raiseExhausted s w) p x.marks = droppedAfter s p x.marks := by
          simp only [droppedAfter, hb]
        rw [hr.dropped_port (by rw [hb]; exact (hs.sync p).slot.mpr), hd, hq, hb, syncedPort_faults, syncedPort_faults]

/-! ### SWEEP_READ -/

/-- A finding, in the words of the statement (R154). -/
def SweepFinding.fault : SweepFinding → Option (Bool × Option Byte)
  | .accepted => none
  | .correctable g => some (false, g)
  | .uncorrectable g => some (true, g)

theorem sweepFault_eq (k : ItemNo) (c : CopyState) (r : Row) : sweepFault k c r = (sweepFinding k c r).fault := by
  unfold sweepFault sweepFinding
  cases r with
  | blank => dsimp only; split <;> rfl
  | clean image => dsimp only; split <;> rfl
  | corrected _ | uncorrectable => rfl

theorem isFault_eq (f : SweepFinding) : f.isFault = f.fault.isSome := by cases f <;> rfl

theorem passNumber_eq (passes : Half) : passNumber passes = faultPass passes := by
  unfold passNumber faultPass
  by_cases h : passes = 65535
  · subst h; rfl
  · have hlt : passes.toNat < 65535 := by
      have := passes.isLt
      have hne : passes.toNat ≠ 65535 := fun he => h (BitVec.eq_of_toNat_eq he)
      omega
    rw [if_neg h, if_pos hlt]

theorem followingRow_eq (r : RowNo) : followingRow r = if r.val = 205 then 0 else r + 1 := by
  unfold followingRow
  split
  · next h =>
    have hr : r = 205 := Fin.ext h
    subst hr
    rfl
  · rfl

/-- The sweep's record with a finding counted and recorded (R154). -/
def countedSweep (r : RowNo) (f : SweepFinding) (w : Sweep) : Sweep :=
  match f with
  | .accepted => w
  | .correctable g => { recordFault r false g w with corrected := addSaturating (recordFault r false g w).corrected 1 }
  | .uncorrectable g => { recordFault r true g w with uncorrectable := addSaturating (recordFault r true g w).uncorrectable 1 }

/-- The sweep's record as the judgement of a row leaves it: a sweep that still runs asks for its next read (R153). -/
def judgedSweep (r : RowNo) (f : SweepFinding) (w : Sweep) : Sweep :=
  let x := afterRow r f.isFault (countedSweep r f w)
  if x.state = .running then { x with asked := true } else x

/-- The first fault once a row has been judged (R154). -/
def firstAfter (w : Sweep) (r : RowNo) (f : SweepFinding) : Option FirstFault :=
  match w.first with
  | some x => some x
  | none => f.fault.map fun x => ⟨r, x.1, x.2, faultPass w.passes⟩

theorem countedSweep_eq (r : RowNo) (f : SweepFinding) (w : Sweep) : countedSweep r f w =
    { w with
      first := firstAfter w r f
      corrected := if f.fault.map Prod.fst = some false then addSaturating w.corrected 1 else w.corrected
      uncorrectable := if f.fault.map Prod.fst = some true then addSaturating w.uncorrectable 1 else w.uncorrectable } := by
  rcases w with ⟨_, _, _, _, _, _, _, _, _, first, _⟩
  cases f <;> cases first <;> simp [countedSweep, recordFault, firstAfter, SweepFinding.fault, passNumber_eq]

/-- The record of a swept row, with its first fault named. -/
theorem sweptRow_eq (w : Sweep) (r : RowNo) (f : SweepFinding) :
    let ends := decide (w.rowsRead + 1 = 206)
    let stops := f.fault.isSome && w.stopOnFault
    let first := firstAfter w r f
    sweptRow w r f.fault =
      { w with
        first := first
        corrected := if f.fault.map Prod.fst = some false then addSaturating w.corrected 1 else w.corrected
        uncorrectable := if f.fault.map Prod.fst = some true then addSaturating w.uncorrectable 1 else w.uncorrectable
        nextRow := followingRow r
        rowsRead := if ends && !stops && first.isNone && w.loop then 0 else w.rowsRead + 1
        passes := if ends && !stops then addSaturating w.passes 1 else w.passes
        state :=
          if stops then .failed
          else if ends then (if first.isSome then .failed else if w.loop then .running else .passed)
          else .running
        asked := if stops || (ends && (first.isSome || !w.loop)) then w.asked else true } := by
  rw [followingRow_eq]
  rcases w with ⟨_, _, _, _, _, _, _, _, _, first, _⟩
  cases first <;> cases f <;> rfl

theorem judgedSweep_eq {w : Sweep} (r : RowNo) (f : SweepFinding) (hrun : w.state = .running) (hcount : w.rowsRead < 206) :
    judgedSweep r f w = sweptRow w r f.fault := by
  have hends : (w.rowsRead + 1 < 206) ↔ ¬(w.rowsRead + 1 = 206) := by omega
  rw [sweptRow_eq]
  unfold judgedSweep afterRow
  rw [countedSweep_eq, isFault_eq]
  simp only [hends, hrun]
  cases hs : (f.fault.isSome && w.stopOnFault)
  · by_cases he : w.rowsRead + 1 = 206
    · cases firstAfter w r f <;> cases w.loop <;> simp [he]
    · simp [he]
  · simp

/-- The flag that a finding raises (R154). -/
def SweepFinding.mask : SweepFinding → FlagSet
  | .accepted => 0
  | .correctable _ => Flag.storeCorrected.mask
  | .uncorrectable _ => Flag.storeUncorrectable.mask

/-- A finding makes the copy BAD and asks for a repair (R136, R154). -/
def SweepFinding.repairs (f : SweepFinding) (c : CopyState) : Bool := f.isFault && decide (c ≠ .worn)

/-- A finding in row `r` has taken effect (R154). -/
structure Found (r : RowNo) (f : SweepFinding) (w : Sweep) (s v : State) : Prop where
  frame : ∃ p c q, v = { s with sweep := w, ports := p, copyMap := c, queue := q }
  raised : Raised s v f.mask
  item : ∀ j, v.item j =
    if j = itemOfRow r ∧ f.repairs (s.item (itemOfRow r)).copies[copyOfRow r] = true then
      (s.item (itemOfRow r)).mark (copyOfRow r) .bad
    else s.item j
  queue : v.queue =
    (enqueueAll (if f.repairs (s.item (itemOfRow r)).copies[copyOfRow r] = true then [itemOfRow r] else []) s).queue

/-- A fault is marked in the copy map, and its item enqueued, where its copy is not WORN (R136, R154). -/
theorem found_fault {r : RowNo} {f : SweepFinding} {w : Sweep} {s : State} {x : Flag} (hf : f.isFault = true) (hx : f.mask = x.mask) :
    Found r f w s (markFaulty r (raiseBoth x (s.setSweep w))) := by
  have hr := raised_raiseBoth x (s.setSweep w)
  obtain ⟨p, hp⟩ := raiseBoth_frame x (s.setSweep w)
  generalize raiseBoth x (s.setSweep w) = u at hr hp
  have hitem : ∀ j, u.item j = s.item j := fun j => by rw [hp]; rfl
  have hqueue : u.queue = s.queue := by rw [hp]; rfl
  unfold markFaulty
  dsimp only
  rw [hitem]
  by_cases hw : (s.item (itemOfRow r)).copies[copyOfRow r] = .worn
  · have hno : f.repairs (s.item (itemOfRow r)).copies[copyOfRow r] = false := by rw [SweepFinding.repairs, hw]; simp
    rw [if_pos hw]
    refine ⟨⟨_, s.copyMap, s.queue, hp⟩, by rw [hx]; exact hr, fun j => ?_, ?_⟩
    · rw [hno, hitem]; simp
    · rw [hno, hqueue]; rfl
  · have hyes : f.repairs (s.item (itemOfRow r)).copies[copyOfRow r] = true := by
      rw [SweepFinding.repairs, hf, decide_eq_true hw]; rfl
    rw [if_neg hw, enqueue_eq]
    refine ⟨⟨p, _, _, by rw [hp]; rfl⟩, by rw [hx]; exact hr, fun j => ?_, ?_⟩
    · rw [hyes]
      simp only [and_true]
      rw [← hitem j]
      exact State.setItem_at ..
    · rw [hyes]
      have hall : enqueueAll [itemOfRow r] s = enqueue (itemOfRow r) s := rfl
      rw [if_pos rfl, hall, enqueue_eq, ← hqueue]
      rfl

theorem found_applyFinding (r : RowNo) (f : SweepFinding) (s : State) : Found r f (countedSweep r f s.sweep) s (applyFinding r f s) := by
  cases f with
  | accepted =>
    exact ⟨⟨s.ports, s.copyMap, s.queue, rfl⟩, Raised.refl s, fun j => by simp [SweepFinding.repairs, SweepFinding.isFault, applyFinding],
      rfl⟩
  | correctable g => exact found_fault rfl rfl
  | uncorrectable g => exact found_fault rfl rfl

theorem askNext_setSweep (s : State) (w : Sweep) :
    askNext (s.setSweep w) = s.setSweep (if w.state = .running then { w with asked := true } else w) := by
  unfold askNext
  rw [State.setSweep_sweep]
  by_cases h : w.state = .running
  · rw [if_pos h, if_pos h]
    rfl
  · rw [if_neg h, if_neg h]

/-- The completed read of a sweep has been judged. -/
theorem judgeRead_found (r : RowNo) (s : State) :
    Found r (sweepFinding (itemOfRow r) (s.item (itemOfRow r)).copies[copyOfRow r] (s.row r))
      (judgedSweep r (sweepFinding (itemOfRow r) (s.item (itemOfRow r)).copies[copyOfRow r] (s.row r)) s.sweep) s (judgeRead r s) := by
  unfold judgeRead judgedSweep
  dsimp only
  generalize sweepFinding (itemOfRow r) (s.item (itemOfRow r)).copies[copyOfRow r] (s.row r) = f
  obtain ⟨⟨p, c, q, hframe⟩, hraised, hitem, hqueue⟩ := found_applyFinding r f s
  have hsweep : (applyFinding r f s).sweep = countedSweep r f s.sweep := by rw [hframe]
  have hask : askNext ((applyFinding r f s).setSweep (afterRow r f.isFault (applyFinding r f s).sweep)) =
      (applyFinding r f s).setSweep (if (afterRow r f.isFault (countedSweep r f s.sweep)).state = .running then
        { afterRow r f.isFault (countedSweep r f s.sweep) with asked := true }
      else afterRow r f.isFault (countedSweep r f s.sweep)) := by
    rw [hsweep, askNext_setSweep]
  rw [hask]
  exact ⟨⟨p, c, q, by rw [hframe]; rfl⟩, hraised, hitem, hqueue⟩

/-- The part with the row that the sweep read, decayed, and its array free. -/
def readDone (r : RowNo) (d : Decay) (s : State) : State := (s.setRow r (decayedRow (s.row r) d)).setArray .free

theorem exec_sweepRead {s : State} {r : RowNo} {judged : Bool} (d : Decay) (h : s.array = .sweepRead r judged) :
    exec (.sweepRead d) s =
      .next (takeHead (serveArray (if judged then judgeRead r (readDone r d s) else readDone r d s))) := by
  change execSweepRead d s = _
  unfold execSweepRead
  rw [h]
  rfl

/-- A free array is served, and the engine takes the head of a queue that it waits for (R122, R135). -/
theorem served {v : State} (h : v.array = .free) :
    ArrayTurnsTo (programOf v.engine) v.sweep v.row (takeHead (serveArray v)) ∧
      (∃ q e a r w, takeHead (serveArray v) = { v with queue := q, engine := e, array := a, rows := r, sweep := w }) ∧
      Enqueued [] v (takeHead (serveArray v)) := by
  have hturns := serveArray_turns h
  obtain ⟨a, r, w, hserve⟩ := serveArray_frame v
  obtain ⟨q, e, htake⟩ := takeHead_frame (serveArray v)
  have hcongr := takeHead_congr (s := v) (t := serveArray v) (by rw [hserve]) (by rw [hserve]) (by rw [hserve])
  refine ⟨hturns.congr rfl ?_ ?_ ?_, ⟨q, e, a, r, w, ?_⟩, ⟨hcongr.1, hcongr.2⟩⟩ <;> rw [htake]
  · rfl
  · rfl
  · rfl
  · rw [hserve]; rfl

theorem enqueueAll_nil (s : State) : enqueueAll [] s = s := rfl

/-- Settles O49: the array is served once the row has been judged, or at once where its sweep was stopped. -/
theorem sweepReadJudgesTheRow : Obligations.SweepReadJudgesTheRow := by
  intro s d r judged hs ha row rows k e fault
  have hd : s.device = .running := by
    cases hd : s.device with
    | running => rfl
    | starting => cases ha.symm.trans (hs.store.starting hd).2
  have hexec := exec_sweepRead d ha
  have hrows : (readDone r d s).row = rows := funext fun y => State.setRow_at s r row y
  have hrow : (readDone r d s).row r = row := by rw [hrows]; exact if_pos rfl
  cases judged with
  | false =>
    obtain ⟨hturns, ⟨q, e', a, w, x, hframe⟩, henq⟩ := served (v := readDone r d s) rfl
    refine ⟨_, hexec, .of_frame hframe, ⟨?_, ?_⟩, ?_, ?_, fun _ => ⟨hturns.congr hrows.symm rfl rfl rfl, ?_, ?_,
      henq.congr (s := readDone r d s) rfl ⟨rfl, rfl⟩⟩, by simp⟩
    all_goals rw [if_neg Bool.false_ne_true, hframe]; rfl
  | true =>
    have hrun : s.sweep.state = .running := hs.sweep.running.mpr (.inr ⟨r, ha⟩)
    have hfound := judgeRead_found r (readDone r d s)
    rw [hrow] at hfound
    have hfault : fault = (sweepFinding k e.copies[copyOfRow r] row).fault := sweepFault_eq ..
    have hsweep := judgedSweep_eq r (sweepFinding k e.copies[copyOfRow r] row) hrun (hs.sweep.count hrun)
    obtain ⟨⟨p, c, q, hv⟩, hraised, hitem, hqueue⟩ := hfound
    change judgeRead r (readDone r d s) = { readDone r d s with
      sweep := judgedSweep r (sweepFinding k e.copies[copyOfRow r] row) s.sweep, ports := p, copyMap := c, queue := q } at hv
    change Raised (readDone r d s) _ (sweepFinding k e.copies[copyOfRow r] row).mask at hraised
    change ∀ j, _ = if j = k ∧ (sweepFinding k e.copies[copyOfRow r] row).repairs e.copies[copyOfRow r] = true then
      e.mark (copyOfRow r) .bad else s.item j at hitem
    change _ = (enqueueAll (if (sweepFinding k e.copies[copyOfRow r] row).repairs e.copies[copyOfRow r] = true then [k] else []) _).queue
      at hqueue
    rw [hsweep, ← hfault] at hv
    generalize sweepFinding k e.copies[copyOfRow r] row = f at *
    replace hexec : exec (.sweepRead d) s = .next (takeHead (serveArray (judgeRead r (readDone r d s)))) := hexec
    generalize judgeRead r (readDone r d s) = v at *
    obtain ⟨hturns, ⟨q', e', a, w, x, hframe⟩, henq⟩ := served (v := v) (by rw [hv]; rfl)
    generalize takeHead (serveArray v) = t at *
    have hrepairs : ∀ c, f.repairs c = true ↔ fault.isSome = true ∧ c ≠ .worn := fun c => by
      rw [hfault, ← isFault_eq]
      simp [SweepFinding.repairs]
    have hout : t = { s with
        rows := w, array := a, sweep := x, ports := p, copyMap := c, queue := q', engine := e' } := by
      rw [hframe, hv]; rfl
    refine ⟨t, hexec, .of_frame hout, ⟨by rw [hout], by rw [hout]⟩, by rw [hout], by rw [hout], by simp, fun _ =>
      ⟨?_, fun j => ?_, ?_, ?_⟩⟩
    · have hve : v.engine = s.engine := by rw [hv]; rfl
      have hvs : v.sweep = sweptRow s.sweep r fault := by rw [hv]
      have hvr : v.row = rows := by rw [hv]; exact hrows
      rw [hve, hvs] at hturns
      exact hturns.congr hvr.symm rfl rfl rfl
    · have hj : t.item j = v.item j := by simp only [State.item, hframe]
      rw [hj, hitem]
      simp only [hrepairs]
      rfl
    · intro p
      have hp : t.port p = v.port p := by simp only [State.port, hframe]
      rw [hp, hraised p, hfault]
      cases f <;> rfl
    · simp only [hrepairs] at hqueue
      generalize (if fault.isSome = true ∧ e.copies[copyOfRow r] ≠ .worn then [k] else []) = items at hqueue ⊢
      obtain ⟨z, hz⟩ := enqueueAll_frame items s
      have hitems : (enqueueAll items (readDone r d s)).queue = (enqueueAll items s).queue := enqueueAll_queue_congr items rfl
      have hcongr := takeHead_congr (s := enqueueAll items s) (t := enqueueAll [] v) (by rw [hz, enqueueAll_nil, hv]; rfl)
        (by rw [hz, enqueueAll_nil, hv]; rfl) (hqueue.trans hitems)
      exact ⟨henq.queue.trans hcongr.1, henq.engine.trans hcongr.2⟩

/-! ### SWEEP_START and SWEEP_STOP -/

theorem parseSweepStart_length {payload : List Byte} {x : RowNo × Bool × Bool} (h : parseSweepStart payload = some x) :
    payload.length ≤ 32 := by
  unfold parseSweepStart at h
  split at h
  · simp
  · cases h

/-- A sweep command that is taken, answered: the array's use and the sweep's record beside the port. -/
theorem answer_sweep (s : State) (p : Port) (payload : List Byte) (c : LocalCommand) (tag : Byte) (r : Result) (bytes : List Byte)
    (a : ArrayUse) (w : Sweep) : answer p c tag r bytes (((accepted s p payload).setSweep w).setArray a) =
      ((s.setSweep w).setArray a).setPort p (acceptedPort s p payload (.done ⟨tag, c.code, r, bytes⟩)) := by
  cases p <;> rfl

theorem sweepCommandLeaves_of (s : State) (p : Port) (a : ArrayUse) (w : Sweep) (v : PortState) :
    SweepCommandLeaves s (((s.setSweep w).setArray a).setPort p v) p :=
  ⟨⟨rfl, rfl, rfl, rfl⟩, ⟨rfl, rfl, rfl⟩, ⟨rfl, rfl, rfl, rfl⟩, ⟨rfl, rfl, rfl, rfl⟩, rfl, rfl, ⟨rfl, rfl, rfl, rfl⟩, ⟨rfl, rfl⟩,
    ⟨rfl, rfl⟩, State.setPort_other ..⟩

/-- The first read of a sweep begins at once where the array is free, and is asked of it where it is not (R153). -/
theorem serveArray_started {s : State} (hs : StoreOk s) {w : Sweep} (hw : w.asked = true) :
    serveArray (s.setSweep w) = (s.setSweep { w with asked := decide (s.array ≠ .free) }).setArray
      (if s.array = .free then .sweepRead w.nextRow true else s.array) := by
  by_cases hfree : s.array = .free
  · have hnone : programOf s.engine = none := by
      have h := mt hs.waits (not_not_intro hfree)
      cases he : s.engine <;> simp [he, Engine.hasProgram, programOf] at h ⊢
    rw [serveArray_sweep (s := s.setSweep w) hfree hnone hw]
    simp only [hfree, if_true, ne_eq, not_true, decide_false]
    rfl
  · have hasked : { w with asked := decide (s.array ≠ .free) } = w := by
      simp only [ne_eq, hfree, not_false_eq_true, decide_true, ← hw]
    rw [serveArray_busy (s := s.setSweep w) hfree, hasked, if_neg hfree]
    rfl

/-- Settles O36: a start asks the array for the first read, and a stop leaves the read in progress unjudged. -/
theorem sweepStartsAndStops : Obligations.SweepStartsAndStops := by
  intro s p tag payload hs h
  refine ⟨fun r loop stop hd hparse hidle => ?_, fun hrun => ?_, fun hidle => ?_⟩
  · have hexec : exec (.sweepStart p tag payload) s = .next (answer p .sweepStart tag .ok []
        (serveArray ((accepted s p payload).setSweep (startedSweep r loop stop)))) := by
      change Host.Outcome.next (occupy p payload _ s) = _
      rw [occupy_accepted _ h (parseSweepStart_length hparse), whenRunning_running (show (accepted s p payload).device = _ from hd)]
      simp only [serveSweepStart, hparse]
      rw [if_neg (show ¬(accepted s p payload).sweep.state = .running from hidle)]
    have hstore : StoreOk (accepted s p payload) :=
      ⟨hs.store.once, hs.store.takes, hs.store.program, hs.store.waits, hs.store.retry, hs.store.starting⟩
    rw [serveArray_started hstore rfl, answer_sweep] at hexec
    exact ⟨_, hexec, sweepCommandLeaves_of .., State.setPort_same .., rfl, rfl⟩
  · have hexec : exec (.sweepStop p tag []) s = .next (answer p .sweepStop tag .ok [flagsByte false false]
        (((accepted s p []).setSweep { s.sweep with state := .stopped, asked := false }).setArray (orphanRead s.array))) := by
      change Host.Outcome.next (occupy p [] _ s) = _
      rw [occupy_accepted _ h (by simp)]
      simp only [withoutArguments, serveSweepStop]
      rw [if_pos (show (accepted s p []).sweep.state = .running from hrun)]
      rfl
    rw [answer_sweep] at hexec
    refine ⟨_, hexec, sweepCommandLeaves_of .., State.setPort_same .., rfl, ?_⟩
    cases ha : s.array <;> simp [orphanRead]
  · refine answered_of_occupy h (by simp) ?_
    simp only [withoutArguments, serveSweepStop]
    rw [if_neg (show ¬(accepted s p []).sweep.state = .running from hidle)]
    rfl

end Sys2Proof.Machine
end

section
/-! The start-up load and the move to RUNNING (8.2 to 8.4). -/

namespace Sys2Proof.Machine

/-! ### What an item's decision makes of the table and the records (R145 to R147) -/

/-- A content is of an item's kind. -/
def Fits : ItemKind → Content → Prop
  | .slot _, .vacant _ | .slot _, .live _ | .axis _, .axis _ | .lines, .lines _ | .ports, .ports _ | .freeze, .freeze _ => True
  | _, _ => False

/-- A decoded image has a content of its item's kind. -/
theorem decodeImage_fits {k : ItemNo} {image : List Byte} {c : Content} (h : decodeImage k image = some c) : Fits (itemKind k) c := by
  unfold decodeImage at h
  split at h
  · split at h
    · cases h
    · cases hk : itemKind k <;> simp only [hk] at h
      case slot i =>
        split at h
        · obtain ⟨_, _, rfl⟩ := Option.map_eq_some_iff.mp h
          trivial
        · split at h
          · obtain ⟨_, _, rfl⟩ := Option.map_eq_some_iff.mp h
            trivial
          · cases h
      all_goals
        split at h
        · obtain ⟨_, _, rfl⟩ := Option.map_eq_some_iff.mp h
          trivial
        · cases h
  · cases h

/-- An item's decision has taken effect on the table and the records. -/
structure ItemLoaded (k : ItemNo) (o : LoadOutcome) (content : Option Content) (s t : State) : Prop where
  frame : ∃ a b c d e f, t = { s with
    slots := a, axes := b, lineConfig := c, portConfig := d, freezeLevel := e, committedFreeze := f }
  slot : ∀ i, t.slot i = if itemKind k = .slot i then loadedSlot o content else s.slot i
  axis : ∀ n, t.axisConfig n = if itemKind k = .axis n then loadedAxis content else s.axisConfig n
  lines : t.lineConfig = if itemKind k = .lines then loadedLines content else s.lineConfig
  ports : t.portConfig = if itemKind k = .ports then loadedPorts content else s.portConfig
  freeze : (t.freezeLevel, t.committedFreeze) =
    if itemKind k = .freeze then loadedFreeze o content else (s.freezeLevel, s.committedFreeze)

theorem itemLoaded_slot {k : ItemNo} {i : SlotNo} (h : itemKind k = .slot i) (o : LoadOutcome) (content : Option Content) (s : State) :
    ItemLoaded k o content s (s.setSlot i (loadedSlot o content)) := by
  refine ⟨⟨_, _, _, _, _, _, rfl⟩, fun j => ?_, fun n => by simp [h], by simp [h], by simp [h], by simp [h]⟩
  rw [State.setSlot_at, h]
  simp only [ItemKind.slot.injEq, eq_comm]

theorem itemLoaded_axis {k : ItemNo} {n : Axis} (h : itemKind k = .axis n) (o : LoadOutcome) (content : Option Content) (s : State) :
    ItemLoaded k o content s (s.setAxisConfig n (loadedAxis content)) := by
  refine ⟨⟨_, _, _, _, _, _, rfl⟩, fun j => by simp [h], fun m => ?_, by simp [h], by simp [h], by simp [h]⟩
  rw [State.setAxisConfig_at, h]
  simp only [ItemKind.axis.injEq, eq_comm]

theorem itemLoaded_lines {k : ItemNo} (h : itemKind k = .lines) (o : LoadOutcome) (content : Option Content) (s : State) :
    ItemLoaded k o content s (s.setLineConfig (loadedLines content)) :=
  ⟨⟨_, _, _, _, _, _, rfl⟩, fun j => by simp [h], fun m => by simp [h], by simp [h], by simp [h], by simp [h]⟩

theorem itemLoaded_ports {k : ItemNo} (h : itemKind k = .ports) (o : LoadOutcome) (content : Option Content) (s : State) :
    ItemLoaded k o content s (s.setPortConfig (loadedPorts content)) :=
  ⟨⟨_, _, _, _, _, _, rfl⟩, fun j => by simp [h], fun m => by simp [h], by simp [h], by simp [h], by simp [h]⟩

theorem itemLoaded_freeze {k : ItemNo} (h : itemKind k = .freeze) (o : LoadOutcome) (content : Option Content) (s : State) :
    ItemLoaded k o content s
      ((s.setFreeze (loadedFreeze o content).1).setCommitted (loadedFreeze o content).2) :=
  ⟨⟨_, _, _, _, _, _, rfl⟩, fun j => by simp [h], fun m => by simp [h], by simp [h], by simp [h], by simp [h]⟩

theorem itemLoaded_loadContent {k : ItemNo} {c : Content} (h : Fits (itemKind k) c) (o : LoadOutcome) (s : State) :
    ItemLoaded k o (some c) s (loadContent k c s) := by
  unfold loadContent
  cases hk : itemKind k <;> rw [hk] at h <;> cases c <;> cases h
  case slot.vacant => exact itemLoaded_slot hk o _ s
  case slot.live => exact itemLoaded_slot hk o _ s
  case axis.axis => exact itemLoaded_axis hk o _ s
  case lines.lines => exact itemLoaded_lines hk o _ s
  case ports.ports => exact itemLoaded_ports hk o _ s
  case freeze.freeze => exact itemLoaded_freeze hk o _ s

theorem itemLoaded_loadNothing (k : ItemNo) (o : LoadOutcome) (s : State) :
    ItemLoaded k o none s (loadNothing k (decide (o = .lost)) s) := by
  unfold loadNothing
  simp only [decide_eq_true_eq]
  cases hk : itemKind k with
  | slot i => exact itemLoaded_slot hk o none s
  | axis n => exact itemLoaded_axis hk o none s
  | lines => exact itemLoaded_lines hk o none s
  | ports => exact itemLoaded_ports hk o none s
  | freeze =>
    have h := itemLoaded_freeze hk o none s
    dsimp only
    by_cases ho : o = .lost
    · simpa [loadedFreeze, ho] using h
    · simpa [loadedFreeze, ho] using h

/-- The image that an item's decision loads is that of one of its VALID copies (R142). -/
theorem decideItem_image {c₀ c₁ : CopyClass} {image : List Byte} (h : (decideItem c₀ c₁).image = some image) :
    c₀ = .valid image ∨ c₁ = .valid image := by
  cases c₀ <;> cases c₁
  case valid.valid i₀ i₁ =>
    simp only [decideItem, decideBoth] at h
    simp only [CopyClass.valid.injEq]
    split_ifs at h <;> simp_all
  all_goals
    cases h <;> simp

theorem itemLoaded_loadItem {k : ItemNo} {d : Decision} (h : ∀ image, d.image = some image → imageWf k image = true) (s : State) :
    ItemLoaded k d.outcome (d.image.bind (decodeImage k)) s (loadItem k d s) := by
  unfold loadItem
  cases hi : d.image with
  | none => exact itemLoaded_loadNothing ..
  | some image =>
    obtain ⟨c, hc⟩ := Option.isSome_iff_exists.mp (h image hi)
    simp only [Option.bind_some, hc]
    exact itemLoaded_loadContent (decodeImage_fits hc) ..

theorem classOfRow_wf {k : ItemNo} {r : Row} {image : List Byte} (h : (classOfRow k r).cls = .valid image) : imageWf k image = true := by
  unfold classOfRow at h
  cases r <;> simp only at h
  case clean i | corrected i =>
    split at h
    · next hw => cases h; exact hw
    · cases h
  case blank | uncorrectable => cases h

/-! ### A row read by the load (R141) -/

/-- The row that the load reads, decayed, and what the reading counts (R141, R150). -/
def rowRead (r : RowNo) (d : Decay) (first : Option CopyRead) (s : State) : State :=
  (s.setRow r (decayedRow (s.row r) d)).setLoad { s.load with
    nextRow := s.load.nextRow + 1
    first := first
    corrected := if (classOfRow (itemOfRow r) (decayedRow (s.row r) d)).corrected then s.load.corrected + 1 else s.load.corrected }

/-- The part after the read of a row at load (R141): the first copy is kept, and the second decides the item. -/
def loadRead (r : RowNo) (d : Decay) (s : State) : State :=
  match s.load.first with
  | none => rowRead r d (some (classOfRow (itemOfRow r) (decayedRow (s.row r) d))) s
  | some c₀ => decide2 (itemOfRow r) c₀ (classOfRow (itemOfRow r) (decayedRow (s.row r) d)) (rowRead r d none s)

theorem exec_loadRowRead {s : State} {d : Decay} {r : RowNo} (hd : s.device = .starting) (hheld : s.held = false)
    (hr : s.load.nextRow = r.val) : exec (.loadRowRead d) s = .next (loadRead r d s) := by
  have hlt : s.load.nextRow < 206 := hr ▸ r.isLt
  have hrow : (⟨s.load.nextRow, hlt⟩ : RowNo) = r := Fin.ext hr
  have hexec : exec (.loadRowRead d) s = .next (loadRow r (s.setRow r (decayedRow (s.row r) d))) := by
    change execLoadRowRead d s = _
    unfold execLoadRowRead
    rw [if_pos ⟨hd, hheld⟩, dif_pos hlt, hrow]
  rw [hexec]
  cases hfirst : s.load.first <;> simp only [loadRow, loadRead, rowRead, State.setRow_same, State.setRow_load, hfirst]

theorem markCorrected_eq (r₀ r₁ : CopyRead) (e : ItemEntry) : markCorrected r₀ r₁ e =
    { e with copies := #v[if r₀.corrected then .bad else e.copies[0], if r₁.corrected then .bad else e.copies[1]] } := by
  unfold markCorrected ItemEntry.mark
  rcases e with ⟨copies, newest, generation⟩
  cases r₀.corrected <;> cases r₁.corrected <;> simp only [if_true, Bool.false_eq_true, if_false, ItemEntry.mk.injEq, and_true] <;>
    ext i hi <;> interval_cases i <;> simp

theorem repaired_eq (k : ItemNo) (o : LoadOutcome) (corrected : Bool) : needsRepair k o corrected = repaired k o corrected := by
  unfold needsRepair repaired
  cases o with
  | lost =>
    dsimp only
    unfold lostIsRepaired itemKind
    have := k.isLt
    split_ifs <;> simp <;> omega
  | empty | good | staleCopy | oneCopy => rfl

theorem counted_eq (l : Load) (o : LoadOutcome) : l.counted o =
    { nextRow := l.nextRow
      first := l.first
      empty := l.empty + (if o = .empty then 1 else 0)
      good := l.good + (if o = .good then 1 else 0)
      staleCopy := l.staleCopy + (if o = .staleCopy then 1 else 0)
      oneCopy := l.oneCopy + (if o = .oneCopy then 1 else 0)
      lost := l.lost + (if o = .lost then 1 else 0)
      corrected := l.corrected } := by
  cases o <;> rfl

/-- An item has been decided (R141 to R148). -/
structure ItemDecided (k : ItemNo) (r₀ r₁ : CopyRead) (s t : State) : Prop where
  loaded : ∃ u, ItemLoaded k (decideItem r₀.cls r₁.cls).outcome ((decideItem r₀.cls r₁.cls).image.bind (decodeImage k)) s u ∧
    t = { u with
      copyMap := s.copyMap.set k (markCorrected r₀ r₁ (decideItem r₀.cls r₁.cls).entry)
      load := s.load.counted (decideItem r₀.cls r₁.cls).outcome
      queue := if repaired k (decideItem r₀.cls r₁.cls).outcome (r₀.corrected || r₁.corrected) then (enqueue k s).queue else s.queue }

theorem itemDecided_decide2 {k : ItemNo} {r₀ r₁ : CopyRead} (h₀ : ∀ image, r₀.cls = .valid image → imageWf k image = true)
    (h₁ : ∀ image, r₁.cls = .valid image → imageWf k image = true) (s : State) : ItemDecided k r₀ r₁ s (decide2 k r₀ r₁ s) := by
  have hl := itemLoaded_loadItem (k := k) (d := decideItem r₀.cls r₁.cls)
    (fun image hi => (decideItem_image hi).elim (h₀ image) (h₁ image)) s
  refine ⟨_, hl, ?_⟩
  obtain ⟨a, b, c, d, e, f, hframe⟩ := hl.frame
  unfold decide2
  dsimp only
  rw [repaired_eq, hframe]
  cases repaired k (decideItem r₀.cls r₁.cls).outcome (r₀.corrected || r₁.corrected) with
  | true =>
    rw [if_pos rfl, if_pos rfl, enqueue_eq, enqueue_eq]
    rfl
  | false => rfl

theorem rowRead_row (r : RowNo) (d : Decay) (first : Option CopyRead) (s : State) (x : RowNo) :
    (rowRead r d first s).row x = if x = r then decayedRow (s.row r) d else s.row x := State.setRow_at ..

/-- Settles O7: the first copy read is kept, and the second decides the item. -/
theorem loadReadsAndDecides : Obligations.LoadReadsAndDecides := by
  refine ⟨fun s d r hd hheld hr hfirst => ?_, fun s d r c₀ hd hheld hr hfirst hwf => ?_⟩
  · have hexec := exec_loadRowRead (d := d) hd hheld hr
    rw [loadRead, hfirst] at hexec
    exact ⟨rowRead r d (some _) s, hexec, rowRead_row _ _ _ _, rfl, ⟨⟨rfl, rfl, rfl⟩, ⟨rfl, rfl⟩, ⟨rfl, rfl, rfl, rfl⟩, rfl, rfl, rfl, ⟨rfl, rfl⟩, rfl,
      ⟨rfl, rfl⟩, rfl⟩, ⟨rfl, rfl, rfl⟩, ⟨rfl, rfl, rfl, rfl⟩, rfl, rfl, rfl⟩
  · intro k c₁ v
    dsimp only
    have hexec := exec_loadRowRead (d := d) hd hheld hr
    rw [loadRead, hfirst] at hexec
    obtain ⟨u, hl, ht⟩ := (itemDecided_decide2 (k := k) (r₀ := c₀) (r₁ := c₁) hwf (fun image hi => classOfRow_wf hi)
      (rowRead r d none s)).loaded
    replace hexec : exec (.loadRowRead d) s = .next (decide2 k c₀ c₁ (rowRead r d none s)) := hexec
    generalize decide2 k c₀ c₁ (rowRead r d none s) = t at hexec ht
    obtain ⟨⟨a, b, c, e, f, g, hu⟩, hslot, haxis, hlines, hports, hfreeze⟩ := hl
    have hrow : t.rows = (rowRead r d none s).rows := by rw [ht, hu]
    refine ⟨t, hexec, fun x => ?_, fun i => ?_, fun n => ?_, ?_, ?_, ?_, fun j => ?_, ?_, ?_, ?_⟩
    · rw [← rowRead_row r d none s x]
      simp only [State.row, hrow]
    · have h := hslot i
      rw [ht]
      exact h
    · have h := haxis n
      rw [ht]
      exact h
    · rw [ht]; exact hlines
    · rw [ht]; exact hports
    · rw [ht]; exact hfreeze
    · have hj : t.item j = (s.setItem k (markCorrected c₀ c₁ v.entry)).item j := by rw [ht]; rfl
      rw [hj, State.setItem_at, markCorrected_eq]
    · have hload : t.load = (rowRead r d none s).load.counted v.outcome := by rw [ht]
      have hcorrected : (rowRead r d none s).load.corrected = s.load.corrected + if c₁.corrected then 1 else 0 := by
        change (if c₁.corrected then s.load.corrected + 1 else s.load.corrected) = _
        split <;> rfl
      rw [hload, counted_eq, hcorrected]
      rfl
    · rw [ht]
      dsimp only
      rw [enqueue_eq, enqueue_eq]
      rfl
    · have hall : t = { s with
          slots := a, axes := b, lineConfig := c, portConfig := e, freezeLevel := f, committedFreeze := g, rows := t.rows
          copyMap := t.copyMap, load := t.load, queue := t.queue } := by rw [ht, hu]; rfl
      rw [hall]
      exact ⟨⟨rfl, rfl, rfl⟩, ⟨rfl, rfl⟩, ⟨rfl, rfl, rfl, rfl⟩, rfl, rfl, rfl, ⟨rfl, rfl⟩, rfl, ⟨rfl, rfl⟩, rfl⟩

end Sys2Proof.Machine
end

section
/-! The move to RUNNING (R149): the lists built and the exclusivity check made, slot by slot. -/

namespace Sys2Proof.Machine

theorem enterList_frame (i : SlotNo) (z : Zone) (s : State) : ∃ a b, enterList i z s = { s with absolute := a, periodic := b } := by
  unfold enterList
  cases z.bounds.kind <;> exact ⟨_, _, rfl⟩

/-! ### The lists are built -/

/-- The LIVE zones of the slots below `m` stand in their lists, in order. -/
structure ListedBelow (m : Nat) (s t : State) : Prop where
  frame : ∃ a b, t = { s with absolute := a, periodic := b }
  holds : ∀ n k i, i ∈ t.zoneList n k ↔ i.val < m ∧ ∃ z, s.zone i = some z ∧ z.axis = n ∧ z.bounds.kind = k
  order : ∀ n k, InOrder s (t.zoneList n k)

theorem ListedBelow.succ {m : Nat} {s t : State} (h : ListedBelow m s t) (hm : m < 96) :
    ListedBelow (m + 1) s (listSlot t ⟨m, hm⟩) := by
  obtain ⟨⟨a, b, hframe⟩, hholds, horder⟩ := h
  have hzone : ∀ i, t.zone i = s.zone i := fun i => by rw [hframe]; rfl
  have hlt : ∀ i : SlotNo, i.val < m + 1 ↔ i.val < m ∨ i = ⟨m, hm⟩ := fun i => by simp only [Fin.ext_iff]; omega
  unfold listSlot
  rw [hzone]
  cases hz : s.zone ⟨m, hm⟩ with
  | none =>
    refine ⟨⟨a, b, hframe⟩, fun n k i => ?_, horder⟩
    rw [hholds, hlt]
    constructor
    · rintro ⟨hi, hzi⟩
      exact ⟨.inl hi, hzi⟩
    · rintro ⟨hi | rfl, z, hzi, hnk⟩
      · exact ⟨hi, z, hzi, hnk⟩
      · rw [hz] at hzi; cases hzi
  | some z =>
    have hnot : ∀ n k, (⟨m, hm⟩ : SlotNo) ∉ t.zoneList n k := fun n k hi => by simp [hholds] at hi
    have hlive : ∀ j ∈ t.zoneList z.axis z.bounds.kind, ∃ y, s.zone j = some y ∧ y.bounds.kind = z.bounds.kind := fun j hj => by
      obtain ⟨_, y, hy, _, hk⟩ := (hholds _ _ j).mp hj
      exact ⟨y, hy, hk⟩
    have hins : ∀ l, insertOrdered t ⟨m, hm⟩ z.bounds l = insertOrdered s ⟨m, hm⟩ z.bounds l := fun l => by
      induction l with
      | nil => rfl
      | cons j rest ih => simp only [insertOrdered, hzone, ih]
    obtain ⟨before, after, hsplit, hins', hord⟩ := insertOrdered_spec hz (hnot _ _) hlive (horder z.axis z.bounds.kind)
    have hlist : ∀ n k, (enterList ⟨m, hm⟩ z t).zoneList n k =
        if n = z.axis ∧ k = z.bounds.kind then before ++ ⟨m, hm⟩ :: after else t.zoneList n k := fun n k => by
      rw [← hins', ← hins]
      exact State.setZoneList_at ..
    obtain ⟨a', b', henter⟩ := enterList_frame ⟨m, hm⟩ z t
    refine ⟨⟨a', b', henter.trans (by rw [hframe])⟩, fun n k i => ?_, fun n k => ?_⟩
    · rw [hlist, hlt]
      by_cases hnk : n = z.axis ∧ k = z.bounds.kind
      · obtain ⟨rfl, rfl⟩ := hnk
        have hmem : i ∈ before ++ ⟨m, hm⟩ :: after ↔ i ∈ t.zoneList z.axis z.bounds.kind ∨ i = ⟨m, hm⟩ := by
          rw [hsplit]; simp; tauto
        rw [if_pos ⟨rfl, rfl⟩, hmem, hholds]
        constructor
        · rintro (⟨hi, hzi⟩ | rfl)
          · exact ⟨.inl hi, hzi⟩
          · exact ⟨.inr rfl, z, hz, rfl, rfl⟩
        · rintro ⟨hi | hi, hzi⟩
          · exact .inl ⟨hi, hzi⟩
          · exact .inr hi
      · rw [if_neg hnk, hholds]
        constructor
        · rintro ⟨hi, hzi⟩
          exact ⟨.inl hi, hzi⟩
        · rintro ⟨hi | rfl, y, hy, hn, hk⟩
          · exact ⟨hi, y, hy, hn, hk⟩
          · cases hz.symm.trans hy
            exact absurd ⟨hn.symm, hk.symm⟩ hnk
    · rw [hlist]
      split
      · exact hord
      · exact horder n k

/-- A fold over all slots in ascending order, from what it keeps of the slots below each. -/
theorem foldl_allSlots {p : Nat → State → Prop} {f : State → SlotNo → State} {s : State} (h0 : p 0 s)
    (hstep : ∀ m t, p m t → (hm : m < 96) → p (m + 1) (f t ⟨m, hm⟩)) : p 96 (allSlots.foldl f s) := by
  suffices h : ∀ m ≤ 96, p m ((allSlots.take m).foldl f s) by
    have h96 := h 96 (Nat.le_refl 96)
    rwa [List.take_of_length_le (by simp [allSlots])] at h96
  intro m
  induction m with
  | zero => exact fun _ => h0
  | succ m ih =>
    intro hm
    have hget : allSlots.take (m + 1) = allSlots.take m ++ [⟨m, hm⟩] := by
      rw [List.take_add_one, List.getElem?_eq_getElem (by simp [allSlots]; omega)]
      simp [allSlots]
    rw [hget, List.foldl_append]
    exact hstep m _ (ih (by omega)) hm

theorem listed_allSlots {s : State} (h : ∀ n k, s.zoneList n k = []) : ListedBelow 96 s (allSlots.foldl listSlot s) :=
  foldl_allSlots (p := (ListedBelow · s ·)) ⟨⟨s.absolute, s.periodic, rfl⟩, fun n k i => by simp [h], fun n k => by rw [h]; exact List.Pairwise.nil⟩
    fun _ _ h hm => h.succ hm

/-! ### The exclusivity check (R20) -/

/-- A zone collides with one of a lower slot that `t` holds. -/
def CollidesBelow (t : State) (i : SlotNo) (z : Zone) : Prop :=
  ∃ j y, j < i ∧ t.zone j = some y ∧ y.axis = z.axis ∧ Collides z.bounds z.exclusive y

theorem conflictsWithKept_iff (t : State) (i : SlotNo) (z : Zone) : conflictsWithKept t i z = true ↔ CollidesBelow t i z := by
  simp only [conflictsWithKept, List.any_eq_true, Bool.and_eq_true, decide_eq_true_eq]
  constructor
  · rintro ⟨j, _, hj, hy⟩
    split at hy
    · next y hz =>
      rw [Bool.and_eq_true, decide_eq_true_eq, conflicts_iff] at hy
      exact ⟨j, y, hj, hz, hy.1, hy.2⟩
    · cases hy
  · rintro ⟨j, y, hj, hz, hn, hc⟩
    refine ⟨j, List.mem_finRange j, hj, ?_⟩
    simp only [hz, hn, decide_true, Bool.true_and]
    exact (conflicts_iff ..).mpr hc

/-- The exclusivity check has been made of the slots below `m`: `s` is the part with its lists built. -/
structure KeptBelow (m : Nat) (s t : State) : Prop where
  frame : ∃ a b c, t = { s with slots := a, absolute := b, periodic := c }
  lists : ∀ n k, HoldsExactly t n k ∧ InOrder t (t.zoneList n k)
  later : ∀ i : SlotNo, m ≤ i.val → t.slot i = s.slot i
  other : ∀ i, s.zone i = none → t.slot i = s.slot i
  collided : ∀ i z, i.val < m → s.zone i = some z → CollidesBelow t i z → t.slot i = .quarantined
  kept : ∀ i z, i.val < m → s.zone i = some z → ¬CollidesBelow t i z → t.slot i = s.slot i

theorem CollidesBelow.congr {t u : State} {i : SlotNo} {z : Zone} (h : ∀ j, j < i → u.zone j = t.zone j) :
    CollidesBelow u i z ↔ CollidesBelow t i z :=
  exists_congr fun j => exists_congr fun y => and_congr_right fun hj => by rw [h j hj]

/-- A zone that leaves the table leaves the lists exact and in order. -/
theorem lists_quarantined {t : State} {i : SlotNo} {z : Zone} (h : ∀ n k, HoldsExactly t n k ∧ InOrder t (t.zoneList n k))
    (hz : t.zone i = some z) (n : Axis) (k : Kind) :
    HoldsExactly ((leaveList i z t).setSlot i .quarantined) n k ∧
      InOrder ((leaveList i z t).setSlot i .quarantined) (((leaveList i z t).setSlot i .quarantined).zoneList n k) := by
  set u := (leaveList i z t).setSlot i .quarantined with hu
  have hui : u.zone i = none := by rw [zone_eq_none_iff, hu, State.setSlot_same]; simp
  have huj : ∀ j, j ≠ i → u.zone j = t.zone j := fun j hj => by
    rw [hu, setSlot_zone_other hj, leaveList, State.setZoneList_get_zone]
  have hlist : u.zoneList n k = if n = z.axis ∧ k = z.bounds.kind then
      (t.zoneList z.axis z.bounds.kind).filter (fun j => decide (j ≠ i)) else t.zoneList n k := by
    rw [hu, State.setSlot_get_zoneList]
    exact State.setZoneList_at ..
  have hmem : ∀ j, j ∈ u.zoneList n k ↔ j ≠ i ∧ j ∈ t.zoneList n k := fun j => by
    rw [hlist]
    split
    · next hnk => obtain ⟨rfl, rfl⟩ := hnk; simp [and_comm]
    · next hnk =>
      refine ⟨fun hj => ⟨?_, hj⟩, And.right⟩
      rintro rfl
      obtain ⟨y, hy, hn, hk⟩ := ((h n k).1 j).mp hj
      cases hz.symm.trans hy
      exact hnk ⟨hn.symm, hk.symm⟩
  refine ⟨fun j => ?_, ?_⟩
  · rw [hmem, (h n k).1 j]
    by_cases hj : j = i
    · subst hj; simp [hui]
    · rw [huj j hj]; simp [hj]
  · have hsub : (u.zoneList n k).Sublist (t.zoneList n k) := by
      rw [hlist]
      split
      · next hnk => obtain ⟨rfl, rfl⟩ := hnk; exact List.filter_sublist
      · exact List.Sublist.refl _
    exact InOrder.congr ((h n k).2.sublist hsub) fun j hj y hy => ⟨y, by rwa [huj j ((hmem j).mp hj).1] at hy, rfl⟩

theorem KeptBelow.succ {m : Nat} {s t : State} (h : KeptBelow m s t) (hm : m < 96) :
    KeptBelow (m + 1) s (keepOrQuarantine t ⟨m, hm⟩) := by
  obtain ⟨⟨a, b, c, hframe⟩, hlists, hlater, hother, hcollided, hkept⟩ := h
  have hlt : ∀ i : SlotNo, i.val < m + 1 → i.val < m ∨ i = ⟨m, hm⟩ := fun i => by simp only [Fin.ext_iff]; omega
  have hzm : t.zone ⟨m, hm⟩ = s.zone ⟨m, hm⟩ := zone_congr (hlater _ (Nat.le_refl m))
  have hsame : (∀ z, s.zone ⟨m, hm⟩ = some z → ¬CollidesBelow t ⟨m, hm⟩ z) → KeptBelow (m + 1) s t := fun hno =>
    ⟨⟨a, b, c, hframe⟩, hlists, fun i hi => hlater i (by omega), hother,
      fun i z hi hz hc => (hlt i hi).elim (fun hi => hcollided i z hi hz hc) fun he => by subst he; exact absurd hc (hno z hz),
      fun i z hi hz hc => (hlt i hi).elim (fun hi => hkept i z hi hz hc) fun he => by subst he; exact hlater _ (Nat.le_refl m)⟩
  unfold keepOrQuarantine
  rw [hzm]
  cases hz : s.zone ⟨m, hm⟩ with
  | none => exact hsame fun z hz' => by cases hz.symm.trans hz'
  | some z =>
    by_cases hc : CollidesBelow t ⟨m, hm⟩ z
    · dsimp only
      rw [if_pos ((conflictsWithKept_iff ..).mpr hc)]
      have hslot : ∀ j, j ≠ ⟨m, hm⟩ → ((leaveList ⟨m, hm⟩ z t).setSlot ⟨m, hm⟩ .quarantined).slot j = t.slot j := fun j hj => by
        rw [State.setSlot_at, if_neg hj, leaveList, State.setZoneList_get_slot]
      have hbelow : ∀ i : SlotNo, i.val < m + 1 → ∀ y,
          (CollidesBelow ((leaveList ⟨m, hm⟩ z t).setSlot ⟨m, hm⟩ .quarantined) i y ↔ CollidesBelow t i y) := fun i hi y =>
        CollidesBelow.congr fun j hj => zone_congr (hslot j fun he => by
          rw [Fin.lt_def, he] at hj
          dsimp only at hj
          omega)
      obtain ⟨b', c', hleave⟩ := leaveList_frame ⟨m, hm⟩ z t
      refine ⟨⟨_, b', c', by rw [hleave, hframe]; rfl⟩, lists_quarantined hlists (hzm.trans hz), fun i hi => ?_, fun i hi => ?_,
        fun i y hi hy hcol => ?_, fun i y hi hy hcol => ?_⟩
      · rw [hslot i (fun he => by rw [he] at hi; dsimp only at hi; omega)]
        exact hlater i (by omega)
      · rw [hslot i (fun he => by rw [he, hz] at hi; cases hi)]
        exact hother i hi
      · rcases hlt i hi with hi' | rfl
        · rw [hslot i (fun he => by rw [he] at hi'; dsimp only at hi'; omega)]
          exact hcollided i y hi' hy ((hbelow i hi y).mp hcol)
        · exact State.setSlot_same ..
      · rcases hlt i hi with hi' | rfl
        · rw [hslot i (fun he => by rw [he] at hi'; dsimp only at hi'; omega)]
          exact hkept i y hi' hy (mt (hbelow i hi y).mpr hcol)
        · cases hz.symm.trans hy
          exact absurd ((hbelow _ hi z).mpr hc) hcol
    · dsimp only
      rw [if_neg (mt (conflictsWithKept_iff ..).mp hc)]
      exact hsame fun y hy => by cases hz.symm.trans hy; exact hc

theorem kept_buildLists {s : State} (h : ∀ n k, s.zoneList n k = []) : KeptBelow 96 s (buildLists s) := by
  have hl := listed_allSlots h
  unfold buildLists
  generalize allSlots.foldl listSlot s = u at hl
  obtain ⟨⟨a, b, hframe⟩, hholds, horder⟩ := hl
  have hslot : ∀ i, u.slot i = s.slot i := fun i => by rw [hframe]; rfl
  have hzone : ∀ i, u.zone i = s.zone i := fun i => by rw [hframe]; rfl
  have hexact : ∀ n k, HoldsExactly u n k := fun n k i => by
    rw [hholds, hzone]
    exact and_iff_right i.isLt
  have h0 : KeptBelow 0 u u :=
    ⟨⟨u.slots, u.absolute, u.periodic, rfl⟩, fun n k => ⟨hexact n k, (horder n k).congr fun j _ y hy => ⟨y, by rw [← hzone, hy], rfl⟩⟩,
      fun _ _ => rfl, fun _ _ => rfl, fun _ _ hi => absurd hi (by simp), fun _ _ hi => absurd hi (by simp)⟩
  have hk : KeptBelow 96 u (allSlots.foldl keepOrQuarantine u) :=
    foldl_allSlots (p := (KeptBelow · u ·)) h0 fun _ _ h hm => h.succ hm
  obtain ⟨⟨x, y, z, hfinal⟩, hlists, hlater, hother, hcollided, hkept⟩ := hk
  exact ⟨⟨x, y, z, hfinal.trans (by rw [hframe])⟩, hlists, fun i hi => (hlater i hi).trans (hslot i),
    fun i hi => (hother i ((hzone i).trans hi)).trans (hslot i), fun i z hi hz => hcollided i z hi ((hzone i).trans hz),
    fun i z hi hz hc => (hkept i z hi ((hzone i).trans hz) hc).trans (hslot i)⟩

/-- A zone that the check has kept is the zone that stood there. -/
theorem KeptBelow.zone_kept {s t : State} (h : KeptBelow 96 s t) {i : SlotNo} {z : Zone} (hz : t.zone i = some z) :
    s.zone i = some z ∧ ¬CollidesBelow t i z := by
  cases hs : s.zone i with
  | none =>
    rw [zone_congr (h.other i hs), hs] at hz
    cases hz
  | some y =>
    have hno : ¬CollidesBelow t i y := fun hc => by
      have hq := h.collided i y i.isLt hs hc
      rw [zone_eq_some_iff, hq] at hz
      cases hz
    rw [zone_congr (h.kept i y i.isLt hs hno), hs] at hz
    cases hz
    exact ⟨rfl, hno⟩

/-- No two zones that the check has kept collide (R10, R20). -/
theorem KeptBelow.exclusive {s t : State} (h : KeptBelow 96 s t) {i j : SlotNo} {y z : Zone} (hij : i ≠ j)
    (hy : t.zone i = some y) (hz : t.zone j = some z) (hn : y.axis = z.axis) (hmeet : intersects y.bounds z.bounds = true) :
    y.exclusive = false ∧ z.exclusive = false := by
  have key : ∀ i j y z, i < j → t.zone i = some y → t.zone j = some z → y.axis = z.axis → intersects y.bounds z.bounds = true →
      y.exclusive = false ∧ z.exclusive = false := fun i j y z hij hy hz hn hmeet => by
    have hno := (h.zone_kept hz).2
    have hc : ¬Collides z.bounds z.exclusive y := fun hc => hno ⟨i, y, hij, hy, hn, hc⟩
    simp only [Collides, not_and_or, not_or, Bool.not_eq_true] at hc
    rcases hc with hc | hc
    · rw [intersects_comm, hmeet] at hc; cases hc
    · exact ⟨hc.2, hc.1⟩
  rcases lt_or_gt_of_ne hij with hlt | hlt
  · exact key i j y z hlt hy hz hn hmeet
  · exact (key j i z y hlt hz hy hn.symm (by rw [intersects_comm, hmeet])).symm

/-! ### The trackers, the notices and the flags -/

theorem startTracker_frame (l : List Axis) (s : State) : ∃ v, l.foldl startTracker s = { s with trackers := v } := by
  induction l generalizing s with
  | nil => exact ⟨s.trackers, rfl⟩
  | cons n l ih =>
    obtain ⟨v, hv⟩ := ih (startTracker s n)
    refine ⟨v, hv.trans ?_⟩
    unfold startTracker
    split <;> rfl

theorem startTracker_foldl {l : List Axis} (hl : l.Nodup) (s : State) (n : Axis) : (l.foldl startTracker s).tracker n =
    if n ∈ l ∧ (s.axisConfig n).enabled = true then { s.tracker n with state := .acquiring } else s.tracker n := by
  induction l using List.reverseRecOn with
  | nil => simp
  | append_singleton l m ih =>
    rw [List.nodup_append] at hl
    have hm : m ∉ l := fun hm => hl.2.2 m hm m (by simp) rfl
    obtain ⟨v, hv⟩ := startTracker_frame l s
    rw [List.foldl_append, List.foldl_cons, List.foldl_nil]
    have hc : ∀ k, (l.foldl startTracker s).axisConfig k = s.axisConfig k := fun k => by rw [hv]; rfl
    have ihn := ih hl.1
    generalize l.foldl startTracker s = u at hc ihn
    unfold startTracker
    rw [hc]
    by_cases he : (s.axisConfig m).enabled = true
    · rw [if_pos he, State.setTracker_at]
      by_cases hn : n = m
      · subst hn
        rw [if_pos rfl, ihn, if_neg (by simp [hm]), if_pos (by simp [he])]
      · rw [if_neg hn, ihn]
        simp [hn]
    · rw [if_neg he, ihn]
      by_cases hn : n = m
      · subst hn
        simp [hm, he]
      · simp [hn]

/-- The QUARANTINED notice of a slot, where it is QUARANTINED. -/
def quarantineNoticeAt (s : State) (i : SlotNo) : List Notice :=
  if decide (s.slot i = .quarantined) then [⟨i, .quarantined, bothPorts, none⟩] else []

theorem quarantineNotices_causes (s : State) (q : Port) (j : SlotNo) : noticeCauses s (quarantineNotices s) q j =
    if s.slot j = .quarantined ∧ (s.portConfig.get q).subscription ≠ .none then Cause.quarantined.mask else 0 := by
  have hall : quarantineNotices s = allSlots.flatMap (quarantineNoticeAt s) := (flatMap_ite_singleton _ _ _).symm
  have hslot : ∀ i, ∀ x ∈ quarantineNoticeAt s i, x.slot = i := fun i x hx => by
    unfold quarantineNoticeAt at hx
    split at hx
    · rw [List.mem_singleton] at hx
      subst hx; rfl
    · cases hx
  have hboth : q ∈ bothPorts := by cases q <;> decide
  rw [hall, noticeCauses_flatMap s _ hslot, if_pos (show j ∈ allSlots from List.mem_finRange j)]
  unfold quarantineNoticeAt
  by_cases hj : s.slot j = .quarantined
  · simp only [hj, decide_true, if_true, noticeCauses_singleton, causeOf, hboth, true_and]
    cases (s.portConfig.get q).subscription <;> simp [passesFilter]
  · simp [hj, nothing]

/-- A flag raised in both fault copies where a condition holds. -/
theorem raiseBoth_if (c : Prop) [Decidable c] (x : Flag) (s : State) :
    ∃ v, (if c then raiseBoth x s else s) = { s with ports := v } ∧
      Raised s { s with ports := v } (if c then x.mask else 0) := by
  by_cases hc : c
  · obtain ⟨v, hv⟩ := raiseBoth_frame x s
    refine ⟨v, by rw [if_pos hc, hv], ?_⟩
    rw [if_pos hc, ← hv]
    exact raised_raiseBoth x s
  · refine ⟨s.ports, by rw [if_neg hc], ?_⟩
    rw [if_neg hc]
    exact Raised.refl s

theorem Raised.trans {s t u : State} {f g : FlagSet} (h : Raised s t f) (k : Raised t u g) : Raised s u (f ||| g) := fun p => by
  rw [k p, h p]
  simp only [BitVec.or_assoc]

/-- The fault flags of the load (R149, step 5). -/
theorem loadFlags_spec (s : State) : ∃ v, loadFlags s = { s with ports := v } ∧ Raised s { s with ports := v }
    ((if 0 < s.load.corrected then Flag.storeCorrected.mask else 0) |||
      (if 0 < s.load.lost then Flag.storeUncorrectable.mask else 0) |||
      (if ∃ i, s.slot i = .quarantined then Flag.quarantine.mask else 0)) := by
  obtain ⟨v₁, h₁, r₁⟩ := raiseBoth_if (0 < s.load.corrected) .storeCorrected s
  obtain ⟨v₂, h₂, r₂⟩ := raiseBoth_if (0 < s.load.lost) .storeUncorrectable { s with ports := v₁ }
  obtain ⟨v₃, h₃, r₃⟩ := raiseBoth_if (0 < quarantinedSlots s) .quarantine { s with ports := v₂ }
  have hq : (if 0 < quarantinedSlots s then Flag.quarantine.mask else 0 : FlagSet) =
      if ∃ i, s.slot i = .quarantined then Flag.quarantine.mask else 0 :=
    if_congr (quarantinedSlots_pos_iff s) rfl rfl
  rw [hq] at r₃
  refine ⟨v₃, ?_, (r₁.trans r₂).trans r₃⟩
  unfold loadFlags
  dsimp only
  rw [h₁]
  dsimp only
  rw [h₂]
  exact h₃

theorem exec_moveToRunning {s : State} (hd : s.device = .starting) (hheld : s.held = false) (hrow : s.load.nextRow = 206) :
    exec .moveToRunning s = .next (moveToRunning s) := if_pos ⟨hd, hheld, hrow⟩

/-- What the move to RUNNING makes of the part, step by step (R149). -/
structure MovedToRunning (s t : State) : Prop where
  kept : KeptBelow 96 s { s with slots := t.slots, absolute := t.absolute, periodic := t.periodic }
  frame : ∃ v l p q e, t = { s with
    device := .running, slots := t.slots, absolute := t.absolute, periodic := t.periodic, trackers := v, lines := l, ports := p
    queue := q, engine := e }
  tracker : ∀ n, t.tracker n = if (s.axisConfig n).enabled = true then { s.tracker n with state := .acquiring } else s.tracker n
  line : ∀ l, t.line l = lineRecordOf t l
  gained : Gained s t (fun q j =>
    if t.slot j = .quarantined ∧ (s.portConfig.get q).subscription ≠ .none then Cause.quarantined.mask else 0)
  faults : ∀ q, (t.port q).faults = (s.port q).faults |||
    ((if 0 < s.load.corrected then Flag.storeCorrected.mask else 0) |||
      (if 0 < s.load.lost then Flag.storeUncorrectable.mask else 0) |||
      (if ∃ i, t.slot i = .quarantined then Flag.quarantine.mask else 0))
  ports : ∀ q, t.port q = { s.port q with changes := (t.port q).changes, faults := (t.port q).faults }
  taken : ∃ u, u.device = .running ∧ u.engine = s.engine ∧ u.queue = s.queue ∧ t.queue = (takeHead u).queue ∧
    t.engine = (takeHead u).engine

theorem movedToRunning {s : State} (h : ∀ n k, s.zoneList n k = []) : MovedToRunning s (moveToRunning s) := by
  have hk := kept_buildLists h
  unfold moveToRunning
  dsimp only
  generalize buildLists s = b at hk
  obtain ⟨x, y, z, hb⟩ := hk.frame
  have htracker := startTracker_foldl (List.nodup_finRange 4) (b.setDevice .running)
  obtain ⟨v, hv⟩ := startTracker_frame allAxes (b.setDevice .running)
  change allAxes.foldl startTracker (b.setDevice .running) = _ at hv
  change ∀ n, (allAxes.foldl startTracker (b.setDevice .running)).tracker n = _ at htracker
  generalize allAxes.foldl startTracker (b.setDevice .running) = u at hv htracker
  obtain ⟨l, hl, hline⟩ := recompute_eq allLines u
  generalize recompute allLines u = r at hl
  have hcauses := quarantineNotices_causes r
  have hgained := gained_addNotices (quarantineNotices r) r
  obtain ⟨c, d, hnotices⟩ := addNotices_eq (quarantineNotices r) r
  generalize addNotices (quarantineNotices r) r = w at hgained hnotices
  obtain ⟨p, hflags, hraised⟩ := loadFlags_spec w
  obtain ⟨q, e, htake⟩ := takeHead_frame (loadFlags w)
  have hwports : ∃ g, w = { r with ports := g } := by rw [hnotices]; exact ⟨_, rfl⟩
  have hwport : ∀ q, w.port q = { r.port q with changes := (w.port q).changes } := fun q => by
    rw [hnotices]; cases q <;> rfl
  obtain ⟨g, hw⟩ := hwports
  have hout : takeHead (loadFlags w) = { s with
      device := .running, slots := x, absolute := y, periodic := z, trackers := v, lines := l, ports := p, queue := q
      engine := e } := by
    rw [htake, hflags, hw, hl, hv, hb]; rfl
  have hport : ∀ k, (takeHead (loadFlags w)).port k = ({ w with ports := p } : State).port k := fun k => by
    rw [htake, hflags]; rfl
  have hrun : (loadFlags w).device = .running := by rw [hflags, hw, hl, hv]; rfl
  have hengine : (loadFlags w).engine = s.engine := by rw [hflags, hw, hl, hv, hb]; rfl
  have hqueue : (loadFlags w).queue = s.queue := by rw [hflags, hw, hl, hv, hb]; rfl
  have hsub : r.portConfig = s.portConfig := by rw [hl, hv, hb]; rfl
  have hload : w.load = s.load := by rw [hw, hl, hv, hb]; rfl
  have hslots : r.slots = x ∧ w.slots = x := by rw [hw, hl, hv, hb]; exact ⟨rfl, rfl⟩
  have hrport : ∀ k, r.port k = s.port k := fun k => by rw [hl, hv, hb]; rfl
  have htaken : ∃ o : State, o.device = .running ∧ o.engine = s.engine ∧ o.queue = s.queue ∧
      (takeHead (loadFlags w)).queue = (takeHead o).queue ∧ (takeHead (loadFlags w)).engine = (takeHead o).engine :=
    ⟨loadFlags w, hrun, hengine, hqueue, rfl, rfl⟩
  generalize takeHead (loadFlags w) = t at hout hport htaken
  have hslot : ∀ i, t.slot i = r.slot i ∧ t.slot i = w.slot i := fun i => by
    simp only [State.slot, hslots, hout, and_self]
  refine ⟨?_, ⟨v, l, p, q, e, by rw [hout]⟩, fun n => ?_, fun m => ?_, fun k j => ?_, fun k => ?_, fun k => ?_, htaken⟩
  · rw [hout, ← hb]
    exact hk
  · have hn : t.tracker n = u.tracker n := by rw [hout, hv]; rfl
    have hc : b.axes = s.axes ∧ b.trackers = s.trackers := by rw [hb]; exact ⟨rfl, rfl⟩
    rw [hn, htracker]
    simp only [State.axisConfig, State.tracker, State.setDevice, hc, List.mem_finRange, true_and]
    rfl
  · have hm : t.line m = l[m] := by rw [hout]; rfl
    rw [hm, hline m, if_pos (show m ∈ allLines from List.mem_finRange m)]
    refine (lineRecordOf_congr ?_ ?_ m).symm
    · rw [hout, hv, hb]; rfl
    · rw [hout, hv, hb]; rfl
  · rw [hport, hraised k]
    change (w.port k).changes[j] = _
    rw [hgained k j, hcauses, hrport, hsub, ← (hslot j).1]
  · rw [hport, hraised k, hwport]
    simp only [hrport, hload, ← (hslot _).2]
  · rw [hport, hraised k, hwport, hrport]

/-- The table after the move to RUNNING: its lists are exact and in order, and its zones exclusive (R8, R10). -/
theorem MovedToRunning.tableOk {s t : State} (h : MovedToRunning s t) : TableOk t := by
  obtain ⟨v, l, p, q, e, hframe⟩ := h.frame
  have hd : t.device = .running := by rw [hframe]
  refine ⟨fun n k => ?_, fun _ i j y z hij hy hz => h.kept.exclusive hij hy hz⟩
  rw [hd]
  exact h.kept.lists n k

theorem TableOk.empty {s : State} (h : TableOk s) (hd : s.device = .starting) (n : Axis) (k : Kind) : s.zoneList n k = [] := by
  have := h.lists n k
  rwa [hd] at this

/-- Settles O8: the steps of R149, from the lists that the load leaves empty. -/
theorem moveToRunningStartsThePart : Obligations.MoveToRunningStartsThePart := by
  intro s hs hd hheld hrow
  have h := movedToRunning (hs.table.empty hd)
  have hexec := exec_moveToRunning hd hheld hrow
  generalize moveToRunning s = t at h hexec
  obtain ⟨v, l, p, q, e, hframe⟩ := h.frame
  obtain ⟨o, hod, hoe, hoq, hq, he⟩ := h.taken
  have hidle : o.engine = .idle := hoe.trans (hs.store.starting hd).1
  refine ⟨t, hexec, by rw [hframe], fun i z hz => ⟨h.kept.collided i z i.isLt hz, fun hno => h.kept.kept i z i.isLt hz ?_⟩,
    h.kept.other, h.tableOk, h.tracker, ?_, h.gained, fun k => ?_, h.ports, ?_, ?_, ?_⟩
  · rintro ⟨j, y, hj, hy, hn, hc⟩
    exact hno j y hj hy hn hc
  · intro m
    rw [show t.device = .running by rw [hframe]]
    exact h.line m
  · rw [h.faults k]
    simp only [BitVec.or_assoc]
  · exact hq.trans (hoq ▸ (takeHead_ended hidle hod).queue)
  · have hend := takeHead_ended hidle hod
    rw [hoq] at hend
    cases hsq : s.queue with
    | nil => rw [hsq] at hend; exact he.trans hend.engine
    | cons x rest => rw [hsq] at hend; exact he.trans hend.engine
  · rw [hframe]
    exact ⟨rfl, rfl, rfl, ⟨rfl, rfl, rfl, rfl⟩, ⟨rfl, rfl, rfl, rfl⟩, ⟨rfl, rfl⟩, ⟨rfl, rfl, rfl, rfl⟩, ⟨rfl, rfl⟩⟩

end Sys2Proof.Machine
end

section
/-! The arbiter and the grants that go on without their port (1.7), and that every command ends in a next state. -/

namespace Sys2Proof.Machine

/-! ### What a table command makes of the part does not depend on the ports (R16, R174) -/

/-- The part with other ports. -/
def State.withPorts (s : State) (v : PerPort PortState) : State := { s with ports := v }

/-- An ending on the part with other ports. -/
def Ending.withPorts (e : Ending) (v : PerPort PortState) : Ending :=
  { e with work := { e.work with state := e.work.state.withPorts v } }

theorem insertOrdered_withPorts (s : State) (v : PerPort PortState) (i : SlotNo) (b : Bounds) (l : List SlotNo) :
    insertOrdered (s.withPorts v) i b l = insertOrdered s i b l := by
  induction l with
  | nil => rfl
  | cons j rest ih =>
    have hz : (s.withPorts v).zone j = s.zone j := rfl
    simp only [insertOrdered, hz, ih]

theorem setZoneList_withPorts (s : State) (v : PerPort PortState) (n : Axis) (k : Kind) (l : List SlotNo) :
    (s.withPorts v).setZoneList n k l = (s.setZoneList n k l).withPorts v := by
  cases k <;> rfl

theorem enterList_withPorts (s : State) (v : PerPort PortState) (i : SlotNo) (z : Zone) :
    enterList i z (s.withPorts v) = (enterList i z s).withPorts v := by
  unfold enterList
  rw [insertOrdered_withPorts, setZoneList_withPorts]
  cases z.bounds.kind <;> rfl

theorem leaveList_withPorts (s : State) (v : PerPort PortState) (i : SlotNo) (z : Zone) :
    leaveList i z (s.withPorts v) = (leaveList i z s).withPorts v := by
  unfold leaveList
  rw [setZoneList_withPorts]
  cases z.bounds.kind <;> rfl

theorem moveInLists_withPorts (s : State) (v : PerPort PortState) (i : SlotNo) (z y : Zone) :
    moveInLists i z y (s.withPorts v) = (moveInLists i z y s).withPorts v := by
  unfold moveInLists
  rw [leaveList_withPorts, enterList_withPorts]
  split <;> rfl

theorem restartPass_withPorts (s : State) (v : PerPort PortState) (z : Zone) :
    restartPass z (s.withPorts v) = (restartPass z s).withPorts v := by
  have ha : (s.withPorts v).available = s.available := rfl
  unfold restartPass
  rw [ha, setPassPending_eq, setPassPending_eq]
  split <;> rfl

theorem depart_withPorts (s : State) (v : PerPort PortState) (n : Axis) : depart n (s.withPorts v) = (depart n s).withPorts v := by
  have ht : (s.withPorts v).tracker n = s.tracker n := rfl
  unfold depart
  dsimp only
  rw [ht]
  cases (s.tracker n).sure <;> rfl

theorem axisEffect_withPorts (s : State) (v : PerPort PortState) (n : Axis) (c d : AxisConfig) :
    axisEffect n c d (s.withPorts v) = (axisEffect n c d s).withPorts v := by
  unfold axisEffect resynchronise
  rw [depart_withPorts]
  cases forcesResync c d <;> rfl

theorem releaseSlot_foldl_withPorts (p : Port) (v : PerPort PortState) (l : List SlotNo) (w : Work) (k : Nat) :
    l.foldl (releaseSlot p) ({ w with state := w.state.withPorts v }, k) =
      ({ (l.foldl (releaseSlot p) (w, k)).1 with state := (l.foldl (releaseSlot p) (w, k)).1.state.withPorts v },
        (l.foldl (releaseSlot p) (w, k)).2) := by
  induction l generalizing w k with
  | nil => rfl
  | cons i l ih =>
    have hstep : releaseSlot p ({ w with state := w.state.withPorts v }, k) i =
        ({ (releaseSlot p (w, k) i).1 with state := (releaseSlot p (w, k) i).1.state.withPorts v }, (releaseSlot p (w, k) i).2) := by
      have hz : (w.state.withPorts v).zone i = w.state.zone i := rfl
      unfold releaseSlot
      rw [hz]
      cases w.state.zone i with
      | none => rfl
      | some z => dsimp only; split <;> rfl
    rw [List.foldl_cons, List.foldl_cons, hstep]
    exact ih ..

section
variable (p : Port) (payload : List Byte) (s : State) (v : PerPort PortState)

theorem actCreate_withPorts : actCreate p payload (s.withPorts v) = (actCreate p payload s).withPorts v := by
  unfold actCreate
  cases parseCreate payload with
  | none => rfl
  | some x =>
    have hf : frozenAtLayout (s.withPorts v) = frozenAtLayout s := rfl
    have hq : namesQuarantined x.slot (s.withPorts v) = namesQuarantined x.slot s := rfl
    have hc : firstConflict (s.withPorts v) = firstConflict s := rfl
    have hs : chooseSlot x.slot (s.withPorts v) = chooseSlot x.slot s := rfl
    simp only [hf, hq, hc, hs]
    split_ifs
    · rfl
    · rfl
    · rfl
    · cases firstConflict s x.axis x.bounds x.exclusive none with
      | some h => rfl
      | none =>
        cases chooseSlot x.slot s with
        | error r => rfl
        | ok c =>
          dsimp only [createTaken, Ending.withPorts]
          rw [← enterList_withPorts]
          rfl

theorem amendTaken_withPorts (i : SlotNo) (z y : Zone) :
    amendTaken i z y (s.withPorts v) = (amendTaken i z y s).withPorts v := by
  have ha : (s.withPorts v).available = s.available := rfl
  have hm (x : Zone) : moveInLists i z x ((s.withPorts v).setSlot i (.live x)) = (moveInLists i z x (s.setSlot i (.live x))).withPorts v :=
    moveInLists_withPorts (s.setSlot i (.live x)) v i z x
  have hp (x : Zone) (t : State) : restartPass x (cancelDwell i (t.withPorts v)) = (restartPass x (cancelDwell i t)).withPorts v :=
    restartPass_withPorts (cancelDwell i t) v x
  unfold amendTaken
  dsimp only
  rw [ha, hm, hp]
  cases restartsJudgement z y <;> rfl

theorem retireTaken_withPorts (h : Handle) (z : Zone) : retireTaken p h z (s.withPorts v) = (retireTaken p h z s).withPorts v := by
  have hl : leaveList h.slot z ((s.withPorts v).setSlot h.slot (.vacant z.incarnation)) =
      (leaveList h.slot z (s.setSlot h.slot (.vacant z.incarnation))).withPorts v := leaveList_withPorts (s.setSlot h.slot _) v _ z
  unfold retireTaken
  rw [hl]
  rfl

theorem actAmend_withPorts : actAmend p payload (s.withPorts v) = (actAmend p payload s).withPorts v := by
  unfold actAmend
  cases parseAmend payload with
  | none => rfl
  | some x =>
    have hz : zoneChecks p (frozenAtLayout (s.withPorts v)) x.handle (s.withPorts v) = zoneChecks p (frozenAtLayout s) x.handle s := rfl
    have hc : firstConflict (s.withPorts v) = firstConflict s := rfl
    simp only [hz, hc]
    cases zoneChecks p (frozenAtLayout s) x.handle s with
    | error r => rfl
    | ok z =>
      dsimp only
      split
      · rfl
      · cases x.apply z with
        | none => rfl
        | some y =>
          dsimp only
          split
          · rfl
          · cases firstConflict s y.axis y.bounds y.exclusive (some x.handle.slot) with
            | some h => rfl
            | none =>
              dsimp only
              split
              · rfl
              · exact amendTaken_withPorts ..

/-- The work of a command on a zone, once the zone is found. -/
theorem zoneChecks_withPorts (frozen : Bool) (h : Handle) : zoneChecks p frozen h (s.withPorts v) = zoneChecks p frozen h s := rfl

theorem changedZone_withPorts (i : SlotNo) (z y : Zone) (entered : Bool) :
    changedZone i z y entered (s.withPorts v) = (changedZone i z y entered s).withPorts v := by
  dsimp only [changedZone, Ending.withPorts]
  rw [← restartPass_withPorts]
  rfl

theorem actRetire_withPorts : actRetire p payload (s.withPorts v) = (actRetire p payload s).withPorts v := by
  unfold actRetire
  cases parseHandle payload with
  | none => rfl
  | some h =>
    have hz : zoneChecks p (frozenAtLayout (s.withPorts v)) h (s.withPorts v) = zoneChecks p (frozenAtLayout s) h s := rfl
    simp only [hz]
    cases zoneChecks p (frozenAtLayout s) h s with
    | error r => rfl
    | ok z =>
      dsimp only
      split
      · rfl
      · exact retireTaken_withPorts ..

theorem actArm_withPorts : actArm p payload (s.withPorts v) = (actArm p payload s).withPorts v := by
  unfold actArm
  cases parseHandle payload with
  | none => rfl
  | some h =>
    have hz : zoneChecks p (frozenAtFixed (s.withPorts v)) h (s.withPorts v) = zoneChecks p (frozenAtFixed s) h s := rfl
    simp only [hz, changedZone_withPorts]
    cases zoneChecks p (frozenAtFixed s) h s with
    | error r => rfl
    | ok z => dsimp only; split <;> rfl

theorem actDisarm_withPorts : actDisarm p payload (s.withPorts v) = (actDisarm p payload s).withPorts v := by
  unfold actDisarm
  cases parseHandle payload with
  | none => rfl
  | some h =>
    have hz : zoneChecks p (frozenAtFixed (s.withPorts v)) h (s.withPorts v) = zoneChecks p (frozenAtFixed s) h s := rfl
    simp only [hz, changedZone_withPorts]
    cases zoneChecks p (frozenAtFixed s) h s with
    | error r => rfl
    | ok z => dsimp only; split_ifs <;> rfl

theorem actClear_withPorts : actClear p payload (s.withPorts v) = (actClear p payload s).withPorts v := by
  unfold actClear
  cases parseHandle payload with
  | none => rfl
  | some h =>
    simp only [zoneChecks_withPorts, changedZone_withPorts]
    cases zoneChecks p false h s with
    | error r => rfl
    | ok z => dsimp only; split <;> rfl

theorem actTransfer_withPorts : actTransfer p payload (s.withPorts v) = (actTransfer p payload s).withPorts v := by
  unfold actTransfer
  cases parseTransfer payload with
  | none => rfl
  | some x =>
    have hz : zoneChecks p (frozenAtLayout (s.withPorts v)) x.1 (s.withPorts v) = zoneChecks p (frozenAtLayout s) x.1 s := rfl
    simp only [hz]
    cases zoneChecks p (frozenAtLayout s) x.1 s with
    | error r => rfl
    | ok z => dsimp only; split <;> rfl

theorem actReleaseAll_withPorts : actReleaseAll p payload (s.withPorts v) = (actReleaseAll p payload s).withPorts v := by
  unfold actReleaseAll
  cases parseNothing payload with
  | none => rfl
  | some x =>
    have hf : frozenAtLayout (s.withPorts v) = frozenAtLayout s := rfl
    generalize hslots : allSlots = l
    have hfold := releaseSlot_foldl_withPorts p v l { state := s } 0
    simp only [hf]
    split
    · rfl
    · rw [hfold]
      rfl

theorem actReclaim_withPorts : actReclaim p payload (s.withPorts v) = (actReclaim p payload s).withPorts v := by
  unfold actReclaim
  cases parseSlot payload with
  | none => rfl
  | some i =>
    have hf : frozenAtLayout (s.withPorts v) = frozenAtLayout s := rfl
    have hs : (s.withPorts v).slot i = s.slot i := rfl
    simp only [hf, hs]
    split_ifs <;> rfl

theorem actReadZone_withPorts : actReadZone p payload (s.withPorts v) = (actReadZone p payload s).withPorts v := by
  unfold actReadZone
  cases parseHandle payload with
  | none => rfl
  | some h =>
    have hr : resolve (s.withPorts v) h = resolve s h := rfl
    simp only [hr]
    cases resolve s h <;> rfl

theorem actFind_withPorts : actFind p payload (s.withPorts v) = (actFind p payload s).withPorts v := by
  unfold actFind
  cases parseFind payload <;> rfl

theorem entriesFrom_withPorts (n : Axis) (k : Kind) (c : Cursor) : entriesFrom (s.withPorts v) n k c = entriesFrom s n k c := by
  cases c <;> rfl

theorem actList_withPorts : actList p payload (s.withPorts v) = (actList p payload s).withPorts v := by
  unfold actList
  cases parseList payload with
  | none => rfl
  | some x =>
    simp only [entriesFrom_withPorts]
    cases entriesFrom s x.1 x.2.1 x.2.2 <;> rfl

theorem actSetAxis_withPorts : actSetAxis p payload (s.withPorts v) = (actSetAxis p payload s).withPorts v := by
  unfold actSetAxis
  cases parseSetAxis payload with
  | none => rfl
  | some x =>
    have hf : wiringFrozen (s.withPorts v) = wiringFrozen s := rfl
    have ha (d : AxisConfig) : (s.withPorts v).setAxisConfig x.1 d = (s.setAxisConfig x.1 d).withPorts v := rfl
    simp only [hf, ha, axisEffect_withPorts]
    split <;> rfl

theorem actSetLines_withPorts : actSetLines p payload (s.withPorts v) = (actSetLines p payload s).withPorts v := by
  unfold actSetLines
  cases parseSetLines payload with
  | none => rfl
  | some x =>
    have hf : wiringFrozen (s.withPorts v) = wiringFrozen s := rfl
    simp only [hf]
    split <;> rfl

theorem actSetPorts_withPorts : actSetPorts p payload (s.withPorts v) = (actSetPorts p payload s).withPorts v := by
  unfold actSetPorts
  cases parseSetPorts payload <;> rfl

theorem actFreeze_withPorts : actFreeze p payload (s.withPorts v) = (actFreeze p payload s).withPorts v := by
  unfold actFreeze
  cases parseFreeze payload with
  | none => rfl
  | some l =>
    have hf : (s.withPorts v).freezeLevel = s.freezeLevel := rfl
    simp only [hf]
    split <;> rfl

theorem actReadConfig_withPorts : actReadConfig p payload (s.withPorts v) = (actReadConfig p payload s).withPorts v := by
  unfold actReadConfig
  cases parseConfigItem payload <;> rfl

theorem actOf_withPorts (c : TableCommand) : actOf c p payload (s.withPorts v) = (actOf c p payload s).withPorts v := by
  cases c with
  | create => exact actCreate_withPorts p payload s v
  | amend => exact actAmend_withPorts p payload s v
  | retire => exact actRetire_withPorts p payload s v
  | arm => exact actArm_withPorts p payload s v
  | disarm => exact actDisarm_withPorts p payload s v
  | clear => exact actClear_withPorts p payload s v
  | transfer => exact actTransfer_withPorts p payload s v
  | releaseAll => exact actReleaseAll_withPorts p payload s v
  | reclaim => exact actReclaim_withPorts p payload s v
  | readZone => exact actReadZone_withPorts p payload s v
  | find => exact actFind_withPorts p payload s v
  | list => exact actList_withPorts p payload s v
  | setAxis => exact actSetAxis_withPorts p payload s v
  | setLines => exact actSetLines_withPorts p payload s v
  | setPorts => exact actSetPorts_withPorts p payload s v
  | freeze => exact actFreeze_withPorts p payload s v
  | readConfig => exact actReadConfig_withPorts p payload s v

end

/-! ### Handing over does not depend on a port's slot -/

/-- The part with another slot at one port. -/
def State.withSlot (s : State) (p : Port) (x : CommandSlot) : State := s.setPort p { s.port p with slot := x }

theorem withPorts_withSlot {s u : State} {p : Port} {x : CommandSlot} (h : u.ports = s.ports) :
    u.withPorts (s.withSlot p x).ports = u.withSlot p x := by
  simp only [State.withPorts, State.withSlot, State.setPort, State.port, h]

/-- A response placed in a slot that is then put back as it was. -/
theorem withSlot_back (u : State) (p : Port) (x : CommandSlot) (r : Response) :
    (placeResponse p r (u.withSlot p x)).withSlot p (u.port p).slot = u := by
  cases p <;> rfl

section
variable (s : State) (p : Port) (x : CommandSlot)

theorem enqueueAll_withSlot (ks : List ItemNo) : enqueueAll ks (s.withSlot p x) = (enqueueAll ks s).withSlot p x := by
  induction ks generalizing s with
  | nil => rfl
  | cons k ks ih =>
    have hstep : enqueue k (s.withSlot p x) = (enqueue k s).withSlot p x := by
      have hq : (s.withSlot p x).queue = s.queue := rfl
      unfold enqueue
      rw [hq]
      split <;> rfl
    change enqueueAll ks (enqueue k (s.withSlot p x)) = _
    rw [hstep]
    exact ih _

theorem noticeAt_withSlot (m : Notice) (q : Port) : noticeAt m (s.withSlot p x) q = (noticeAt m s q).withSlot p x := by
  have hc : (s.withSlot p x).portConfig = s.portConfig := rfl
  unfold noticeAt
  rw [hc]
  split
  · cases p <;> cases q <;> rfl
  · rfl

theorem addNotices_withSlot (xs : List Notice) : addNotices xs (s.withSlot p x) = (addNotices xs s).withSlot p x := by
  induction xs generalizing s with
  | nil => rfl
  | cons m xs ih =>
    have hstep : addNotice (s.withSlot p x) m = (addNotice s m).withSlot p x := by
      unfold addNotice
      generalize m.sentTo = ports
      induction ports generalizing s with
      | nil => rfl
      | cons q ports ih' => rw [List.foldl_cons, List.foldl_cons, noticeAt_withSlot]; exact ih' _
    change addNotices xs (addNotice (s.withSlot p x) m) = _
    rw [hstep]
    exact ih _

theorem recompute_withSlot (ls : List LineNo) : recompute ls (s.withSlot p x) = (recompute ls s).withSlot p x := by
  unfold recompute
  induction ls generalizing s with
  | nil => rfl
  | cons l ls ih =>
    rw [List.foldl_cons, List.foldl_cons]
    exact ih (s.setLine l (lineRecordOf s l))

theorem takeHead_withSlot : takeHead (s.withSlot p x) = (takeHead s).withSlot p x := by
  have hd : (s.withSlot p x).device = s.device := rfl
  have he : (s.withSlot p x).engine = s.engine := rfl
  have hq : (s.withSlot p x).queue = s.queue := rfl
  unfold takeHead
  rw [hd, he, hq]
  split <;> rfl

theorem handOver_withSlot (w : Work) :
    handOver { w with state := w.state.withSlot p x } = (handOver w).withSlot p x := by
  unfold handOver
  rw [enqueueAll_withSlot, addNotices_withSlot, recompute_withSlot, takeHead_withSlot]

end

/-! ### A grant whose port was reset while it ran (R16, R174) -/

theorem tableGrant_orphaned {s : State} {p : Port} {c : TableCommand} {payload : List Byte}
    (act : Port → List Byte → State → Ending) (hrun : s.running = some ⟨p, c, payload⟩) :
    tableGrant p c act s = handOver (act p payload (beginGrant p s)).work := by
  simp [tableGrant, granted, hrun]

/-- Settles O14: what the work of a command makes of the part does not depend on the ports' slots, so that only the response
tells the two grants apart. -/
theorem orphanedGrantRunsToItsEnd : Obligations.OrphanedGrantRunsToItsEnd := by
  intro s t p c tag payload x hrun
  dsimp only
  intro hdue ht
  rw [exec_grantOf, tableGrant_due _ hdue] at ht
  rw [exec_grantOf, tableGrant_orphaned _ hrun]
  set e := actOf c p payload (beginGrant p s) with he
  have hports : e.work.state.ports = s.ports := (workLeaves_actOf c p payload (beginGrant p s)).ports
  have hwork : actOf c p payload (beginGrant p (((s.setRunning none).setPointer x).setPort p { s.port p with slot := .queued c tag payload })) =
      { e with work := { e.work with state := e.work.state.withSlot p (.queued c tag payload) } } := by
    rw [← withPorts_withSlot hports]
    exact actOf_withPorts p payload (beginGrant p s) (s.withSlot p (.queued c tag payload)).ports c
  rw [hwork] at ht
  dsimp only at ht
  rw [handOver_withSlot] at ht
  have hslot : ((handOver e.work).port p).slot = (s.port p).slot := by
    rw [(handedOver e.work).ports p]
    change (e.work.state.ports.get p).slot = _
    rw [hports]
    rfl
  cases ht
  generalize handOver e.work = u at hslot
  rw [← hslot]
  exact congrArg Host.Outcome.next (withSlot_back u p _ _).symm

/-! ### The rotation of the arbiter (R14, R15) -/

/-- A class that stands before another in the rotation has its turn sooner. -/
theorem turnsUntil_pairwise (p : Claimant) : (rotationFrom p).Pairwise fun x y => turnsUntil p x ≤ turnsUntil p y := by
  cases p <;> decide

theorem mem_rotationFrom (p x : Claimant) : x ∈ rotationFrom p := by
  cases p <;> cases x <;> decide

theorem turnsUntil_le_four (p x : Claimant) : turnsUntil p x ≤ 4 := by
  cases p <;> cases x <;> decide

theorem turnsUntil_lt_of_le {p x y : Claimant} (h : turnsUntil p x ≤ turnsUntil p y) (hne : y ≠ x) :
    turnsUntil x y < turnsUntil p y := by
  revert h hne
  cases p <;> cases x <;> cases y <;> decide

theorem find?_least {α : Type} {r : α → α → Prop} (hr : ∀ x, r x x) {l : List α} {f : α → Bool} {x y : α} (hl : l.Pairwise r)
    (hx : l.find? f = some x) (hy : y ∈ l) (hfy : f y = true) : r x y := by
  induction hl with
  | nil => cases hy
  | cons hhead _ ih =>
    rw [List.find?_cons] at hx
    split at hx
    · cases hx
      rcases List.mem_cons.mp hy with rfl | hy
      · exact hr _
      · exact hhead _ hy
    · next hf =>
      rcases List.mem_cons.mp hy with rfl | hy
      · rw [hfy] at hf
        cases hf
      · exact ih hx hy

theorem nextClass_waits {s : State} {x : Claimant} (h : nextClass s = some x) :
    claimWaits s x = true ∧ ∀ y, claimWaits s y = true → turnsUntil s.pointer x ≤ turnsUntil s.pointer y := by
  unfold nextClass at h
  split at h
  · exact ⟨List.find?_some h, fun y hy =>
      find?_least (r := fun x y => turnsUntil s.pointer x ≤ turnsUntil s.pointer y) (fun _ => le_rfl) (turnsUntil_pairwise s.pointer) h (mem_rotationFrom s.pointer y) hy⟩
  · cases h

theorem nextClass_eq_none_iff {s : State} (hd : s.device = .running) (hheld : s.held = false) (hrun : s.running = none) :
    nextClass s = none ↔ ∀ y, claimWaits s y = false := by
  have hservice : (s.inService && s.running.isNone) = true := by simp [State.inService, hd, hheld, hrun]
  unfold nextClass
  rw [if_pos hservice, List.find?_eq_none]
  exact ⟨fun h y => by simpa using h y (mem_rotationFrom _ y), fun h y _ => by simp [h y]⟩

/-- Settles O15: the rotation lists the classes in the order of their turns. -/
theorem arbiterRotates : Obligations.ArbiterRotates :=
  ⟨fun _ _ h => have ⟨hd, _, hrun⟩ := nextClass_eq_some_service h
    ⟨(nextClass_waits h).1, hd, hrun, (nextClass_waits h).2⟩,
   fun _ hd hheld hrun => nextClass_eq_none_iff hd hheld hrun,
   fun _ _ _ h hy hne => ⟨turnsUntil_lt_of_le ((nextClass_waits h).2 _ hy) hne, turnsUntil_le_four _ _⟩⟩

/-! ### What waits behind a command is left alone (log entries 1 and 20) -/

theorem foldl_pending {α : Type} {f : State → α → State} (hf : ∀ s x, (f s x).pending = s.pending) (l : List α) (s : State) :
    (l.foldl f s).pending = s.pending := by
  induction l generalizing s with
  | nil => rfl
  | cons x l ih => rw [List.foldl_cons, ih, hf]

theorem foldl_work_pending {α : Type} {f : Work → α → Work} (hf : ∀ w x, (f w x).state.pending = w.state.pending) (l : List α)
    (w : Work) : (l.foldl f w).state.pending = w.state.pending := by
  induction l generalizing w with
  | nil => rfl
  | cons x l ih => rw [List.foldl_cons, ih, hf]

section
variable (s : State)

@[simp] theorem enqueue_pending (k : ItemNo) : (enqueue k s).pending = s.pending := by
  unfold enqueue
  split <;> simp

@[simp] theorem takeHead_pending : (takeHead s).pending = s.pending := by
  unfold takeHead
  split <;> simp

@[simp] theorem raiseBoth_pending (x : Flag) : (raiseBoth x s).pending = s.pending := rfl

@[simp] theorem placeResponse_pending (p : Port) (r : Response) : (placeResponse p r s).pending = s.pending := rfl

@[simp] theorem answer_pending (p : Port) (c : LocalCommand) (tag : Byte) (r : Result) (payload : List Byte) :
    (answer p c tag r payload s).pending = s.pending := rfl

@[simp] theorem setPassPending_pending (n : Axis) : (setPassPending n s).pending = s.pending := by
  unfold setPassPending
  split <;> simp

@[simp] theorem serveArray_pending : (serveArray s).pending = s.pending := by
  unfold serveArray beginProgram beginSweepRead
  split
  · split
    · simp
    · simp
    · split
      · split <;> simp
      · rfl
  · rfl

@[simp] theorem markAll_pending (p : Port) (v : Bool) : (markAll p v s).pending = s.pending := rfl

@[simp] theorem completeSync_pending (p : Port) : (completeSync p s).pending = s.pending := by
  unfold completeSync
  dsimp only
  split
  · split <;> rfl
  · rfl

@[simp] theorem afterCommit_pending : (afterCommit s).pending = s.pending := by
  simp [afterCommit, completeSyncs]

@[simp] theorem dropCommit_pending (m : Marks) : (dropCommit m s).pending = s.pending := by
  have hcount (p : Port) (t : State) : (countDrop p m t).pending = t.pending := by
    unfold countDrop
    dsimp only
    split <;> rfl
  simp [dropCommit, hcount]

/-! The axes -/

@[simp] theorem depart_pending (n : Axis) : (depart n s).pending = s.pending := by
  unfold depart
  dsimp only
  split <;> rfl

@[simp] theorem becomeSure_pending (n : Axis) (t : Tracker) : (becomeSure n t s).pending = s.pending := rfl

@[simp] theorem enterLost_pending (n : Axis) (c : LostCause) : (enterLost n c s).pending = s.pending := by
  simp [enterLost]

@[simp] theorem resynchronise_pending (n : Axis) (x : TrackerState) (turn : Option Turn) (forget : Bool) :
    (resynchronise n x turn forget s).pending = s.pending := by
  simp [resynchronise]

@[simp] theorem requestPass_pending (n : Axis) : (requestPass n s).pending = s.pending := by
  unfold requestPass
  split <;> simp

theorem judgePassed_pending (n : Axis) (sequence : BitVec 4) (angle : Angle) : (judgePassed n sequence angle s).pending = s.pending := by
  unfold judgePassed
  split
  · rfl
  · simp [acquire]
  · unfold follow
    dsimp only
    split
    · split
      · split <;> simp
      · simp
    · split <;> simp
  · unfold recover
    dsimp only
    split
    · split
      · split <;> simp
      · simp
    · simp
  · rfl

@[simp] theorem judgeSample_pending (n : Axis) (bits : Nat) (word : BitVec 32) : (judgeSample n bits word s).pending = s.pending := by
  unfold judgeSample
  dsimp only
  split
  · split
    · rw [judgePassed_pending]
      split <;> simp
    · simp
  · simp

/-! The grants -/

@[simp] theorem handOver_pending (w : Work) : (handOver w).pending = w.state.pending := (handedOver w).pending

theorem tableGrant_pending (p : Port) (c : TableCommand) : (tableGrant p c (actOf c) s).pending = s.pending := by
  have hwork (payload : List Byte) : (actOf c p payload (beginGrant p s)).work.state.pending = s.pending :=
    (workLeaves_actOf c p payload (beginGrant p s)).pending
  unfold tableGrant
  split
  · split
    · dsimp only
      split <;> simp [hwork]
    · rfl
  · rfl

theorem evaluatorGrant_pending (w : WorkItem) {act : State → Work} (hact : ∀ t, (act t).state.pending = t.pending) :
    (evaluatorGrant w act s).pending = s.pending := by
  unfold evaluatorGrant
  split <;> simp [hact]

theorem passWork_pending (n : Axis) : (passWork n s).state.pending = s.pending := by
  have hvisit (x : SweptSpan) (w : Work) (i : SlotNo) : (visit x w i).state.pending = w.state.pending := by
    unfold visit
    split
    · split
      · dsimp only [TimerAction.act]
        split <;> simp [changeZone, cancelDwell]
      · rfl
    · rfl
  unfold passWork
  dsimp only
  split
  · split
    · simp [foldl_work_pending (hvisit _)]
    · simp
  · simp

theorem expiryWork_pending (i : SlotNo) : (expiryWork i s).state.pending = s.pending := by
  unfold expiryWork
  dsimp only
  split
  · split <;> rfl
  · rfl

theorem settleAxis_pending (n : Axis) (f : Zone → Occupancy) : (settleAxis n f s).state.pending = s.pending := by
  have hsettle (w : Work) (i : SlotNo) : (settle n f w i).state.pending = w.state.pending := by
    unfold settle
    split
    · split <;> rfl
    · rfl
  unfold settleAxis
  rw [foldl_work_pending hsettle]

theorem unsureWork_pending (n : Axis) : (unsureWork n s).state.pending = s.pending := by
  unfold unsureWork
  dsimp only
  rw [settleAxis_pending]
  simp [takeCondition]

theorem sureWork_pending (n : Axis) : (sureWork n s).state.pending = s.pending := by
  rw [sureWork, settleAxis_pending]
  simp [takeCondition]

/-! The ports -/

theorem occupy_pending (p : Port) (payload : List Byte) {serve : State → State} (hserve : ∀ t, (serve t).pending = t.pending) :
    (occupy p payload serve s).pending = s.pending := by
  unfold occupy
  split
  · rfl
  · dsimp only
    split
    · rw [hserve]; rfl
    · rfl

theorem withoutArguments_pending (p : Port) (c : LocalCommand) (tag : Byte) (payload : List Byte) {serve : State → State}
    (hserve : ∀ t, (serve t).pending = t.pending) : (withoutArguments p c tag payload serve s).pending = s.pending := by
  cases payload with
  | nil => exact hserve s
  | cons => rfl

theorem whenRunning_pending (p : Port) (c : LocalCommand) (tag : Byte) {serve : State → State}
    (hserve : ∀ t, (serve t).pending = t.pending) : (whenRunning p c tag serve s).pending = s.pending := by
  unfold whenRunning
  split
  · rfl
  · exact hserve s

theorem acceptTable_pending (p : Port) (c : TableCommand) (tag : Byte) (payload : List Byte) :
    (acceptTable p c tag payload s).pending = s.pending := by
  unfold acceptTable
  split <;> rfl

theorem serveAxisStatus_pending (p : Port) (tag : Byte) (payload : List Byte) : (serveAxisStatus p tag payload s).pending = s.pending := by
  unfold serveAxisStatus
  split <;> rfl

theorem serveSweepStart_pending (p : Port) (tag : Byte) (payload : List Byte) :
    (serveSweepStart p tag payload s).pending = s.pending := by
  unfold serveSweepStart
  split
  · rfl
  · split <;> simp

theorem serveSweepStop_pending (p : Port) (tag : Byte) : (serveSweepStop p tag s).pending = s.pending := by
  unfold serveSweepStop
  split <;> rfl

theorem serveSync_pending (p : Port) (tag : Byte) : (serveSync p tag s).pending = s.pending := by
  unfold serveSync
  split <;> rfl

theorem serveResync_pending (p : Port) (tag : Byte) (payload : List Byte) (m : Moment) :
    (serveResync p tag payload m s).pending = s.pending := by
  unfold serveResync
  split
  · rfl
  · split <;> simp

/-! The load and the store -/

theorem loadItem_pending (k : ItemNo) (d : Decision) : (loadItem k d s).pending = s.pending := by
  unfold loadItem
  split
  · split
    · unfold loadContent
      split <;> rfl
    · rfl
  · unfold loadNothing
    split
    · rfl
    · rfl
    · rfl
    · rfl
    · split <;> rfl

theorem loadRow_pending (r : RowNo) : (loadRow r s).pending = s.pending := by
  have hdecide (c₀ c₁ : CopyRead) (t : State) : (decide2 (itemOfRow r) c₀ c₁ t).pending = t.pending := by
    unfold decide2
    dsimp only
    split <;> simp [loadItem_pending]
  unfold loadRow
  dsimp only
  split
  · rfl
  · rw [hdecide]; rfl

theorem moveToRunning_pending : (moveToRunning s).pending = s.pending := by
  have henter (i : SlotNo) (z : Zone) (t : State) : (enterList i z t).pending = t.pending := by
    obtain ⟨_, _, h⟩ := enterList_frame i z t
    rw [h]
  have hleave (i : SlotNo) (z : Zone) (t : State) : (leaveList i z t).pending = t.pending := by
    obtain ⟨_, _, h⟩ := leaveList_frame i z t
    rw [h]
  have hlists : (buildLists s).pending = s.pending := by
    unfold buildLists
    rw [foldl_pending (fun t i => ?_), foldl_pending (fun t i => ?_)]
    · unfold listSlot
      split
      · exact henter ..
      · rfl
    · unfold keepOrQuarantine
      split
      · split
        · rw [State.setSlot_pending, hleave]
        · rfl
      · rfl
  have htrackers (t : State) : (allAxes.foldl startTracker t).pending = t.pending := by
    refine foldl_pending (fun t n => ?_) allAxes t
    unfold startTracker
    split <;> rfl
  have hlines (ls : List LineNo) (t : State) : (recompute ls t).pending = t.pending :=
    foldl_pending (fun u l => State.setLine_pending u l _) ls t
  have hnotices (xs : List Notice) (t : State) : (addNotices xs t).pending = t.pending := by
    obtain ⟨_, _, h⟩ := addNotices_eq xs t
    rw [h]
    rfl
  have hflags (t : State) : (loadFlags t).pending = t.pending := by
    unfold loadFlags
    dsimp only
    split_ifs <;> simp
  unfold moveToRunning
  dsimp only
  rw [takeHead_pending, hflags, hnotices, hlines, htrackers, State.setDevice_pending, hlists]

theorem storeWork_pending (k : ItemNo) (m : Marks) : (storeWork k m s).pending = s.pending := by
  unfold storeWork startProgram
  split
  · simp
  · split <;> simp

theorem commitSucceeds_pending (x : Program) : (commitSucceeds x s).pending = s.pending := by
  obtain ⟨_, h⟩ := commitFreeze_frame x ((s.setRow (rowOf x.item x.target) (.clean x.image)).setItem x.item
    ((s.item x.item).committed x.target x.generation))
  simp [commitSucceeds, releaseArray, h]

theorem commitFails_pending (x : Program) : (commitFails x s).pending = s.pending := by
  have hrequeue (t : State) : (requeue x.item x.marks t).pending = t.pending := by
    unfold requeue
    split <;> rfl
  unfold commitFails releaseArray
  dsimp only
  split
  · split <;> simp
  · simp [hrequeue]

theorem judgeRead_pending (r : RowNo) : (judgeRead r s).pending = s.pending := by
  have hmark (t : State) : (markFaulty r t).pending = t.pending := by
    unfold markFaulty
    dsimp only
    split <;> simp
  have hask (t : State) : (askNext t).pending = t.pending := by
    unfold askNext
    split <;> rfl
  unfold judgeRead applyFinding
  dsimp only
  rw [hask]
  split <;> simp [hmark]

end

/-- Settles O2: no command has an outcome other than a next state, and none writes the queue of commands. -/
theorem everyCommandAnswers : Obligations.EveryCommandAnswers := by
  intro c s
  cases c with
  | fullReset cause tear => cases cause <;> exact ⟨_, rfl, rfl⟩
  | holdEnd =>
    change ∃ t, execHoldEnd s = .next t ∧ _
    unfold execHoldEnd
    split <;> exact ⟨_, rfl, rfl⟩
  | loadRowRead d =>
    change ∃ t, execLoadRowRead d s = .next t ∧ _
    unfold execLoadRowRead
    split
    · split
      · exact ⟨_, rfl, loadRow_pending ..⟩
      · exact ⟨_, rfl, rfl⟩
    · exact ⟨_, rfl, rfl⟩
  | moveToRunning =>
    change ∃ t, execMoveToRunning s = .next t ∧ _
    unfold execMoveToRunning
    split
    · exact ⟨_, rfl, moveToRunning_pending s⟩
    · exact ⟨_, rfl, rfl⟩
  | refusedFormat p bytes =>
    change ∃ t, execRefusedFormat p bytes s = .next t ∧ _
    unfold execRefusedFormat
    split <;> exact ⟨_, rfl, rfl⟩
  | unknownCommand p code tag payload =>
    change ∃ t, execUnknownCommand p code tag payload s = .next t ∧ _
    unfold execUnknownCommand
    split
    · exact ⟨_, rfl, rfl⟩
    · exact ⟨_, rfl, occupy_pending s p payload fun _ => rfl⟩
  | nop p tag =>
    change ∃ t, execNop p tag s = .next t ∧ _
    unfold execNop
    split <;> exact ⟨_, rfl, rfl⟩
  | fetch p tag moment =>
    change ∃ t, execFetch p tag moment s = .next t ∧ _
    unfold execFetch
    split
    · exact ⟨_, rfl, rfl⟩
    · cases moment with
      | opens => refine ⟨_, rfl, ?_⟩; unfold openTransaction; split <;> rfl
      | recognised => refine ⟨_, rfl, ?_⟩; unfold recogniseFetch; dsimp only; split <;> rfl
      | ends clocked => refine ⟨_, rfl, ?_⟩; unfold endFetch; dsimp only; split <;> rfl
  | portReset p tag duringGrant =>
    have horphan : (orphanGrant p s).pending = s.pending := by
      unfold orphanGrant
      split
      · split <;> rfl
      · rfl
    change ∃ t, execPortReset p tag duringGrant s = .next t ∧ _
    unfold execPortReset
    split
    · refine ⟨_, rfl, ?_⟩
      rw [State.setPort_pending, markAll_pending]
      cases duringGrant
      · rfl
      · exact horphan
    · exact ⟨_, rfl, rfl⟩
  | restart p tag tear =>
    change ∃ t, execRestart p tag tear s = .next t ∧ _
    unfold execRestart
    split <;> exact ⟨_, rfl, rfl⟩
  | tableCommandAccept p command tag payload => exact ⟨_, rfl, occupy_pending s p payload fun t => acceptTable_pending t ..⟩
  | create p => exact ⟨_, rfl, tableGrant_pending s p .create⟩
  | amend p => exact ⟨_, rfl, tableGrant_pending s p .amend⟩
  | retire p => exact ⟨_, rfl, tableGrant_pending s p .retire⟩
  | arm p => exact ⟨_, rfl, tableGrant_pending s p .arm⟩
  | disarm p => exact ⟨_, rfl, tableGrant_pending s p .disarm⟩
  | clear p => exact ⟨_, rfl, tableGrant_pending s p .clear⟩
  | transfer p => exact ⟨_, rfl, tableGrant_pending s p .transfer⟩
  | releaseAll p => exact ⟨_, rfl, tableGrant_pending s p .releaseAll⟩
  | reclaim p => exact ⟨_, rfl, tableGrant_pending s p .reclaim⟩
  | readZone p => exact ⟨_, rfl, tableGrant_pending s p .readZone⟩
  | find p => exact ⟨_, rfl, tableGrant_pending s p .find⟩
  | list p => exact ⟨_, rfl, tableGrant_pending s p .list⟩
  | setAxis p => exact ⟨_, rfl, tableGrant_pending s p .setAxis⟩
  | setLines p => exact ⟨_, rfl, tableGrant_pending s p .setLines⟩
  | setPorts p => exact ⟨_, rfl, tableGrant_pending s p .setPorts⟩
  | freeze p => exact ⟨_, rfl, tableGrant_pending s p .freeze⟩
  | readConfig p => exact ⟨_, rfl, tableGrant_pending s p .readConfig⟩
  | takeChanges p tag payload =>
    exact ⟨_, rfl, occupy_pending s p payload fun t => withoutArguments_pending t p _ tag payload fun _ => rfl⟩
  | readFaults p tag payload =>
    exact ⟨_, rfl, occupy_pending s p payload fun t => withoutArguments_pending t p _ tag payload fun _ => rfl⟩
  | axisStatus p tag payload => exact ⟨_, rfl, occupy_pending s p payload fun t => serveAxisStatus_pending t ..⟩
  | lineStatus p tag payload =>
    exact ⟨_, rfl, occupy_pending s p payload fun t => withoutArguments_pending t p _ tag payload fun _ => rfl⟩
  | deviceStatus p tag payload =>
    exact ⟨_, rfl, occupy_pending s p payload fun t => withoutArguments_pending t p _ tag payload fun _ => rfl⟩
  | sweepStart p tag payload =>
    exact ⟨_, rfl, occupy_pending s p payload fun t => whenRunning_pending t p _ tag fun u => serveSweepStart_pending u ..⟩
  | sweepStop p tag payload =>
    exact ⟨_, rfl, occupy_pending s p payload fun t => withoutArguments_pending t p _ tag payload fun u => serveSweepStop_pending u ..⟩
  | sweepStatus p tag payload =>
    exact ⟨_, rfl, occupy_pending s p payload fun t => withoutArguments_pending t p _ tag payload fun _ => rfl⟩
  | sync p tag payload =>
    exact ⟨_, rfl, occupy_pending s p payload fun t =>
      whenRunning_pending t p _ tag fun u => withoutArguments_pending u p _ tag payload fun v => serveSync_pending v ..⟩
  | resync p tag payload moment =>
    exact ⟨_, rfl, occupy_pending s p payload fun t => whenRunning_pending t p _ tag fun u => serveResync_pending u ..⟩
  | sampleFrame lane bits word straddles moment =>
    change ∃ t, execSampleFrame lane bits word straddles moment s = .next t ∧ _
    unfold execSampleFrame
    split
    · exact ⟨_, rfl, by simp⟩
    · exact ⟨_, rfl, rfl⟩
  | stalenessExpiry axis moment =>
    change ∃ t, execStalenessExpiry axis moment s = .next t ∧ _
    unfold execStalenessExpiry
    split
    · exact ⟨_, rfl, by simp⟩
    · exact ⟨_, rfl, rfl⟩
  | pass axis => exact ⟨_, rfl, evaluatorGrant_pending s _ fun t => passWork_pending t axis⟩
  | dwellTimerExpiry slot moment =>
    change ∃ t, execDwellTimerExpiry slot moment s = .next t ∧ _
    unfold execDwellTimerExpiry
    split
    · split
      · exact ⟨_, rfl, by simp⟩
      · exact ⟨_, rfl, rfl⟩
    · exact ⟨_, rfl, rfl⟩
  | dwellExpiry slot => exact ⟨_, rfl, evaluatorGrant_pending s _ fun t => expiryWork_pending t slot⟩
  | axisUnsure axis => exact ⟨_, rfl, evaluatorGrant_pending s _ fun t => unsureWork_pending t axis⟩
  | axisSure axis => exact ⟨_, rfl, evaluatorGrant_pending s _ fun t => sureWork_pending t axis⟩
  | storeGrant =>
    change ∃ t, execStoreGrant s = .next t ∧ _
    unfold execStoreGrant
    split
    · split
      · exact ⟨_, rfl, by rw [storeWork_pending]; rfl⟩
      · exact ⟨_, rfl, rfl⟩
    · exact ⟨_, rfl, rfl⟩
  | programVerify read =>
    change ∃ t, execProgramVerify read s = .next t ∧ _
    unfold execProgramVerify
    split
    · split
      · refine ⟨_, rfl, ?_⟩
        split
        · exact commitSucceeds_pending ..
        · simp [retryProgram]
      · refine ⟨_, rfl, ?_⟩
        split
        · exact commitSucceeds_pending ..
        · exact commitFails_pending ..
      · exact ⟨_, rfl, rfl⟩
    · exact ⟨_, rfl, rfl⟩
  | sweepRead decay =>
    change ∃ t, execSweepRead decay s = .next t ∧ _
    unfold execSweepRead
    split
    · refine ⟨_, rfl, ?_⟩
      rw [takeHead_pending, serveArray_pending]
      split
      · rw [judgeRead_pending]; rfl
      · rfl
    · exact ⟨_, rfl, rfl⟩

end Sys2Proof.Machine
end

section
/-! What every state of a run satisfies, part by part: what each part of `Good` depends on, and that handing over the
consequences of a piece of work keeps it (chapters 1 to 8). -/

namespace Sys2Proof.Machine

/-! ### Slots with their dwell timers (R4, R5, R7, R77, R90) -/

/-- A dwell timer is held exactly by a QUALIFYING zone, and is its own and of its dwell (R90). -/
structure TimerOk (z : Zone) (d : Option DwellTimer) : Prop where
  held : d.isSome = true ↔ z.occupancy = .qualifying
  own : ∀ x, d = some x → x.incarnation = z.incarnation ∧ x.length = z.dwell

/-- A slot and its dwell timer are as the rules let them be. -/
def SlotOk (zone : Option Zone) (d : Option DwellTimer) : Prop :=
  (∀ z, zone = some z → ZoneOk z ∧ TimerOk z d) ∧ (zone = none → d = none)

theorem slotOk_none : SlotOk none none := ⟨fun _ h => (Option.some_ne_none _ h.symm).elim, fun _ => rfl⟩

theorem slotOk_some {z : Zone} {d : Option DwellTimer} : SlotOk (some z) d ↔ ZoneOk z ∧ TimerOk z d :=
  ⟨fun h => h.1 z rfl, fun h => ⟨fun y e => by cases e; exact h, nofun⟩⟩

theorem zonesOk_and_dwellsOk_iff {s : State} : ZonesOk s ∧ DwellsOk s ↔ ∀ i, SlotOk (s.zone i) (s.dwell i) :=
  ⟨fun h i => ⟨fun z hz => ⟨h.1 i z hz, h.2.held i z hz, fun x hx => h.2.own i z x hz hx⟩, h.2.empty i⟩,
   fun h => ⟨fun i z hz => ((h i).1 z hz).1, fun i z hz => ((h i).1 z hz).2.held, fun i hz => (h i).2 hz,
    fun i z d hz hd => ((h i).1 z hz).2.own d hd⟩⟩

theorem Good.slot {s : State} (h : Good s) (i : SlotNo) : SlotOk (s.zone i) (s.dwell i) :=
  zonesOk_and_dwellsOk_iff.mp ⟨h.zones, h.dwells⟩ i

theorem timerOk_none {z : Zone} (h : z.occupancy ≠ .qualifying) : TimerOk z none :=
  ⟨by simpa using h, nofun⟩

/-! ### Lines (R100 to R103) -/

/-- What a line's record takes of a zone that drives it: the incarnation of its handle and its priority (R102). -/
def drivenBy (zone : Option Zone) (l : LineNo) : Option (Byte × BitVec 4) :=
  zone.bind fun z => if drives z l then some (z.incarnation, z.priority) else none

/-- What a line's record takes of its driving set. -/
def drivingKeys (s : State) (l : LineNo) : List (SlotNo × Byte × BitVec 4) :=
  allSlots.filterMap fun i => (drivenBy (s.zone i) l).map fun x => (i, x)

theorem drivingKeys_eq (s : State) (l : LineNo) :
    drivingKeys s l = (drivingSet s l).map fun x => (x.1, x.2.incarnation, x.2.priority) := by
  rw [drivingKeys, drivingSet, List.map_filterMap]
  refine congrFun (congrArg List.filterMap (funext fun i => ?_)) allSlots
  unfold drivenBy
  cases s.zone i with
  | none => rfl
  | some z =>
    simp only [Option.bind_some]
    split <;> rfl

/-- The highest priority among the keys of a driving set. -/
def highestKey : List (SlotNo × Byte × BitVec 4) → Option (SlotNo × Byte × BitVec 4)
  | [] => none
  | x :: rest =>
    match highestKey rest with
    | some y => if x.2.2 < y.2.2 then some y else some x
    | none => some x

theorem highestKey_map (l : List (SlotNo × Zone)) :
    highestKey (l.map fun x => (x.1, x.2.incarnation, x.2.priority)) =
      (highestPriority l).map fun x => (x.1, x.2.incarnation, x.2.priority) := by
  induction l with
  | nil => rfl
  | cons x l ih =>
    rw [List.map_cons, highestKey, highestPriority, ih]
    cases highestPriority l with
    | none => rfl
    | some y =>
      dsimp only [Option.map_some]
      split <;> rfl

theorem lineRecordOf_of_keys {s t : State} {l : LineNo} (hk : drivingKeys t l = drivingKeys s l)
    (hc : t.lineConfig = s.lineConfig) : lineRecordOf t l = lineRecordOf s l := by
  have hlength (u : State) : (drivingSet u l).length = (drivingKeys u l).length := by
    rw [drivingKeys_eq, List.length_map]
  have hempty (u : State) : (drivingSet u l).isEmpty = (drivingKeys u l).isEmpty := by
    rw [drivingKeys_eq]; cases drivingSet u l <;> rfl
  have hhighest (u : State) : (highestPriority (drivingSet u l)).map (fun x => handleAt x.1 x.2) =
      (highestKey (drivingKeys u l)).map fun x => ⟨x.1, x.2.1⟩ := by
    rw [drivingKeys_eq, highestKey_map, Option.map_map]
    rfl
  simp only [lineRecordOf, hlength, hempty, hhighest, hk, hc]

theorem lineRecordOf_of_driven {s t : State} {l : LineNo} (h : ∀ i, drivenBy (t.zone i) l = drivenBy (s.zone i) l)
    (hc : t.lineConfig = s.lineConfig) : lineRecordOf t l = lineRecordOf s l :=
  lineRecordOf_of_keys (by simp only [drivingKeys, h]) hc

/-- A zone drives no line but its own. -/
theorem drivenBy_eq_none {zone : Option Zone} {l : LineNo} (h : ∀ z, zone = some z → l ∉ linesOf z) : drivenBy zone l = none := by
  cases zone with
  | none => rfl
  | some z =>
    have hl := h z rfl
    have : drives z l = false := by
      unfold drives
      rw [Bool.and_eq_false_iff, decide_eq_false_iff_not]
      exact .inl fun e => hl (by simp [linesOf, e])
    simp [drivenBy, this]

theorem drivenBy_congr {z y : Zone} (hline : y.line = z.line) (hactive : y.occupancy.active = z.occupancy.active)
    (hinc : y.incarnation = z.incarnation) (hprio : y.priority = z.priority) (l : LineNo) : drivenBy (some y) l = drivenBy (some z) l := by
  have hd : drives y l = drives z l := by simp only [drives, hline, hactive]
  simp only [drivenBy, Option.bind_some, hd, hinc, hprio]

theorem linesOk_running {s : State} (hd : s.device = .running) : LinesOk s ↔ ∀ l, s.line l = lineRecordOf s l := by
  refine ⟨fun h l => h.line_eq hd l, fun h l => ?_⟩
  rw [hd]
  exact h l

theorem linesOk_starting {s : State} (hd : s.device = .starting) : LinesOk s ↔ ∀ l, s.line l = LineRecord.reset := by
  refine ⟨fun h l => ?_, fun h l => ?_⟩
  · have := h l
    rw [hd] at this
    exact this
  · rw [hd]
    exact h l

theorem LinesOk.congr {s t : State} (h : LinesOk s) (hd : t.device = s.device) (hs : t.slots = s.slots)
    (hc : t.lineConfig = s.lineConfig) (hl : t.lines = s.lines) : LinesOk t := by
  have hline (l : LineNo) : t.line l = s.line l := by simp only [State.line, hl]
  cases hdev : s.device with
  | starting =>
    rw [linesOk_starting (hd.trans hdev)]
    intro l
    rw [hline]
    exact (linesOk_starting hdev).mp h l
  | running =>
    rw [linesOk_running (hd.trans hdev)]
    intro l
    rw [hline, lineRecordOf_congr hs hc]
    exact (linesOk_running hdev).mp h l

/-! ### What the other parts depend on -/

theorem RangesOk.congr {s t : State} (h : RangesOk s) (ha : t.axes = s.axes) : RangesOk t := by
  intro n
  have := h n
  simp only [State.axisConfig, ha] at this ⊢
  exact this

theorem ZonesOk.congr {s t : State} (h : ZonesOk s) (hs : t.slots = s.slots) : ZonesOk t := by
  intro i z hz
  exact h i z (by simpa only [State.zone, hs] using hz)

theorem DwellsOk.congr {s t : State} (h : DwellsOk s) (hs : t.slots = s.slots) (hd : t.dwells = s.dwells) : DwellsOk t := by
  have hz (i : SlotNo) : t.zone i = s.zone i := by simp only [State.zone, hs]
  have hdw (i : SlotNo) : t.dwell i = s.dwell i := by simp only [State.dwell, hd]
  refine ⟨fun i z => ?_, fun i => ?_, fun i z d => ?_⟩
  · rw [hz, hdw]; exact h.held i z
  · rw [hz, hdw]; exact h.empty i
  · rw [hz, hdw]; exact h.own i z d

/-- An axis depends on its record, its tracker, its conditions, its pass and its copy, and on the device state; its pass may
go, and may come where the table's copy says that the axis has a position (R79). -/
theorem AxisOk.congr {s t : State} {n : Axis} (h : AxisOk s n) (hd : t.device = s.device) (hc : t.axisConfig n = s.axisConfig n)
    (ht : t.tracker n = s.tracker n) (ha : t.available[n] = s.available[n]) (hk : t.pendingConditions n = s.pendingConditions n)
    (hp : (t.pendingPass n).isSome = true → (s.pendingPass n).isSome = true ∨ s.available[n] = true) (hn : s.now ≤ t.now) :
    AxisOk t n := by
  refine ⟨?_, ?_, ?_, ?_, ?_, ?_⟩
  · rw [hc, ht]; exact h.tracker
  · rw [ha, ht, hk]; exact h.conditions
  · rw [ha]; exact fun hs => (hp hs).elim h.pass id
  · rw [hk]; exact fun c hm => (h.dated c hm).trans hn
  · rw [hk]; exact h.posting
  · rw [hd, ht, ha]; exact h.starting

theorem AxesOk.congr {s t : State} (h : AxesOk s) (hd : t.device = s.device) (hc : t.axes = s.axes) (ht : t.trackers = s.trackers)
    (he : SameEvaluator s t) (hn : s.now ≤ t.now) : AxesOk t := fun n =>
  (h n).congr hd (by simp only [State.axisConfig, hc]) (by simp only [State.tracker, ht]) (by rw [he.available])
    (by simp only [State.pendingConditions, he.conditions]) (by simp only [State.pendingPass, he.passes]; exact .inl) hn

theorem StoreOk.congr {s t : State} (h : StoreOk s) (hd : t.device = s.device) (hq : SameQueue s t) (ha : t.array = s.array) :
    StoreOk t :=
  ⟨by rw [hq.queue]; exact h.once, by rw [hd, hq.queue, hq.engine]; exact h.takes, by rw [ha, hq.engine]; exact h.program,
    by rw [ha, hq.engine]; exact h.waits, by rw [ha, hq.engine]; exact h.retry, by rw [ha, hd, hq.engine]; exact h.starting⟩

theorem WearOk.congr {s t : State} (h : WearOk s) (hr : SameRows s t) : WearOk t := by
  have hrow (r : RowNo) : t.row r = s.row r := by simp only [State.row, hr.rows]
  have hworn (r : RowNo) : t.worn r = s.worn r := by simp only [State.worn, hr.wear]
  have hitem (k : ItemNo) : t.item k = s.item k := by simp only [State.item, hr.copyMap]
  refine ⟨fun r => ?_, fun k c => ?_⟩
  · rw [hrow, hworn]; exact h.reads r
  · rw [hitem, hworn]; exact h.copies k c

theorem SweepOk.congr {s t : State} (h : SweepOk s) (hd : t.device = s.device) (hw : SameSweep s t) : SweepOk t :=
  ⟨by rw [hw.sweep, hw.array]; exact h.running, by rw [hw.sweep, hw.array]; exact h.asked,
    by rw [hw.sweep, hw.array]; exact h.next, by rw [hw.sweep]; exact h.count, by rw [hw.sweep, hd]; exact h.starting⟩

/-- A port's slot has the same part in a SYNC. -/
structure SyncSame (q r : PortState) : Prop where
  sync : r.sync = q.sync
  waiting : (∃ tag, r.slot = .waiting tag) ↔ ∃ tag, q.slot = .waiting tag

theorem SyncSame.of_slot {q r : PortState} (hs : r.slot = q.slot) (hy : r.sync = q.sync) : SyncSame q r := ⟨hy, by rw [hs]⟩

theorem SyncOk.congr {s t : State} {p : Port} (h : SyncOk s p) (hp : SyncSame (s.port p) (t.port p)) (hm : noMark t p = noMark s p) :
    SyncOk t p :=
  ⟨by rw [hp.waiting, hp.sync]; exact h.slot, by rw [hp.sync, hm]; exact h.marks, by rw [hp.sync]; exact h.dropped⟩

theorem noMark_congr {s t : State} (h : SameQueue s t) (p : Port) : noMark t p = noMark s p := by
  simp only [noMark, inFlight, h.queue, h.engine]

/-- A part that is RUNNING is not held, and its load has ended as it has. -/
theorem DeviceOk.of_running {s t : State} (h : DeviceOk s) (hrun : s.device = .running) (hd : SameDevice s t) : DeviceOk t := by
  have htrun := hd.device.trans hrun
  have hheld : t.held = s.held := by simp only [State.held, hd.supply, hd.resetN]
  refine ⟨fun hh => ?_, fun hs => ?_, by rw [hd.load]; exact h.rows, by rw [hd.load]; exact h.half⟩
  · rw [hheld] at hh
    rw [hd.device]
    exact h.hold hh
  · rw [htrun] at hs
    cases hs

/-! ### A piece of work, and what its handing over makes of the part (R18) -/

/-- A piece of work on a RUNNING part keeps all that a run keeps, but for the lines that it hands on to be recomputed. -/
structure GoodWork (w : Work) : Prop where
  running : w.state.device = .running
  ranges : RangesOk w.state
  zones : ZonesOk w.state
  dwells : DwellsOk w.state
  table : TableOk w.state
  axes : AxesOk w.state
  lines : ∀ l, l ∉ w.lines → w.state.line l = lineRecordOf w.state l
  store : StoreOk w.state
  wear : WearOk w.state
  sweep : SweepOk w.state
  sync : ∀ p, SyncOk w.state p
  device : DeviceOk w.state

/-- The queue, the engine and the array agree, whether or not an idle engine has something to take (R120, R127, R135). -/
structure StoreRests (s : State) : Prop where
  once : (s.queue.map QueueEntry.item).Nodup
  program : s.array = .program → s.engine.hasProgram = true
  waits : s.engine.hasProgram = true → s.array ≠ .free
  retry : s.engine.isRetrying = true → s.array = .program
  starting : s.device = .starting → s.engine = .idle ∧ s.array = .free

theorem StoreOk.rests {s : State} (h : StoreOk s) : StoreRests s := ⟨h.once, h.program, h.waits, h.retry, h.starting⟩

theorem StoreRests.congr {s t : State} (h : StoreRests s) (hd : t.device = s.device) (hq : SameQueue s t) (ha : t.array = s.array) :
    StoreRests t :=
  ⟨by rw [hq.queue]; exact h.once, by rw [ha, hq.engine]; exact h.program,
    by rw [ha, hq.engine]; exact h.waits, by rw [ha, hq.engine]; exact h.retry, by rw [ha, hd, hq.engine]; exact h.starting⟩

/-- An item is queued at most once (R121). -/
theorem nodup_enqueue {s : State} (h : (s.queue.map QueueEntry.item).Nodup) (k : ItemNo) :
    ((enqueue k s).queue.map QueueEntry.item).Nodup := by
  rw [enqueue_eq, State.setQueue_queue]
  split
  · exact h
  · next hk =>
    rw [List.map_append, List.nodup_append]
    refine ⟨h, List.nodup_singleton _, fun a ha b hb e => ?_⟩
    cases List.mem_singleton.mp hb
    have hak : a = k := e
    exact hk (hak ▸ ha)

theorem StoreRests.enqueue {s : State} (h : StoreRests s) (k : ItemNo) : StoreRests (enqueue k s) := by
  have honce := nodup_enqueue h.once k
  rw [enqueue_eq] at honce ⊢
  exact ⟨honce, h.program, h.waits, h.retry, h.starting⟩

theorem StoreRests.enqueueAll {s : State} (h : StoreRests s) (ks : List ItemNo) : StoreRests (enqueueAll ks s) := by
  induction ks generalizing s with
  | nil => exact h
  | cons k ks ih => exact ih (h.enqueue k)

/-- An idle engine that takes the head of its queue has nothing left to take (R122). -/
theorem StoreRests.takeHead {s : State} (h : StoreRests s) : StoreOk (takeHead s) := by
  unfold Machine.takeHead
  split
  · next e rest hd he hq =>
    refine ⟨?_, fun _ hi => Engine.noConfusion hi, fun ha => ?_, fun hp => Bool.noConfusion hp, fun hr => Bool.noConfusion hr, fun hs => ?_⟩
    · have := h.once
      rw [hq] at this
      exact this.of_cons
    · have := h.program ha
      rw [he] at this
      cases this
    · exact absurd (hd.symm.trans hs) (by simp)
  · next hno =>
    refine ⟨h.once, fun hd he => ?_, h.program, h.waits, h.retry, h.starting⟩
    cases hq : s.queue with
    | nil => rfl
    | cons e rest => exact (hno e rest hd he hq).elim

theorem StoreRests.enqueued {items : List ItemNo} {s t : State} (hs : StoreRests s) (h : Enqueued items s t) (hd : t.device = s.device)
    (ha : t.array = s.array) : StoreOk t := by
  obtain ⟨q, hq⟩ := enqueueAll_frame items s
  obtain ⟨q', e, hh⟩ := takeHead_frame (Machine.enqueueAll items s)
  refine (hs.enqueueAll items).takeHead.congr ?_ ⟨h.queue, h.engine⟩ ?_
  · rw [hh, hq]; exact hd
  · rw [hh, hq]; exact ha

theorem noMark_enqueue (k : ItemNo) (s : State) (p : Port) : noMark (enqueue k s) p = noMark s p := by
  have hclear : Marks.clear.get p = false := by cases p <;> rfl
  rw [enqueue_eq]
  unfold noMark inFlight
  rw [State.setQueue_queue, State.setQueue_engine]
  split
  · rfl
  · simp [hclear]

theorem noMark_takeHead (s : State) (p : Port) : noMark (takeHead s) p = noMark s p := by
  rcases takeHead_cases s with h | ⟨e, rest, _, he, hq, h⟩
  · rw [h]
  · rw [h]
    unfold noMark inFlight
    rw [hq, he, State.setEngine_queue, State.setQueue_queue, State.setEngine_engine]
    simp [Bool.and_comm]

/-- Requests and the head of the queue carry no marks of their own (R121, R122, R130). -/
theorem noMark_enqueued {items : List ItemNo} {s t : State} (h : Enqueued items s t) (p : Port) : noMark t p = noMark s p := by
  have hall (ks : List ItemNo) (u : State) : noMark (enqueueAll ks u) p = noMark u p := by
    induction ks generalizing u with
    | nil => rfl
    | cons k ks ih => exact (ih (enqueue k u)).trans (noMark_enqueue k u p)
  rw [noMark_congr (s := takeHead (enqueueAll items s)) ⟨h.queue, h.engine⟩, noMark_takeHead, hall]

theorem good_handOver {w : Work} (h : GoodWork w) : Good (handOver w) := by
  have k := handedOver w
  have hsame : w.state.now ≤ (handOver w).now := k.now.ge
  refine ⟨h.ranges.congr k.config.axes, h.zones.congr k.table.slots, h.dwells.congr k.table.slots k.evaluator.dwells,
    h.table.congr k.device.device ⟨k.table.absolute, k.table.periodic⟩ fun i => ?_,
    h.axes.congr k.device.device k.config.axes k.trackers k.evaluator hsame, ?_,
    h.store.rests.enqueued k.enqueued k.device.device k.sweep.array, h.wear.congr k.rows,
    h.sweep.congr k.device.device k.sweep, fun p => (h.sync p).congr ?_ (noMark_enqueued k.enqueued p),
    h.device.of_running h.running k.device⟩
  · simp only [State.zone, k.table.slots]
  · rw [linesOk_running (k.device.device.trans h.running)]
    intro l
    rw [k.recomputed l]
    split
    · rfl
    · next hl => rw [h.lines l hl, lineRecordOf_congr k.table.slots k.config.lines]
  · rw [k.ports p]
    exact .of_slot rfl rfl

/-- What the work of a grant must keep, beside what it leaves to the end of the grant (R18). -/
theorem GoodWork.of_leaves {s : State} {w : Work} (h : Good s) (hd : s.device = .running) (hw : WorkLeaves s w.state)
    (slots : ∀ i, SlotOk (w.state.zone i) (w.state.dwell i)) (table : TableOk w.state) (axes : AxesOk w.state)
    (ranges : RangesOk w.state) (lines : ∀ l, l ∉ w.lines → lineRecordOf w.state l = lineRecordOf s l) : GoodWork w :=
  have hslots := zonesOk_and_dwellsOk_iff.mpr slots
  ⟨hw.device.device.trans hd, ranges, hslots.1, hslots.2, table, axes, fun l hl => by
      rw [lines l hl, ← h.lines.line_eq hd l]
      simp only [State.line, hw.lines],
    h.store.congr hw.device.device hw.store.queue hw.store.sweep.array, h.wear.congr hw.store.rows,
    h.sweep.congr hw.device.device hw.store.sweep,
    fun p => (h.sync p).congr (by simp only [State.port, hw.ports]; exact .of_slot rfl rfl) (noMark_congr hw.store.queue p),
    h.device.of_running hd hw.device⟩

/-! ### The ports -/

/-- A write of a port that leaves its part in a SYNC, and makes no claim while the device is STARTING. -/
theorem good_setPort {s : State} (h : Good s) {p : Port} {q : PortState} (hsync : SyncSame (s.port p) q)
    (hq : s.device = .starting → q.slot.isQueued = false) : Good (s.setPort p q) := by
  have hport (r : Port) : (s.setPort p q).port r = if r = p then q else s.port r := State.setPort_at ..
  refine ⟨h.ranges.congr (by simp), h.zones.congr (by simp), h.dwells.congr (by simp) (by simp),
    h.table.congr (by simp) ⟨by simp, by simp⟩ fun i => by simp,
    h.axes.congr (by simp) (by simp) (by simp) ⟨by simp, by simp, by simp, by simp⟩ (by simp),
    h.lines.congr (by simp) (by simp) (by simp) (by simp), h.store.congr (by simp) ⟨by simp, by simp⟩ (by simp),
    h.wear.congr ⟨by simp, by simp, by simp, by simp⟩, h.sweep.congr (by simp) ⟨by simp, by simp⟩, fun r => ?_, ?_⟩
  · refine (h.sync r).congr ?_ (noMark_congr ⟨by simp, by simp⟩ r)
    rw [hport]
    split
    · next e => rw [e]; exact hsync
    · exact .of_slot rfl rfl
  · refine ⟨h.device.hold, fun hs => ?_, h.device.rows, h.device.half⟩
    have hr := h.device.rests hs
    refine ⟨fun r => ?_, hr.running, hr.passes, hr.conditions, hr.dwells, hr.notRunning⟩
    rw [hport]
    split
    · exact hq hs
    · exact hr.slots r

end Sys2Proof.Machine
end

section
/-! The zones that the table commands make are as the rules let them be, and the work of a table command keeps all that a run
keeps (chapters 1, 2 and 9). -/

namespace Sys2Proof.Machine

/-! ### Zones of the commands -/

theorem nextIncarnation_ne_zero (r : Byte) : nextIncarnation r ≠ 0 := by
  unfold nextIncarnation
  split
  · decide
  · intro h
    bv_omega

theorem parseCreate_label {payload : List Byte} {x : CreateArgs} (h : parseCreate payload = some x) : x.label.length ≤ 8 := by
  unfold parseCreate at h
  split at h
  · split at h
    · cases h
    · split at h
      · split at h
        · next hlen => cases h; exact hlen.2.trans_le hlen.1
        · cases h
      · cases h
  · cases h

theorem zoneOk_create {payload : List Byte} {x : CreateArgs} (h : parseCreate payload = some x)
    (hb : boundsOk x.bounds x.hysteresis = true) (p : Port) (r : Byte) : ZoneOk (x.zone p (nextIncarnation r)) where
  incarnation := nextIncarnation_ne_zero r
  bounds := hb
  label := parseCreate_label h
  tripMark := by simp [CreateArgs.zone]
  disarmed _ := rfl
  qualifying h := by cases h
  inside h := by cases h
  tripped h := by cases h

theorem parseAmend_label {payload : List Byte} {x : AmendArgs} (h : parseAmend payload = some x) :
    ∀ l, x.label = some l → l.length ≤ 8 := by
  unfold parseAmend at h
  split at h
  · split at h
    · cases h
    · dsimp only at h
      split at h
      · cases h
      · split at h
        · cases h
        · next hlen =>
          split at h
          · cases h
            intro l hl
            dsimp only at hl
            split at hl
            · cases hl; omega
            · cases hl
          · cases h
  · cases h

theorem restartOccupancy_ne_qualifying (armed available : Bool) (policy : StalePolicy) (action : Action) :
    restartOccupancy armed available policy action ≠ .qualifying := by
  cases armed <;> cases available <;> cases policy <;> cases action <;> decide

/-- A zone whose judgement is restarted is as the rules let it be (R24). -/
theorem zoneOk_restart {z : Zone} (hinc : z.incarnation ≠ 0) (hb : boundsOk z.bounds z.hysteresis = true) (hl : z.label.length ≤ 8)
    (available : Bool) : ZoneOk (zoneAt z (restartOccupancy z.armed available z.policy z.action)) where
  incarnation := hinc
  bounds := hb
  label := hl
  tripMark := by simp [zoneAt]
  disarmed h := by
    have : z.armed = false := h
    simp [zoneAt, this, restartOccupancy]
  qualifying h := (restartOccupancy_ne_qualifying _ _ _ _ h).elim
  inside h := by
    have key : restartOccupancy z.armed available z.policy z.action = .inside → z.action = .follow := by
      cases z.armed <;> cases available <;> cases z.policy <;> cases z.action <;> decide
    exact key h
  tripped h := by
    have key : restartOccupancy z.armed available z.policy z.action = .tripped → z.action = .latch := by
      cases z.armed <;> cases available <;> cases z.policy <;> cases z.action <;> decide
    exact key h

/-- An AMEND that is let pass on a TRIPPED zone changes neither its geometry nor its dwell nor its action (R29). -/
theorem AmendArgs.apply_tripped {x : AmendArgs} {z y : Zone} (h : x.apply z = some y) (hn : x.namesGeometryOrAction = false) :
    y.action = z.action ∧ restartsJudgement z y = false := by
  obtain ⟨axis, lower, upper, start, stop, hyst, dwell, action⟩ : x.axis = none ∧ x.lower = none ∧ x.upper = none ∧ x.start = none ∧
      x.stop = none ∧ x.hysteresis = none ∧ x.dwell = none ∧ x.action = none := by
    simpa [namesGeometryOrAction, namesBound, and_assoc] using hn
  obtain ⟨b, hb, rfl⟩ := Option.map_eq_some_iff.mp h
  have hbounds : b = z.bounds := by
    unfold AmendArgs.boundsOf at hb
    rw [lower, upper, start, stop] at hb
    cases hz : z.bounds <;> rw [hz] at hb <;> simpa using hb.symm
  simp [restartsJudgement, axis, hyst, dwell, action, hbounds]

theorem zoneOk_amended {payload : List Byte} {x : AmendArgs} {z y : Zone} (hx : parseAmend payload = some x) (hz : ZoneOk z)
    (h : x.apply z = some y) (hb : boundsOk y.bounds y.hysteresis = true)
    (hn : z.occupancy = .tripped → x.namesGeometryOrAction = false) (available : Bool) : ZoneOk (amendedZone available z y) := by
  have ha := x.apply_amended h
  have hinc : y.incarnation ≠ 0 := by rw [ha.incarnation]; exact hz.incarnation
  have hlabel : y.label.length ≤ 8 := by
    obtain ⟨b, _, rfl⟩ := Option.map_eq_some_iff.mp h
    change (x.label.getD z.label).length ≤ 8
    cases hl : x.label with
    | none => exact hz.label
    | some l => exact parseAmend_label hx l hl
  cases hr : restartsJudgement z y with
  | true =>
    unfold amendedZone
    rw [hr, if_pos rfl, restarted_eq]
    exact zoneOk_restart hinc hb hlabel available
  | false =>
    rw [amendedZone_eq hz ha, amendedOccupancy, hr]
    have hdwell : y.dwell = z.dwell := by
      rw [restartsJudgement_eq, decide_eq_false_iff_not] at hr
      exact not_not.mp fun e => hr (.inr (.inr (.inr e)))
    refine ⟨hinc, hb, hlabel, by simp only [zoneAt, decide_eq_true_eq], fun hd => ?_, fun ho => ?_, fun ho => ?_, fun ho => ?_⟩
    · have hocc := hz.disarmed (ha.armed.symm.trans hd)
      simp [zoneAt, hocc]
    · replace ho : (if z.action = .follow ∧ y.action = .latch ∧ z.occupancy = .inside then Occupancy.tripped else z.occupancy) = .qualifying := ho
      split at ho
      · cases ho
      · change y.dwell ≠ 0
        rw [hdwell]
        exact hz.qualifying ho
    · replace ho : (if z.action = .follow ∧ y.action = .latch ∧ z.occupancy = .inside then Occupancy.tripped else z.occupancy) = .inside := ho
      split at ho
      · cases ho
      · next hno =>
        change y.action = .follow
        cases hy : y.action with
        | follow => rfl
        | latch => exact (hno ⟨hz.inside ho, hy, ho⟩).elim
    · replace ho : (if z.action = .follow ∧ y.action = .latch ∧ z.occupancy = .inside then Occupancy.tripped else z.occupancy) = .tripped := ho
      change y.action = .latch
      split at ho
      · next hyes => exact hyes.2.1
      · rw [(x.apply_tripped h (hn ho)).1]
        exact hz.tripped ho

/-- A kept dwell timer is still the amended zone's (R30, R90). -/
theorem timerOk_amended {z y : Zone} {d : Option DwellTimer} (hz : ZoneOk z) (hd : TimerOk z d) (ha : Amended z y)
    (hr : restartsJudgement z y = false) (available : Bool) : TimerOk (amendedZone available z y) d := by
  have hdwell : y.dwell = z.dwell := by
    rw [restartsJudgement_eq, decide_eq_false_iff_not] at hr
    exact not_not.mp fun e => hr (.inr (.inr (.inr e)))
  rw [amendedZone_eq hz ha, amendedOccupancy, hr]
  refine ⟨?_, fun x hx => ?_⟩
  · rw [hd.held]
    simp only [Bool.false_eq_true, if_false, zoneAt]
    split
    · next hyes => simp [hyes.2.2]
    · rfl
  · obtain ⟨h1, h2⟩ := hd.own x hx
    exact ⟨h1.trans ha.incarnation.symm, h2.trans hdwell.symm⟩

/-! ### The work on one slot -/

/-- The zone that a slot holds. -/
def zoneOf : Slot → Option Zone
  | .live z => some z
  | .vacant _ | .quarantined => none

theorem zone_eq_zoneOf (s : State) (i : SlotNo) : s.zone i = zoneOf (s.slot i) := by
  unfold State.zone State.slot zoneOf
  cases s.slots[i] <;> rfl

/-- A command works on slot `i`, which becomes `v` with the dwell timer `d`: beside it a command can change the lists alone, and
ask for a pass of an axis that has a position (R18, R24). -/
structure SlotWorked (s t : State) (i : SlotNo) (v : Slot) (d : Option DwellTimer) : Prop where
  slot : SlotBecomes s t i v
  dwell : DwellBecomes s t i d
  passes : ∀ n, (t.pendingPass n).isSome = true → (s.pendingPass n).isSome = true ∨ s.available[n] = true
  conditions : SameConditions s t
  config : SameConfig s t
  trackers : t.trackers = s.trackers

theorem SlotWorked.zone {s t : State} {i : SlotNo} {v : Slot} {d : Option DwellTimer} (h : SlotWorked s t i v d) (j : SlotNo) :
    t.zone j = if j = i then zoneOf v else s.zone j := by
  rw [zone_eq_zoneOf, zone_eq_zoneOf, h.slot j]
  split <;> rfl

theorem SlotWorked.axesOk {s t : State} {i : SlotNo} {v : Slot} {d : Option DwellTimer} (h : SlotWorked s t i v d) (hs : AxesOk s)
    (hw : WorkLeaves s t) : AxesOk t := fun n =>
  (hs n).congr hw.device.device (by simp only [State.axisConfig, h.config.axes]) (by simp only [State.tracker, h.trackers])
    (by rw [h.conditions.1]) (by simp only [State.pendingConditions, h.conditions.2]) (h.passes n) hw.now.ge

theorem GoodWork.of_slot {s : State} {w : Work} {i : SlotNo} {v : Slot} {d : Option DwellTimer} (h : Good s)
    (hd : s.device = .running) (hl : WorkLeaves s w.state) (hw : SlotWorked s w.state i v d) (hok : SlotOk (zoneOf v) d)
    (table : TableOk w.state) (lines : ∀ l, l ∉ w.lines → drivenBy (zoneOf v) l = drivenBy (s.zone i) l) : GoodWork w := by
  refine .of_leaves h hd hl (fun j => ?_) table (hw.axesOk h.axes hl) (h.ranges.congr hw.config.axes) fun l hl => ?_
  · rw [hw.zone j, hw.dwell j]
    split
    · exact hok
    · exact h.slot j
  · refine lineRecordOf_of_driven (fun j => ?_) hw.config.lines
    rw [hw.zone j]
    split
    · next e => rw [e]; exact lines l hl
    · rfl

/-- The work of a command on one slot, read off the part that it leaves. -/
theorem slotWorked_of_eq {s t : State} {i : SlotNo} {v : Slot} {d : Option DwellTimer} {a b : Vector (List SlotNo) 4}
    {ps : Vector (Option Nat) 4}
    (h : t = { s with slots := s.slots.set i v, absolute := a, periodic := b, dwells := s.dwells.set i d, passes := ps })
    (hp : ∀ n : Axis, ps[n].isSome = true → (s.pendingPass n).isSome = true ∨ s.available[n] = true) : SlotWorked s t i v d := by
  subst h
  exact ⟨.of_slots rfl, .of_dwells rfl, hp, ⟨rfl, rfl⟩, ⟨rfl, rfl, rfl, rfl⟩, rfl⟩

/-- A restart asks for a pass of an axis that has a position alone (R24, R79). -/
theorem restartPass_asks (z : Zone) (s : State) (n : Axis) (h : ((restartPass z s).pendingPass n).isSome = true) :
    (s.pendingPass n).isSome = true ∨ s.available[n] = true := by
  unfold restartPass at h
  split at h
  · next hz =>
    rw [setPassPending_eq, State.setPass_at] at h
    split at h
    · next e => rw [e]; exact .inr (Bool.and_eq_true_iff.mp hz).2
    · exact .inl h
  · exact .inl h

theorem SlotWorked.sameOutlines {s t : State} {i : SlotNo} {v : Slot} {d : Option DwellTimer} (h : SlotWorked s t i v d)
    (hv : (zoneOf v).map (fun z => (z.axis, z.bounds, z.exclusive)) = (s.zone i).map fun z => (z.axis, z.bounds, z.exclusive)) :
    SameOutlines s t := fun j => by
  rw [h.zone j]
  split
  · next e => rw [e]; exact hv
  · rfl

theorem SameOutlines.of_slots {s t : State} (h : t.slots = s.slots) : SameOutlines s t := fun i => by simp only [State.zone, h]

theorem dwells_self (s : State) (i : SlotNo) : s.dwells.set i (s.dwell i) = s.dwells := by simp [State.dwell]

/-! ### The work of each command on a zone -/

section
variable {s : State} (h : Good s) (hd : s.device = .running)

include h hd

theorem goodWork_createTaken {p : Port} {payload : List Byte} {x : CreateArgs} {i : SlotNo} {r : Byte}
    (hx : CreatePasses payload s x i r) : GoodWork (createTaken p x i r s).work := by
  have hnone : s.zone i = none := zone_eq_none_iff.mpr (by simp [hx.vacant])
  have hdwell : s.dwell i = none := h.dwells.empty i hnone
  have hfree := (firstConflict_eq_none_iff h.table hd _ _ _ _).mp hx.free
  obtain ⟨htable, _⟩ := tableOk_enterList (y := x.zone p (nextIncarnation r)) h.table hd hnone fun j y _ hy => hfree j y (by simp) hy
  obtain ⟨a, b, hlists⟩ := enterList_frame i (x.zone p (nextIncarnation r)) (s.setSlot i (.live (x.zone p (nextIncarnation r))))
  refine .of_slot (i := i) (v := .live (x.zone p (nextIncarnation r))) (d := none) h hd (workLeaves_createTaken ..)
    (slotWorked_of_eq (a := a) (b := b) (ps := s.passes) ?_ fun n => .inl) (slotOk_some.mpr ⟨zoneOk_create hx.parse hx.bounds p r, timerOk_none nofun⟩) htable
    fun l hl => ?_
  · rw [← hdwell, dwells_self]
    exact hlists
  · rw [hnone]
    exact drivenBy_eq_none fun z hz => by cases hz; exact hl

theorem goodWork_amendTaken {p : Port} {payload : List Byte} {x : AmendArgs} {z y : Zone} (hx : AmendPasses p payload s x z y) :
    GoodWork (amendTaken x.handle.slot z y s).work := by
  set i := x.handle.slot with hi
  have hz := hx.passes.zone
  have hzok := h.zones i z hz
  have ha := x.apply_amended hx.apply
  set v := amendedZone s.available[y.axis] z y with hv
  have hvok : ZoneOk v := zoneOk_amended hx.parse hzok hx.apply hx.bounds hx.allowed _
  have hvy : v = zoneAt y (amendedOccupancy s.available[y.axis] z y) := amendedZone_eq hzok ha _
  have hfree : NoCollision s v.axis v.bounds v.exclusive (some i) := by
    rw [hvy]
    exact (firstConflict_eq_none_iff h.table hd _ _ _ _).mp hx.free
  obtain ⟨htable, _⟩ := tableOk_moveInLists h.table hd hz hfree
  obtain ⟨a, b, hlists⟩ := moveInLists_frame i z v (s.setSlot i (.live v))
  rw [hlists] at htable
  have hlines : ∀ l, l ∉ linesOf z ++ linesOf v → drivenBy (zoneOf (.live v)) l = drivenBy (s.zone i) l := by
    intro l hl
    rw [List.mem_append, not_or] at hl
    rw [hz, drivenBy_eq_none fun w hw => by cases hw; exact hl.2, drivenBy_eq_none fun w hw => by cases hw; exact hl.1]
  have hleaves := workLeaves_amendTaken i z y s
  unfold amendTaken at hleaves ⊢
  dsimp only at hleaves ⊢
  rw [← hv, hlists] at hleaves ⊢
  cases hr : restartsJudgement z y with
  | false =>
    simp only [hr, Bool.false_eq_true, if_false] at hleaves ⊢
    refine .of_slot (i := i) (v := .live v) (d := s.dwell i) h hd hleaves (slotWorked_of_eq (a := a) (b := b) (ps := s.passes) ?_ fun n => .inl)
      (slotOk_some.mpr ⟨hvok, timerOk_amended hzok ((h.slot i).1 z hz).2 ha hr _⟩) htable hlines
    rw [dwells_self]
    rfl
  | true =>
    simp only [hr, if_true] at hleaves ⊢
    obtain ⟨w, hw, hwv⟩ := restartPass_frame v (cancelDwell i { s.setSlot i (.live v) with absolute := a, periodic := b })
    have hasks := restartPass_asks v (cancelDwell i { s.setSlot i (.live v) with absolute := a, periodic := b })
    rw [hw] at hleaves hasks ⊢
    refine .of_slot (i := i) (v := .live v) (d := none) h hd hleaves (slotWorked_of_eq (a := a) (b := b) rfl fun n => ?_)
      (slotOk_some.mpr ⟨hvok, timerOk_none ?_⟩) (htable.congr rfl ⟨rfl, rfl⟩ (.of_slots rfl)) hlines
    · exact hasks n
    · rw [hvy, amendedOccupancy, hr]
      rw [if_pos rfl]
      exact restartOccupancy_ne_qualifying z.armed s.available[y.axis] y.policy y.action

theorem goodWork_retireTaken {p : Port} {x : Handle} {z : Zone} (hz : s.zone x.slot = some z) :
    GoodWork (retireTaken p x z s).work := by
  obtain ⟨htable, _⟩ := tableOk_leaveList (v := .vacant z.incarnation) h.table hd hz (by simp)
  obtain ⟨a, b, hlists⟩ := leaveList_frame x.slot z (s.setSlot x.slot (.vacant z.incarnation))
  rw [hlists] at htable
  have hleaves := workLeaves_retireTaken p x z s
  unfold retireTaken at hleaves ⊢
  dsimp only at hleaves ⊢
  rw [hlists] at hleaves ⊢
  refine .of_slot (i := x.slot) (v := .vacant z.incarnation) (d := none) h hd hleaves
    (slotWorked_of_eq (a := a) (b := b) (ps := s.passes) rfl fun n => .inl) slotOk_none (htable.congr rfl ⟨rfl, rfl⟩ (.of_slots rfl)) fun l hl => ?_
  rw [hz]
  exact (drivenBy_eq_none fun y hy => by cases hy; exact hl).symm

/-- A zone is given a new record of the same outlines, and its judgement is restarted or ended (R24, R36). -/
theorem goodWork_changedZone {i : SlotNo} {z y : Zone} {entered : Bool} (hz : s.zone i = some z) (hy : ZoneOk y)
    (hq : y.occupancy ≠ .qualifying) (haxis : y.axis = z.axis) (hbounds : y.bounds = z.bounds) (hexcl : y.exclusive = z.exclusive)
    (hline : y.line = z.line) : GoodWork (changedZone i z y entered s).work := by
  obtain ⟨w, hw, hwv⟩ := restartPass_frame y (cancelDwell i (s.setSlot i (.live y)))
  have hleaves := workLeaves_changedZone i z y entered s
  unfold changedZone at hleaves ⊢
  dsimp only at hleaves ⊢
  have hasks := restartPass_asks y (cancelDwell i (s.setSlot i (.live y)))
  rw [hw] at hleaves hasks ⊢
  have hworked : SlotWorked s ((cancelDwell i (s.setSlot i (.live y))).setPass y.axis w) i (.live y) none :=
    slotWorked_of_eq (a := s.absolute) (b := s.periodic) rfl hasks
  refine .of_slot h hd hleaves hworked
    (slotOk_some.mpr ⟨hy, timerOk_none hq⟩) (h.table.congr rfl ⟨rfl, rfl⟩ (hworked.sameOutlines ?_)) fun l hl => ?_
  · rw [hz]
    simp [zoneOf, haxis, hbounds, hexcl]
  · rw [hz]
    exact (drivenBy_eq_none fun x hx => by cases hx; exact hl).trans
      (drivenBy_eq_none fun x hx => by cases hx; rwa [linesOf, ← hline]).symm

theorem goodWork_transferred {p : Port} {i : SlotNo} {z : Zone} {o : Owner} (hz : s.zone i = some z) : GoodWork (transferred p i z o s) := by
  have hzok := (h.slot i).1 z hz
  have hworked : SlotWorked s (transferred p i z o s).state i (.live { z with owner := o }) (s.dwell i) :=
    slotWorked_of_eq (a := s.absolute) (b := s.periodic) (ps := s.passes) (by rw [dwells_self]; rfl) fun n => .inl
  refine .of_slot h hd (workLeaves_setSlot ..) hworked (slotOk_some.mpr ⟨?_, ?_⟩)
    (h.table.congr rfl ⟨rfl, rfl⟩ (hworked.sameOutlines ?_)) fun l hl => ?_
  · exact ⟨hzok.1.incarnation, hzok.1.bounds, hzok.1.label, hzok.1.tripMark, hzok.1.disarmed, hzok.1.qualifying, hzok.1.inside, hzok.1.tripped⟩
  · exact ⟨hzok.2.held, hzok.2.own⟩
  · rw [hz]
    rfl
  · rw [hz]
    rfl

theorem goodWork_reclaimed {p : Port} {i : SlotNo} (hi : s.slot i = .quarantined) : GoodWork (reclaimed p i s) := by
  have hnone : s.zone i = none := zone_eq_none_iff.mpr (by simp [hi])
  have hdwell : s.dwell i = none := h.dwells.empty i hnone
  have hworked : SlotWorked s (reclaimed p i s).state i (.vacant 0) none :=
    slotWorked_of_eq (a := s.absolute) (b := s.periodic) (ps := s.passes) (by rw [← hdwell, dwells_self]; rfl) fun n => .inl
  refine .of_slot h hd (workLeaves_setSlot ..) hworked slotOk_none (h.table.congr rfl ⟨rfl, rfl⟩ (hworked.sameOutlines ?_))
    fun l hl => ?_
  · rw [hnone]
    rfl
  · rw [hnone]
    rfl

end

end Sys2Proof.Machine
end

section
/-! The trackers' events keep every axis in order: the records of the trackers, the conditions in alternation and in posting
order, and passes pending only where the table's copy has a position (chapter 4). -/

namespace Sys2Proof.Machine

/-! ### Conditions in posting order (R80) -/

/-- The conditions of an axis were posted by now, in the order in which they stand. -/
structure Dated (now : Nat) (l : List Condition) : Prop where
  dated : ∀ c ∈ l, c.posted ≤ now
  posting : l.Pairwise fun c d => c.posted ≤ d.posted

theorem Dated.mono {now now' : Nat} {l : List Condition} (h : Dated now l) (hn : now ≤ now') : Dated now' l :=
  ⟨fun c hc => (h.dated c hc).trans hn, h.posting⟩

/-- The conditions of an axis in order beside its tracker's record: what an event of its tracker finds. -/
structure AxisBase (s : State) (n : Axis) : Prop where
  depart : DepartOk s n
  dated : Dated s.now (s.pendingConditions n)
  pass : (s.pendingPass n).isSome = true → s.available[n] = true

theorem AxisOk.base {s : State} {n : Axis} (h : AxisOk s n) : AxisBase s n :=
  ⟨h.departOk, ⟨h.dated, h.posting⟩, h.pass⟩

theorem AxisBase.axisOk {s : State} {n : Axis} (h : AxisBase s n) (hd : s.device = .running)
    (ht : TrackerOk (s.axisConfig n) (s.tracker n)) : AxisOk s n :=
  ⟨ht, h.depart.conditions, h.pass, h.dated.dated, h.dated.posting, fun hs => by rw [hd] at hs; cases hs⟩

theorem Posted.eq {s t : State} {n : Axis} {k : ConditionKind} (h : Posted s t n k)
    (hok : ConditionsOk s.available[n] (decide (k ≠ .sure)) (s.pendingConditions n)) :
    t.pendingConditions n = (postedTo k t.now (s.pendingConditions n)).1 := by
  rw [h n, if_pos rfl, postedTo_of_ok hok]
  rcases hok.cases with ⟨hl, _⟩ | ⟨c, hl, _⟩ | ⟨c, d, hl, _⟩ <;> rw [hl] <;> rfl

theorem Posted.conditionsOk {s t : State} {n : Axis} {k : ConditionKind} (h : Posted s t n k)
    (hok : ConditionsOk s.available[n] (decide (k ≠ .sure)) (s.pendingConditions n)) :
    ConditionsOk s.available[n] (decide (k = .sure)) (t.pendingConditions n) := by
  rw [h.eq hok]
  exact hok.postedTo

theorem Posted.dated {s t : State} {n : Axis} {k : ConditionKind} (h : Posted s t n k)
    (hok : ConditionsOk s.available[n] (decide (k ≠ .sure)) (s.pendingConditions n)) (hd : Dated s.now (s.pendingConditions n))
    (hn : s.now ≤ t.now) : Dated t.now (t.pendingConditions n) := by
  rw [h.eq hok, postedTo_of_ok hok]
  have hm := hd.mono hn
  rcases hok.cases with ⟨hl, _⟩ | ⟨c, hl, _⟩ | ⟨c, d, hl, _⟩ <;> rw [hl] at hm ⊢
  · exact ⟨by simp [alternated], by simp [alternated]⟩
  · have := hm.dated c (by simp)
    exact ⟨by simpa [alternated] using this, by simpa [alternated] using this⟩
  · have := hm.dated c (by simp)
    exact ⟨by simpa [alternated] using this, by simp [alternated]⟩

/-! ### What an event of a tracker makes of its axis -/

/-- An event of the tracker of axis `n` moved its axis: its conditions still lead to its tracker's view, and it is dated and
asked for a pass as the rules say. -/
structure AxisMoved (s t : State) (n : Axis) : Prop where
  conditions : ConditionsOk s.available[n] (t.tracker n).sure (t.pendingConditions n)
  dated : Dated t.now (t.pendingConditions n)
  pass : (t.pendingPass n).isSome = true → s.available[n] = true

/-- The other axes are as they were. -/
structure OtherAxes (s t : State) (n : Axis) : Prop where
  config : ∀ m, m ≠ n → t.axisConfig m = s.axisConfig m
  tracker : ∀ m, m ≠ n → t.tracker m = s.tracker m
  conditions : ∀ m, m ≠ n → t.pendingConditions m = s.pendingConditions m
  pass : ∀ m, m ≠ n → t.pendingPass m = s.pendingPass m

theorem axesOk_of_moved {s t : State} {n : Axis} (h : AxesOk s) (hd : s.device = .running) (hdev : t.device = s.device)
    (ha : t.available = s.available) (hn : s.now ≤ t.now) (ho : OtherAxes s t n) (hm : AxisMoved s t n)
    (ht : TrackerOk (t.axisConfig n) (t.tracker n)) : AxesOk t := by
  intro m
  by_cases e : m = n
  · subst e
    exact ⟨ht, by rw [ha]; exact hm.conditions, by rw [ha]; exact hm.pass, hm.dated.dated, hm.dated.posting, fun hs => by
      rw [hdev, hd] at hs; cases hs⟩
  · exact (h m).congr hdev (ho.config m e) (ho.tracker m e) (by rw [ha]) (ho.conditions m e) (by rw [ho.pass m e]; exact .inl) hn

theorem AxisBase.departs {s t : State} {n : Axis} {v : Tracker} (h : AxisBase s n) (hd : Departs s t n v) (hv : v.sure = false)
    (hn : s.now ≤ t.now) (hp : t.passes = s.passes) : AxisMoved s t n := by
  have hvt : (t.tracker n).sure = false := by rw [hd.tracker n, if_pos rfl, hv]
  have hpass : (t.pendingPass n).isSome = true → s.available[n] = true := by
    simp only [State.pendingPass, hp]; exact h.pass
  cases hs : (s.tracker n).sure with
  | true =>
    have hok : ConditionsOk s.available[n] (decide (ConditionKind.unsure ≠ .sure)) (s.pendingConditions n) := by
      have := h.depart.conditions; rwa [hs] at this
    have hposted := hd.posted hs
    exact ⟨by rw [hvt]; exact hposted.conditionsOk hok, hposted.dated hok h.dated hn, hpass⟩
  | false =>
    have hc : t.pendingConditions n = s.pendingConditions n := by simp only [State.pendingConditions, hd.quiet hs]
    have hok := h.depart.conditions
    rw [hs] at hok
    exact ⟨by rw [hvt, hc]; exact hok, by rw [hc]; exact h.dated.mono hn, hpass⟩

theorem AxisBase.becomes {s t : State} {n : Axis} (h : AxisBase s n) (hs : (s.tracker n).state ≠ .tracking)
    (hposted : Posted s t n .sure) (hv : (t.tracker n).sure = true) (hn : s.now ≤ t.now) (hp : t.passes = s.passes) :
    AxisMoved s t n := by
  have hok : ConditionsOk s.available[n] (decide (ConditionKind.sure ≠ .sure)) (s.pendingConditions n) := h.depart.unsure hs
  exact ⟨by rw [hv]; exact hposted.conditionsOk hok, hposted.dated hok h.dated hn, by
    simp only [State.pendingPass, hp]; exact h.pass⟩

/-- An event leaves the conditions alone; it may ask for a pass where no axis-sure condition is pending for a sure axis (R64). -/
theorem AxisBase.keeps {s t : State} {n : Axis} (h : AxisBase s n) (hsure : (t.tracker n).sure = (s.tracker n).sure)
    (hc : t.conditions = s.conditions) (hn : s.now ≤ t.now)
    (hp : (t.pendingPass n).isSome = true → (s.pendingPass n).isSome = true ∨
      ((s.tracker n).sure = true ∧ ∀ d ∈ s.pendingConditions n, d.kind ≠ .sure)) : AxisMoved s t n := by
  have hcn : t.pendingConditions n = s.pendingConditions n := by simp only [State.pendingConditions, hc]
  refine ⟨by rw [hsure, hcn]; exact h.depart.conditions, by rw [hcn]; exact h.dated.mono hn, fun hs => ?_⟩
  rcases hp hs with hs | ⟨hs, hno⟩
  · exact h.pass hs
  · have hok := h.depart.conditions
    rw [hs] at hok
    rcases hok.cases with ⟨_, ha⟩ | ⟨c, hl, _, hk⟩ | ⟨c, d, hl, _, _, hk⟩
    · exact ha.symm
    · exact absurd (of_decide_eq_true hk.symm) (hno c (by simp [hl]))
    · exact absurd (of_decide_eq_true hk.symm) (hno d (by simp [hl]))

/-! ### The records of the trackers (4.2) -/

theorem le_widen (l : Span) (x : ExtPos) : (l.widen x).lowest.le x = true ∧ x.le (l.widen x).highest = true := by
  rw [widen_eq]
  constructor
  · dsimp only
    rw [ExtPos.le_iff]
    split <;> omega
  · dsimp only
    rw [ExtPos.le_iff]
    split <;> omega

theorem le_single (x : ExtPos) : (⟨x, x⟩ : Span).lowest.le x = true ∧ x.le (⟨x, x⟩ : Span).highest = true := by
  simp [ExtPos.le_iff]

theorem TrackerOk.cause_none {c : AxisConfig} {t : Tracker} (h : TrackerOk c t) (hs : t.state ≠ .lost) : t.cause = none := by
  cases hc : t.cause with
  | none => rfl
  | some x => exact absurd (h.cause.mp (by rw [hc]; rfl)) hs

theorem trackerOk_accepted {c : AxisConfig} {now : Nat} {sequence : BitVec 4} {x : ExtPos} {live : Span} {k t : Tracker}
    (hlive : live.lowest.le x = true ∧ x.le live.highest = true) (hcause : k.cause = none)
    (h : t = { acceptedAt c now sequence x live k with sure := true, held := t.held, acquireTurn := t.acquireTurn }) :
    TrackerOk c t := by
  rw [h]
  refine ⟨?_, ?_, ?_, ?_, ?_, ?_, ?_, ?_⟩
  · simp [acceptedAt, countAccepted]
  · simp [acceptedAt, countAccepted]
  · by_cases hst : c.staleness = 0 <;> simp [acceptedAt, countAccepted, startTimer, hst]
  · simp [acceptedAt, countAccepted]
  · simp [acceptedAt, countAccepted]
  · simp [acceptedAt, countAccepted, hcause]
  · simp [acceptedAt, countAccepted]
  · simp only [acceptedAt, countAccepted, Option.some.injEq]
    rintro l p rfl rfl
    exact hlive

/-- A tracker out of TRACKING, with neither live span nor timer. -/
theorem trackerOk_left {c : AxisConfig} {t : Tracker} (hstate : t.state ≠ .tracking) (hsure : t.sure = false) (hlive : t.live = none)
    (htimer : t.timer = none) (hposition : t.position.isSome = true ↔ t.state = .stale ∨ t.state = .lost)
    (hsequence : t.position.isSome = true → t.sequence.isSome = true) (hcause : t.cause.isSome = true ↔ t.state = .lost)
    (hdisabled : t.state = .disabled → t.counters = Counters.zero ∧ t.rawStatus = none) : TrackerOk c t := by
  refine ⟨by simp [hsure, hstate], by simp [hlive, hstate], by simp [htimer, hstate], by simp [hposition, hstate], hsequence, hcause,
    hdisabled, by simp [hlive]⟩

/-- A tracker's counters and its last raw status are free while it is not DISABLED. -/
theorem TrackerOk.counted {c : AxisConfig} {t u : Tracker} (h : TrackerOk c t) (hstate : t.state ≠ .disabled)
    (hu : u = { t with counters := u.counters, rawStatus := u.rawStatus, jumpRun := u.jumpRun }) : TrackerOk c u := by
  rw [hu]
  exact ⟨h.sure, h.live, h.timer, h.position, h.sequence, h.cause, fun hd => absurd hd hstate, h.span⟩

/-! ### The events of a tracker -/

/-- An event of a tracker keeps what a run keeps, where it keeps the axes in order and leaves the ports their SYNCs. -/
theorem good_tracking {s t : State} (h : Good s) (hd : s.device = .running) (ho : OnlyTracking s t) (ha : AxesOk t)
    (hp : ∀ p, SyncSame (s.port p) (t.port p)) : Good t :=
  ⟨h.ranges.congr ho.config.axes, h.zones.congr ho.table.slots, h.dwells.congr ho.table.slots ho.dwells,
    h.table.congr ho.device.device ⟨ho.table.absolute, ho.table.periodic⟩ (.of_slots ho.table.slots), ha,
    h.lines.congr ho.device.device ho.table.slots ho.config.lines ho.lines, h.store.congr ho.device.device ho.store.queue ho.store.sweep.array,
    h.wear.congr ho.store.rows, h.sweep.congr ho.device.device ho.store.sweep,
    fun p => (h.sync p).congr (hp p) (noMark_congr ho.store.queue p), h.device.of_running hd ho.device⟩

theorem Raised.syncSame {s t : State} {f : FlagSet} (h : Raised s t f) (p : Port) : SyncSame (s.port p) (t.port p) := by
  rw [h p]
  exact .of_slot rfl rfl

theorem OnlyTracking.axisConfig {s t : State} (h : OnlyTracking s t) (n : Axis) : t.axisConfig n = s.axisConfig n := by
  simp only [State.axisConfig, h.config.axes]

theorem le_momentOf (s : State) (m : Moment) : s.now ≤ momentOf s m := by
  cases m
  · exact Nat.le_succ _
  · exact le_rfl

/-- The trackers' events change one tracker alone. -/
theorem OtherAxes.of_tracking {s t : State} {n : Axis} {v : Tracker} (ho : OnlyTracking s t)
    (ht : ∀ a, t.tracker a = if a = n then v else s.tracker a)
    (hc : ∀ a, a ≠ n → t.pendingConditions a = s.pendingConditions a) (hp : ∀ a, a ≠ n → t.pendingPass a = s.pendingPass a) :
    OtherAxes s t n :=
  ⟨fun m _ => ho.axisConfig m, fun m hm => by rw [ht, if_neg hm], hc, hp⟩

theorem Departs.other {s t : State} {n : Axis} {v : Tracker} (h : Departs s t n v) (a : Axis) (ha : a ≠ n) :
    t.pendingConditions a = s.pendingConditions a := by
  cases hs : (s.tracker n).sure with
  | true => rw [h.posted hs a, if_neg ha]
  | false => simp only [State.pendingConditions, h.quiet hs]

section
variable {s t : State} {n : Axis} (h : Good s) (hd : s.device = .running) (ho : OnlyTracking s t) (hn : s.now ≤ t.now)

include h hd ho hn

/-- The tracker leaves its state (R66 to R70). -/
theorem axesOk_departs {v : Tracker} (hp : t.passes = s.passes) (hdep : Departs s t n v) (hv : v.sure = false)
    (hok : TrackerOk (s.axisConfig n) v) : AxesOk t :=
  axesOk_of_moved h.axes hd ho.device.device ho.available hn
    (.of_tracking ho hdep.tracker hdep.other fun a _ => by simp only [State.pendingPass, hp])
    ((h.axes n).base.departs hdep hv hn hp) (by rw [ho.axisConfig, hdep.tracker n, if_pos rfl]; exact hok)

/-- The axis becomes sure (R60, R68). -/
theorem axesOk_becomes {v : Tracker} (hp : t.passes = s.passes) (hs : (s.tracker n).state ≠ .tracking) (hposted : Posted s t n .sure)
    (ht : ∀ a, t.tracker a = if a = n then v else s.tracker a) (hv : v.sure = true) (hok : TrackerOk (s.axisConfig n) v) : AxesOk t := by
  have hn' : t.tracker n = v := by rw [ht, if_pos rfl]
  exact axesOk_of_moved h.axes hd ho.device.device ho.available hn
    (.of_tracking ho ht (fun a ha => by rw [hposted a, if_neg ha]) fun a _ => by simp only [State.pendingPass, hp])
    ((h.axes n).base.becomes hs hposted (by rw [hn', hv]) hn hp) (by rw [ho.axisConfig, hn']; exact hok)

/-- The tracker stays sure or unsure as it is (R58, R61 to R64, R70). -/
theorem axesOk_keeps {v : Tracker} (hc : t.conditions = s.conditions) (ht : ∀ a, t.tracker a = if a = n then v else s.tracker a)
    (hp : ∀ a, t.pendingPass a = s.pendingPass a ∨ a = n ∧ (s.tracker n).sure = true ∧ ∀ d ∈ s.pendingConditions n, d.kind ≠ .sure)
    (hv : v.sure = (s.tracker n).sure) (hok : TrackerOk (s.axisConfig n) v) : AxesOk t := by
  have hn' : t.tracker n = v := by rw [ht, if_pos rfl]
  exact axesOk_of_moved h.axes hd ho.device.device ho.available hn
    (.of_tracking ho ht (fun a _ => by simp only [State.pendingConditions, hc]) fun a ha => (hp a).resolve_right fun e => ha e.1)
    ((h.axes n).base.keeps (by rw [hn', hv]) hc hn fun hs => (hp n).imp (fun e => by rwa [e] at hs) And.right)
    (by rw [ho.axisConfig, hn']; exact hok)

end

/-- A tracker that a frame has put into LOST (R69, R70). -/
theorem trackerOk_lost {s : State} {n : Axis} {k : Tracker} {c : AxisConfig} {cause : LostCause} (hlive : k.live.isSome = true → k.state = .tracking)
    (hposition : k.position.isSome = true) (hsequence : k.sequence.isSome = true) : TrackerOk c (lostTracker s n k cause) := by
  refine trackerOk_left (by simp [lostTracker]) rfl ?_ rfl (by simp [lostTracker, hposition]) (fun _ => hsequence)
    (by simp [lostTracker]) (by simp [lostTracker])
  simp only [lostTracker]
  split
  · rfl
  · next hs =>
    cases hl : k.live with
    | none => rfl
    | some l => exact absurd (hlive (by rw [hl]; rfl)) hs

/-- A frame has put the tracker into LOST; `w` is its record as the judgement counted the frame (R69, R70). -/
theorem axesOk_lost {s t : State} {n : Axis} {w : Tracker} {cause : LostCause} {q : ExtPos} {last : BitVec 4} (h : Good s)
    (hd : s.device = .running) (ho : OnlyTracking s t) (hn : s.now ≤ t.now) (hq : (s.tracker n).position = some q)
    (hlast : (s.tracker n).sequence = some last) (hp : t.passes = s.passes) (hdep : Departs s t n (lostTracker s n w cause))
    (hlive : w.live = (s.tracker n).live) (hstate : w.state = (s.tracker n).state) (hpos : w.position = (s.tracker n).position)
    (hseq : w.sequence = (s.tracker n).sequence) : AxesOk t :=
  axesOk_departs h hd ho hn hp hdep rfl (trackerOk_lost (by rw [hlive, hstate]; exact (h.axes n).tracker.live.mp)
    (by rw [hpos, hq]; rfl) (by rw [hseq, hlast]; rfl))

/-- So it does, and it touches the trackers and the ports alone. -/
theorem tracked {s t : State} (h : Good s) (hd : s.device = .running) (ho : OnlyTracking s t) (ha : AxesOk t)
    (hp : ∀ p, SyncSame (s.port p) (t.port p)) : Good t ∧ OnlyTracking s t := ⟨good_tracking h hd ho ha hp, ho⟩

theorem tracked_sampleFrame {s t : State} {n : Axis} {bits : Nat} {word : BitVec 32} {straddles : Bool} {m : Moment} (h : Good s)
    (ht : exec (.sampleFrame n bits word straddles m) s = .next t) : Good t ∧ OnlyTracking s t := by
  have hfails := framesThatFailTheTests s n bits word straddles m
  by_cases hj : Judged s n straddles
  case neg =>
    rw [hfails.1 hj] at ht
    cases ht
    exact ⟨h, .refl s⟩
  have hd := hj.service.1
  have htr := (h.axes n).tracker
  have hnow := le_momentOf s m
  by_cases hc : Checked bits word
  case neg =>
    obtain ⟨u, hu, hr, ho, hun, hup, huc, hut⟩ := hfails.2.1 hj hc
    cases ht.symm.trans hu
    exact tracked h hd ho (axesOk_keeps h hd ho (hun ▸ hnow) huc hut (fun a => .inl (by simp only [State.pendingPass, hup])) rfl
      (htr.counted hj.enabled rfl)) hr.syncSame
  by_cases hp : Passes bits word
  case neg =>
    obtain ⟨u, hu, hr, ho, hun, hup, huc, hut⟩ := hfails.2.2 hj hc hp
    cases ht.symm.trans hu
    exact tracked h hd ho (axesOk_keeps h hd ho (hun ▸ hnow) huc hut (fun a => .inl (by simp only [State.pendingPass, hup])) rfl
      (htr.counted hj.enabled rfl)) hr.syncSame
  obtain rfl : straddles = false := hj.whole
  cases hstate : (s.tracker n).state with
  | disabled => exact absurd hstate hj.enabled
  | acquiring =>
    obtain ⟨u, hu, hr, ho, hun, hup, hpost, hut⟩ := (framesAcquireTheAxis s n bits word m h hj hp).1 hstate
    cases ht.symm.trans hu
    exact tracked h hd ho (axesOk_becomes h hd ho (hun ▸ hnow) hup (by rw [hstate]; decide) hpost hut rfl
      (trackerOk_accepted (now := t.now) (k := readTracker (s.tracker n) word) (le_single _)
        (htr.cause_none (by rw [hstate]; decide)) rfl)) hr.syncSame
  | tracking =>
    obtain ⟨q, hq⟩ := Option.isSome_iff_exists.mp (htr.position.mpr (.inl hstate))
    obtain ⟨last, hlast⟩ := Option.isSome_iff_exists.mp (htr.sequence (htr.position.mpr (.inl hstate)))
    obtain ⟨live, hlive⟩ := Option.isSome_iff_exists.mp (htr.live.mpr hstate)
    obtain ⟨u, hu, ho, hun, hallowed, hjump⟩ := framesTrackTheAxis s n bits word m last q live h hj hp hstate hlast hq hlive
    cases ht.symm.trans hu
    replace hnow : s.now ≤ t.now := hun ▸ hnow
    set k := withGaps (readTracker (s.tracker n) word) (framesMissed last (sequenceOf word))
    have hlost := fun {cause w} => axesOk_lost (cause := cause) (w := w) h hd ho hnow hq hlast
    rcases Nat.lt_or_ge (min ((s.axisConfig n).maxStep.toNat * (framesMissed last (sequenceOf word) + 1)) 32767)
      (stepTo k.lastAngle (angleOf (s.axisConfig n) word)).natAbs with hstep | hstep
    · obtain ⟨hup, hcounts, hlimit⟩ := hjump hstep
      rcases Nat.lt_or_ge (k.jumpRun.toNat + 1) (s.axisConfig n).jumpLimit.toNat with hrun | hrun
      · obtain ⟨hr, huc, hut⟩ := hcounts hrun
        exact tracked h hd ho (axesOk_keeps h hd ho hnow huc hut (fun a => .inl (by simp only [State.pendingPass, hup])) rfl
          (htr.counted hj.enabled rfl)) hr.syncSame
      · obtain ⟨hr, hdep⟩ := hlimit hrun
        exact tracked h hd ho (hlost hup hdep rfl rfl rfl rfl) hr.syncSame
    · obtain ⟨hin, hout⟩ := hallowed hstep
      by_cases hturn : -2048 ≤ turnAfter q.turn k.lastAngle (angleOf (s.axisConfig n) word) ∧
          turnAfter q.turn k.lastAngle (angleOf (s.axisConfig n) word) ≤ 2047
      · obtain ⟨hr, huc, hup, hut⟩ := hin hturn.1 hturn.2
        have hsure : (s.tracker n).sure = true := htr.sure.mpr hstate
        refine tracked h hd ho (axesOk_keeps h hd ho hnow huc hut (fun a => ?_) rfl
          (trackerOk_accepted (now := t.now) (k := k) (sequence := sequenceOf word)
            (x := ⟨BitVec.ofInt 12 (turnAfter q.turn k.lastAngle (angleOf (s.axisConfig n) word)), angleOf (s.axisConfig n) word⟩)
            (le_widen live _) (htr.cause_none (by rw [hstate]; decide)) ?_)) hr.syncSame
        · rw [hup a]
          by_cases e : a = n ∧ ∀ d ∈ s.pendingConditions n, d.kind ≠ .sure
          · exact .inr ⟨e.1, hsure, e.2⟩
          · rw [if_neg e]; exact .inl rfl
        · rw [acceptedAt_tracking (k := k) hstate, widen_eq, ← hsure]
          rfl
      · obtain ⟨hr, hup, hdep⟩ := hout (by omega)
        exact tracked h hd ho (hlost hup hdep rfl rfl rfl rfl) hr.syncSame
  | stale =>
    obtain ⟨q, hq⟩ := Option.isSome_iff_exists.mp (htr.position.mpr (.inr (.inl hstate)))
    obtain ⟨last, hlast⟩ := Option.isSome_iff_exists.mp (htr.sequence (htr.position.mpr (.inr (.inl hstate))))
    obtain ⟨u, hu, ho, hup, hun, hallowed, hslip⟩ := framesRecoverOrLoseTheAxis s n bits word m last q h hj hp hstate hlast hq
    cases ht.symm.trans hu
    replace hnow : s.now ≤ t.now := hun ▸ hnow
    set k := withGaps (readTracker (s.tracker n) word) (framesMissed last (sequenceOf word))
    have hlost := fun {cause w} => axesOk_lost (cause := cause) (w := w) h hd ho hnow hq hlast
    rcases Nat.lt_or_ge (min ((s.axisConfig n).maxStep.toNat * (framesMissed last (sequenceOf word) + 1)) 32767)
      (stepTo k.lastAngle (angleOf (s.axisConfig n) word)).natAbs with hstep | hstep
    · obtain ⟨hr, hdep⟩ := hslip hstep
      exact tracked h hd ho (hlost hup hdep rfl rfl rfl rfl) hr.syncSame
    · obtain ⟨hin, hout⟩ := hallowed hstep
      by_cases hturn : -2048 ≤ turnAfter q.turn k.lastAngle (angleOf (s.axisConfig n) word) ∧
          turnAfter q.turn k.lastAngle (angleOf (s.axisConfig n) word) ≤ 2047
      · obtain ⟨hr, hpost, hut⟩ := hin hturn.1 hturn.2
        exact tracked h hd ho (axesOk_becomes h hd ho hnow hup (by rw [hstate]; decide) hpost hut rfl
          (trackerOk_accepted (now := t.now) (k := k) (le_single _) (htr.cause_none (by rw [hstate]; decide)) rfl)) hr.syncSame
      · obtain ⟨hr, hdep⟩ := hout (by omega)
        exact tracked h hd ho (hlost hup hdep rfl rfl rfl rfl) hr.syncSame
  | lost =>
    obtain ⟨u, hu, hr, ho, hun, hup, huc, hut⟩ := (framesAcquireTheAxis s n bits word m h hj hp).2 hstate
    cases ht.symm.trans hu
    exact tracked h hd ho (axesOk_keeps h hd ho (hun ▸ hnow) huc hut (fun a => .inl (by simp only [State.pendingPass, hup])) rfl
      (htr.counted hj.enabled rfl)) hr.syncSame

theorem tracked_stalenessExpiry {s t : State} {n : Axis} {m : Moment} (h : Good s) (ht : exec (.stalenessExpiry n m) s = .next t) :
    Good t ∧ OnlyTracking s t := by
  have htr := (h.axes n).tracker
  by_cases hc : (s.inService && decide ((s.tracker n).state = .tracking) && (s.tracker n).timer.isSome) = true
  · have hcond := hc
    rw [Bool.and_eq_true, Bool.and_eq_true, inService_iff, decide_eq_true_eq] at hcond
    obtain ⟨⟨⟨hd, hheld⟩, hstate⟩, htimer⟩ := hcond
    obtain ⟨u, hu, hr, ho, hun, hup, hdep⟩ := stalenessMakesTheAxisStale s n m h hd hheld hstate (Option.isSome_iff_ne_none.mp htimer)
    cases ht.symm.trans hu
    have hposition := htr.position.mpr (.inl hstate)
    refine tracked h hd ho (axesOk_departs h hd ho (hun ▸ le_momentOf s m) hup hdep rfl
      (trackerOk_left (by simp) rfl rfl rfl (by simpa using hposition) (fun _ => htr.sequence hposition) ?_ (by simp))) hr.syncSame
    have := htr.cause_none (by rw [hstate]; decide)
    simp [this]
  · have hsame : exec (.stalenessExpiry n m) s = .next s := by
      change execStalenessExpiry n m s = _
      unfold execStalenessExpiry
      exact if_neg hc
    rw [hsame] at ht
    cases ht
    exact ⟨h, .refl s⟩

/-- A tracker that a resynchronisation has put into ACQUIRING or DISABLED (R74, R75). -/
theorem trackerOk_resynced {s : State} {n : Axis} {c : AxisConfig} {state : TrackerState} {turn : Option Turn}
    {sequence : Option (BitVec 4)} (hstate : state = .acquiring ∨ state = .disabled) :
    TrackerOk c (resyncedTracker s n state turn sequence) := by
  refine trackerOk_left ?_ rfl rfl rfl ?_ (fun hp => by cases hp) ?_ fun _ => ⟨rfl, rfl⟩
  all_goals rcases hstate with rfl | rfl <;> simp [resyncedTracker]

/-! ### SET_AXIS (R158 to R161) -/

theorem maxStepOf_ne_zero {w : Half} {m : BitVec 15} (h : maxStepOf w = some m) : m ≠ 0 := by
  unfold maxStepOf at h
  split at h
  · next hw =>
    cases h
    intro h0
    have := congrArg BitVec.toNat h0
    simp only [BitVec.toNat_setWidth, BitVec.ofNat_eq_ofNat, BitVec.toNat_ofNat] at this
    omega
  · cases h

theorem jumpLimitOf_ne_zero {b : Byte} {m : BitVec 4} (h : jumpLimitOf b = some m) : m ≠ 0 := by
  unfold jumpLimitOf at h
  split at h
  · next hw =>
    cases h
    intro h0
    have := congrArg BitVec.toNat h0
    simp only [BitVec.toNat_setWidth, BitVec.ofNat_eq_ofNat, BitVec.toNat_ofNat] at this
    omega
  · cases h

theorem named_eq_some {α : Type} {present : Bool} {v : Option α} {x : α} (h : named present v = some (some x)) : v = some x := by
  unfold named at h
  split at h
  · obtain ⟨y, hy, e⟩ := Option.map_eq_some_iff.mp h
    cases e
    exact hy
  · cases h

/-- The values that a SET_AXIS names are in their ranges (R158). -/
theorem parseSetAxis_ranges {payload : List Byte} {n : Axis} {x : AxisChange} (h : parseSetAxis payload = some (n, x)) :
    (∀ m, x.maxStep = some m → m ≠ 0) ∧ ∀ m, x.jumpLimit = some m → m ≠ 0 := by
  unfold parseSetAxis at h
  split at h
  · split at h
    · cases h
    · split at h
      · next hmax hjump _ =>
        cases h
        refine ⟨fun m hm => ?_, fun m hm => ?_⟩
        · dsimp only at hm
          rw [hm] at hmax
          exact maxStepOf_ne_zero (named_eq_some hmax)
        · dsimp only at hm
          rw [hm] at hjump
          exact jumpLimitOf_ne_zero (named_eq_some hjump)
      · cases h
  · cases h

theorem rangesOk_setAxisConfig {s : State} {payload : List Byte} {n : Axis} {x : AxisChange} (h : RangesOk s)
    (hx : parseSetAxis payload = some (n, x)) : RangesOk (s.setAxisConfig n (x.apply (s.axisConfig n))) := by
  obtain ⟨hmax, hjump⟩ := parseSetAxis_ranges hx
  intro m
  rw [State.setAxisConfig_at]
  split
  · refine ⟨?_, ?_⟩
    · change x.maxStep.getD (s.axisConfig n).maxStep ≠ 0
      cases hm : x.maxStep with
      | none => exact (h n).1
      | some m => exact hmax m hm
    · change x.jumpLimit.getD (s.axisConfig n).jumpLimit ≠ 0
      cases hm : x.jumpLimit with
      | none => exact (h n).2
      | some m => exact hjump m hm
  · exact h m

/-- A change of the staleness alone starts, restarts or stops the timer (R67). -/
theorem trackerOk_retimed {c d : AxisConfig} {t : Tracker} (h : TrackerOk c t) (now : Nat) : TrackerOk d (retimed c d now t) := by
  rw [retimed_eq]
  split
  · next hc =>
    have hstate : t.state = .tracking := hc.2.elim (fun ht => (h.timer.mp (Option.isSome_iff_ne_none.mpr ht)).1) And.right
    refine ⟨h.sure, h.live, ?_, h.position, h.sequence, h.cause, h.disabled, h.span⟩
    by_cases hz : d.staleness = 0 <;> simp [timerFrom, hz, hstate]
  · next hc =>
    refine ⟨h.sure, h.live, ?_, h.position, h.sequence, h.cause, h.disabled, h.span⟩
    by_cases hst : d.staleness = c.staleness
    · rw [hst]; exact h.timer
    · have hno : ¬(t.timer ≠ none ∨ (c.staleness = 0 ∧ t.state = .tracking)) := fun hy => hc ⟨hst, hy⟩
      rw [not_or, not_not] at hno
      have hnot : t.state ≠ .tracking := fun ht => by
        have : t.timer.isSome = true := h.timer.mpr ⟨ht, fun hz => hno.2 ⟨hz, ht⟩⟩
        rw [hno.1] at this
        cases this
      simp [hno.1, hnot]

theorem goodWork_setAxis {s : State} {payload : List Byte} {n : Axis} {x : AxisChange} (h : Good s) (hd : s.device = .running)
    (hx : parseSetAxis payload = some (n, x)) (item : ItemNo) (changed : Bool) (bytes : List Byte) :
    GoodWork (configEnding (axisEffect n (s.axisConfig n) (x.apply (s.axisConfig n)) (s.setAxisConfig n (x.apply (s.axisConfig n))))
      item changed [] bytes).work := by
  set c := s.axisConfig n
  set d := x.apply c
  set u := s.setAxisConfig n d with hu
  have hranges : RangesOk u := rangesOk_setAxisConfig h.ranges hx
  have hbase : AxisBase u n := ⟨⟨(h.axes n).tracker.sure, (h.axes n).conditions⟩, (h.axes n).base.dated, (h.axes n).pass⟩
  have hconfig (m : Axis) : u.axisConfig m = if m = n then d else s.axisConfig m := State.setAxisConfig_at ..
  have hleaves : WorkLeaves s (axisEffect n c d u) := (workLeaves_setAxisConfig s n d).trans (workLeaves_axisEffect ..)
  suffices hw : OnlyTracking u (axisEffect n c d u) ∧ AxisMoved u (axisEffect n c d u) n ∧ OtherAxes u (axisEffect n c d u) n ∧
      TrackerOk d ((axisEffect n c d u).tracker n) by
    obtain ⟨ho, hmoved, hother, htr⟩ := hw
    have hzone (i : SlotNo) : (axisEffect n c d u).zone i = s.zone i := by simp only [State.zone, ho.table.slots]; rfl
    have hdwell (i : SlotNo) : (axisEffect n c d u).dwell i = s.dwell i := by simp only [State.dwell, ho.dwells]; rfl
    refine .of_leaves h hd hleaves (fun i => ?_) (h.table.congr hleaves.device.device ⟨ho.table.absolute, ho.table.periodic⟩
      (.of_slots ho.table.slots)) ?_ (hranges.congr ho.config.axes) fun l _ => lineRecordOf_congr ho.table.slots ho.config.lines l
    · change SlotOk ((axisEffect n c d u).zone i) ((axisEffect n c d u).dwell i)
      rw [hzone, hdwell]
      exact h.slot i
    · refine axesOk_of_moved h.axes hd hleaves.device.device ho.available hleaves.now.ge ⟨fun m hm => ?_, hother.tracker, hother.conditions, hother.pass⟩
        ⟨hmoved.conditions, hmoved.dated, hmoved.pass⟩ ?_
      · change (axisEffect n c d u).axisConfig m = _
        rw [hother.config m hm, hconfig, if_neg hm]
      · change TrackerOk ((axisEffect n c d u).axisConfig n) ((axisEffect n c d u).tracker n)
        rw [ho.axisConfig, hconfig, if_pos rfl]
        exact htr
  cases hf : forcesResync c d with
  | true =>
    have hl := axisEffect_forced hbase.depart hf
    have hdep : Departs u (axisEffect n c d u) n _ := hl.departs (w := u.tracker n) (fun a => by split <;> simp_all) rfl rfl
    refine ⟨hl.step.only, hbase.departs hdep rfl hl.now.ge hl.passes,
      .of_tracking hl.step.only hdep.tracker hdep.other fun a _ => by simp only [State.pendingPass, hl.passes], ?_⟩
    rw [hl.step.same]
    refine trackerOk_resynced ?_
    split
    · exact .inl rfl
    · exact .inr rfl
  | false =>
    rw [axisEffect_unforced hf]
    have hstep := trackerStep_setTracker u n (retimed c d u.now (u.tracker n))
    have htr : TrackerOk d (retimed c d u.now (u.tracker n)) := trackerOk_retimed (h.axes n).tracker u.now
    refine ⟨hstep.only, hbase.keeps ?_ rfl le_rfl .inl, .of_tracking hstep.only hstep.tracker (fun a _ => rfl) fun a _ => rfl, ?_⟩
    · rw [hstep.same, retimed_eq]
      split <;> rfl
    · rw [hstep.same]
      exact htr

end Sys2Proof.Machine
end

section
/-! Every grant of a table command keeps all that a run keeps (chapters 1 to 3 and 9). -/

namespace Sys2Proof.Machine

/-! ### The work of the other commands -/

section
variable {s : State} (h : Good s) (hd : s.device = .running)

include h hd

/-- A command that changes nothing. -/
theorem goodWork_same (items : List ItemNo) (notices : List Notice) : GoodWork { state := s, items := items, notices := notices } :=
  .of_leaves h hd (.refl s) h.slot h.table h.axes h.ranges fun _ _ => rfl

theorem goodWork_arm {i : SlotNo} {z : Zone} (hz : s.zone i = some z) (available : Bool) (entered : Bool) :
    GoodWork (changedZone i z (restarted available { z with armed := true }) entered s).work := by
  have hok := h.zones i z hz
  rw [restarted_eq]
  exact goodWork_changedZone h hd hz (zoneOk_restart (z := { z with armed := true }) hok.incarnation hok.bounds hok.label available)
    (fun e => restartOccupancy_ne_qualifying _ _ _ _ e)
    rfl rfl rfl rfl

theorem goodWork_clear {i : SlotNo} {z : Zone} (hz : s.zone i = some z) (available : Bool) (entered : Bool) :
    GoodWork (changedZone i z (restarted available z) entered s).work := by
  have hok := h.zones i z hz
  rw [restarted_eq]
  exact goodWork_changedZone h hd hz (zoneOk_restart hok.incarnation hok.bounds hok.label available)
    (fun e => restartOccupancy_ne_qualifying _ _ _ _ e)
    rfl rfl rfl rfl

theorem goodWork_disarm {i : SlotNo} {z : Zone} (hz : s.zone i = some z) (entered : Bool) :
    GoodWork (changedZone i z ({ z with armed := false }.withOccupancy .unknown) entered s).work := by
  have hok := h.zones i z hz
  refine goodWork_changedZone h hd hz ⟨hok.incarnation, hok.bounds, hok.label, ?_, fun _ => rfl, nofun, nofun, nofun⟩ nofun
    rfl rfl rfl rfl
  simp [Zone.withOccupancy]

theorem goodWork_releasedAll (p : Port) : GoodWork (releasedAll p s).1 := by
  have hr := released_releasedAll p s
  obtain ⟨v, hv⟩ := hr.frame
  have hdwell (i : SlotNo) : (releasedAll p s).1.state.dwell i = s.dwell i := by rw [hv]; rfl
  have hzone (i : SlotNo) : (releasedAll p s).1.state.zone i = s.zone i ∨
      ∃ z, s.zone i = some z ∧ (releasedAll p s).1.state.zone i = some { z with owner := .shared } := by
    cases hown : ownedBy s p i with
    | false => exact .inl (zone_congr (hr.kept i fun _ => hown))
    | true =>
      unfold ownedBy at hown
      split at hown
      · next z hz =>
        exact .inr ⟨z, hz, zone_of_slot (hr.done i (List.mem_finRange i) z hz (of_decide_eq_true hown))⟩
      · cases hown
  refine .of_leaves h hd (workLeaves_releasedAll p s) (fun i => ?_) (h.table.congr (by rw [hv]) ⟨by rw [hv], by rw [hv]⟩ fun i => ?_)
    (h.axes.congr (by rw [hv]) (by rw [hv]) (by rw [hv]) ⟨by rw [hv], by rw [hv], by rw [hv], by rw [hv]⟩ (by rw [hv]))
    (h.ranges.congr (by rw [hv])) fun l _ => lineRecordOf_of_driven (fun i => ?_) (by rw [hv])
  · rw [hdwell]
    rcases hzone i with e | ⟨z, hz, e⟩
    · rw [e]; exact h.slot i
    · rw [e]
      obtain ⟨hok, htimer⟩ := (h.slot i).1 z hz
      exact slotOk_some.mpr ⟨⟨hok.incarnation, hok.bounds, hok.label, hok.tripMark, hok.disarmed, hok.qualifying, hok.inside, hok.tripped⟩,
        ⟨htimer.held, htimer.own⟩⟩
  · rcases hzone i with e | ⟨z, hz, e⟩
    · rw [e]
    · rw [e, hz]; rfl
  · rcases hzone i with e | ⟨z, hz, e⟩
    · rw [e]
    · rw [e, hz]; rfl

omit h hd in
theorem mem_allLines (l : LineNo) : l ∈ allLines := List.mem_finRange l

/-- The work of every table command keeps all that a run keeps. -/
theorem goodWork_actOf (c : TableCommand) (p : Port) (payload : List Byte) : GoodWork (actOf c p payload s).work := by
  have hnothing {e : Ending} (he : ChangesNothing s e) : GoodWork e.work := by
    rw [show e.work = { state := s } from he]
    exact goodWork_same h hd [] []
  cases c <;> simp only [actOf]
  case create =>
    rcases actCreate_cases p payload s with he | ⟨x, i, r, hx, he⟩
    · exact hnothing he
    · rw [he]; exact goodWork_createTaken h hd hx
  case amend =>
    rcases actAmend_cases p payload s with he | ⟨x, z, y, hx, he⟩
    · exact hnothing he
    · rw [he]; exact goodWork_amendTaken h hd hx
  case retire =>
    rcases actRetire_cases p payload s with he | ⟨x, z, _, hz, _, he⟩
    · exact hnothing he
    · rw [he]; exact goodWork_retireTaken h hd hz.zone
  case arm =>
    rcases actArm_cases p payload s with he | ⟨x, z, _, hz, _, he⟩
    · exact hnothing he
    · rw [he]; exact goodWork_arm h hd hz.zone _ _
  case disarm =>
    rcases actDisarm_cases p payload s with he | ⟨x, z, _, hz, _, _, he⟩
    · exact hnothing he
    · rw [he]; exact goodWork_disarm h hd hz.zone _
  case clear =>
    rcases actClear_cases p payload s with he | ⟨x, z, _, hz, _, he⟩
    · exact hnothing he
    · rw [he]; exact goodWork_clear h hd hz.zone _ _
  case transfer =>
    rcases actTransfer_cases p payload s with he | ⟨x, choice, z, _, hz, _, he⟩
    · exact hnothing he
    · rw [he]; exact goodWork_transferred h hd hz.zone
  case releaseAll =>
    rcases actReleaseAll_cases p payload s with he | ⟨_, he⟩
    · exact hnothing he
    · simp only [he]; exact goodWork_releasedAll h hd p
  case reclaim =>
    rcases actReclaim_cases p payload s with he | ⟨i, _, _, hi, he⟩
    · exact hnothing he
    · rw [he]; exact goodWork_reclaimed h hd hi
  case readZone => exact hnothing (actReadZone_changesNothing ..)
  case find => exact hnothing (actFind_changesNothing ..)
  case list => exact hnothing (actList_changesNothing ..)
  case setAxis =>
    rcases actSetAxis_cases p payload s with he | ⟨n, x, hx, _, he⟩
    · exact hnothing he
    · rw [he]; exact goodWork_setAxis h hd hx _ _ _
  case setLines =>
    rcases actSetLines_cases p payload s with he | ⟨x, _, _, he⟩
    · exact hnothing he
    · rw [he]
      exact .of_leaves h hd (workLeaves_setLineConfig ..) h.slot (h.table.congr rfl ⟨rfl, rfl⟩ (.of_slots rfl))
        (h.axes.congr rfl rfl rfl ⟨rfl, rfl, rfl, rfl⟩ le_rfl) (h.ranges.congr rfl) fun l hl => (hl (mem_allLines l)).elim
  case setPorts =>
    rcases actSetPorts_cases p payload s with he | ⟨x, _, he⟩
    · exact hnothing he
    · rw [he]
      exact .of_leaves h hd (workLeaves_setPortConfig ..) h.slot (h.table.congr rfl ⟨rfl, rfl⟩ (.of_slots rfl))
        (h.axes.congr rfl rfl rfl ⟨rfl, rfl, rfl, rfl⟩ le_rfl) (h.ranges.congr rfl) fun l _ => lineRecordOf_congr rfl rfl l
  case freeze =>
    rcases actFreeze_cases p payload s with he | ⟨l, _, _, he⟩
    · exact hnothing he
    · rw [he]
      exact .of_leaves h hd (workLeaves_setFreeze ..) h.slot (h.table.congr rfl ⟨rfl, rfl⟩ (.of_slots rfl))
        (h.axes.congr rfl rfl rfl ⟨rfl, rfl, rfl, rfl⟩ le_rfl) (h.ranges.congr rfl) fun l _ => lineRecordOf_congr rfl rfl l
  case readConfig => exact hnothing (actReadConfig_changesNothing ..)

end

/-! ### Grants -/

/-- A table as a grant begins keeps what a run keeps (R15). -/
theorem good_beginGrant {s : State} (h : Good s) (hd : s.device = .running) (p : Port) : Good (beginGrant p s) :=
  ⟨h.ranges.congr rfl, h.zones.congr rfl, h.dwells.congr rfl rfl, h.table.congr rfl ⟨rfl, rfl⟩ (.of_slots rfl),
    h.axes.congr rfl rfl rfl ⟨rfl, rfl, rfl, rfl⟩ (Nat.le_succ _), h.lines.congr rfl rfl rfl rfl, h.store.congr rfl ⟨rfl, rfl⟩ rfl,
    h.wear.congr ⟨rfl, rfl, rfl, rfl⟩, h.sweep.congr rfl ⟨rfl, rfl⟩, fun q => (h.sync q).congr (.of_slot rfl rfl) (noMark_congr ⟨rfl, rfl⟩ q),
    h.device.of_running hd ⟨rfl, rfl, rfl, rfl⟩⟩

/-- The claim that a port is granted for: its waiting command, or the one whose grant runs on without it (R15, R174). -/
theorem granted_eq_some {s : State} {p : Port} {g : Granted} (h : granted s p = some g) :
    (g.tag = none ∧ s.running = some ⟨p, g.command, g.payload⟩) ∨ ∃ tag, g.tag = some tag ∧ Due s p g.command tag g.payload := by
  unfold granted at h
  cases hr : s.running with
  | some r =>
    rw [hr] at h
    dsimp only at h
    split at h
    · next hp =>
      cases h
      refine .inl ⟨rfl, ?_⟩
      rw [← hp]
    · cases h
  | none =>
    rw [hr] at h
    dsimp only at h
    split at h
    · next hnext =>
      split at h
      · next c tag payload hslot =>
        cases h
        exact .inr ⟨tag, rfl, hr, hnext, hslot⟩
      · cases h
    · cases h

theorem Good.running_of_granted {s : State} (h : Good s) {p : Port} {g : Granted} (hg : granted s p = some g) : s.device = .running := by
  rcases granted_eq_some hg with ⟨_, hr⟩ | ⟨tag, _, hdue⟩
  · cases hd : s.device with
    | running => rfl
    | starting => rw [(h.device.rests hd).running] at hr; cases hr
  · exact hdue.running

theorem good_tableGrant {s : State} (h : Good s) (p : Port) (c : TableCommand) : Good (tableGrant p c (actOf c) s) := by
  unfold tableGrant
  cases hg : granted s p with
  | none => exact h
  | some g =>
    dsimp only
    split
    · have hd := h.running_of_granted hg
      have hgood := good_handOver (goodWork_actOf (good_beginGrant h hd p) hd c p g.payload)
      have hslot : ((handOver (actOf c p g.payload (beginGrant p s)).work).port p).slot = (s.port p).slot := by
        rw [(handedOver _).ports p]
        have hports := (workLeaves_actOf c p g.payload (beginGrant p s)).ports
        simp only [State.port, hports]
        rfl
      have hdev : (handOver (actOf c p g.payload (beginGrant p s)).work).device = .running := by
        rw [(handedOver _).device.device, (workLeaves_actOf c p g.payload (beginGrant p s)).device.device]
        exact hd
      rcases granted_eq_some hg with ⟨htag, _⟩ | ⟨tag, htag, hdue⟩
      · rw [htag]
        exact hgood
      · rw [htag]
        refine good_setPort hgood ⟨rfl, ?_⟩ fun hs => by rw [hdev] at hs; cases hs
        rw [hslot, hdue.slot]
        simp
    · exact h

end Sys2Proof.Machine
end

section
/-! Every grant of the evaluator, and the running out of a dwell timer, keeps all that a run keeps (chapter 5). -/

namespace Sys2Proof.Machine

/-! ### The zones that the evaluator makes (R86 to R88, R91, R94, R95) -/

/-- A zone whose judgement gave it another occupancy is as the rules let it be, where the occupancy is one of its action and its
dwell. -/
theorem zoneOk_judged {z : Zone} (h : ZoneOk z) (harmed : z.armed = true) {o : Occupancy} (hq : o = .qualifying → z.dwell ≠ 0)
    (hi : o = .inside → z.action = .follow) (ht : o = .tripped → z.action = .latch) (transits : Byte) :
    ZoneOk { z with occupancy := o, tripMark := decide (o = .tripped), transits := transits } where
  incarnation := h.incarnation
  bounds := h.bounds
  label := h.label
  tripMark := by simp
  disarmed hd := by
    have : z.armed = false := hd
    rw [harmed] at this
    cases this
  qualifying := hq
  inside := hi
  tripped := ht

theorem passOccupancy_qualifying {z : Zone} (h : ZoneOk z) {x : SweptSpan} (ho : passOccupancy z x = .qualifying) : z.dwell ≠ 0 := by
  unfold passOccupancy at ho
  split at ho
  · next hq => exact h.qualifying hq
  · split at ho
    · split at ho <;> cases ho
    · split at ho
      · split at ho
        · next hd => exact hd
        · split at ho <;> cases ho
      · split at ho <;> cases ho

theorem passOccupancy_inside {z : Zone} (h : ZoneOk z) {x : SweptSpan} (ho : passOccupancy z x = .inside) : z.action = .follow := by
  unfold passOccupancy at ho
  split at ho
  · split at ho <;> cases ho
  · split at ho
    · next hi => exact h.inside hi
    · split at ho
      · split at ho
        · cases ho
        · split at ho
          · cases ho
          · next hl => cases ha : z.action <;> simp_all
      · split at ho <;> cases ho

theorem passOccupancy_tripped {z : Zone} {x : SweptSpan} (ho : passOccupancy z x = .tripped) : z.action = .latch := by
  unfold passOccupancy at ho
  split at ho
  · split at ho <;> cases ho
  · split at ho
    · split at ho <;> cases ho
    · split at ho
      · split at ho
        · cases ho
        · split at ho
          · next hl => exact hl
          · cases ho
      · split at ho
        · next hl => exact hl.2.2.2
        · cases ho

theorem zoneOk_passed {z : Zone} (h : ZoneOk z) (harmed : z.armed = true) (x : SweptSpan) : ZoneOk (passedZone z x) :=
  zoneOk_judged h harmed (passOccupancy_qualifying h) (passOccupancy_inside h) passOccupancy_tripped _

theorem timerOk_passed {z : Zone} {d : Option DwellTimer} (h : TimerOk z d) (x : SweptSpan) (now : Nat) :
    TimerOk (passedZone z x) (passedTimer z x now d) := by
  unfold passedTimer
  by_cases hnew : passOccupancy z x = .qualifying
  · rw [if_pos hnew]
    split
    · next hold => exact ⟨by rw [h.held]; simp [passedZone, hnew, hold], h.own⟩
    · refine ⟨by simp [passedZone, hnew], fun y hy => ?_⟩
      cases hy
      exact ⟨rfl, rfl⟩
  · rw [if_neg hnew]
    split
    · exact timerOk_none hnew
    · next hold => exact ⟨by rw [h.held]; simp [passedZone, hnew, hold], h.own⟩

theorem zoneOk_completed {z : Zone} (h : ZoneOk z) (harmed : z.armed = true) : ZoneOk (zoneAt z (completedOccupancy z.action)) := by
  refine zoneOk_judged h harmed (fun e => ?_) (fun e => ?_) (fun e => ?_) z.transits
  all_goals
    revert e
    cases z.action <;> simp [completedOccupancy]

/-- What an axis condition makes of a zone is of its action, and is not QUALIFYING (R94, R95). -/
theorem zoneOk_conditioned {z : Zone} (h : ZoneOk z) (harmed : z.armed = true) (k : ConditionKind) :
    ZoneOk (zoneAt z (conditionOccupancy k z)) ∧ conditionOccupancy k z ≠ .qualifying := by
  have hne : conditionOccupancy k z ≠ .qualifying := by
    cases k with
    | sure => simp [conditionOccupancy]
    | unsure =>
      rw [conditionOccupancy, policyOccupancy_eq]
      unfold unsureOccupancy
      split <;> simp
  refine ⟨zoneOk_judged h harmed (fun e => (hne e).elim) (fun e => ?_) (fun e => ?_) z.transits, hne⟩
  all_goals
    cases k with
    | sure => simp [conditionOccupancy] at e
    | unsure =>
      rw [conditionOccupancy, policyOccupancy_eq] at e
      have hinside := h.inside
      have htripped := h.tripped
      unfold unsureOccupancy at e
      split at e <;> simp_all

/-! ### The work of a judgement -/

/-- The axes do not depend on the dwell timers. -/
theorem AxesOk.of_same {s t : State} (h : AxesOk s) (hd : t.device = s.device) (hc : t.axes = s.axes) (ht : t.trackers = s.trackers)
    (ha : t.available = s.available) (hk : t.conditions = s.conditions) (hp : t.passes = s.passes) (hn : s.now ≤ t.now) : AxesOk t :=
  fun n => (h n).congr hd (by simp only [State.axisConfig, hc]) (by simp only [State.tracker, ht]) (by rw [ha])
    (by simp only [State.pendingConditions, hk]) (by simp only [State.pendingPass, hp]; exact .inl) hn

/-- What a judgement may make of a zone: a record as the rules let it be, of the same definition and place, with a dwell timer of
its own. -/
structure Judgement.Keeps (g : Judgement) (now : Nat) : Prop where
  ok : ∀ z d, g.acts z = true → ZoneOk z → TimerOk z d → ZoneOk (g.zone z) ∧ TimerOk (g.zone z) (g.timer z now d)
  outline : ∀ z, (g.zone z).axis = z.axis ∧ (g.zone z).bounds = z.bounds ∧ (g.zone z).exclusive = z.exclusive
  driving : ∀ z, (g.zone z).line = z.line ∧ (g.zone z).incarnation = z.incarnation ∧ (g.zone z).priority = z.priority

theorem keeps_passJudgement (x : SweptSpan) (now : Nat) : (passJudgement x).Keeps now :=
  ⟨fun z _ ha hz hd => ⟨zoneOk_passed hz ((evaluated_iff z).mp ha).1 x, timerOk_passed hd x now⟩, fun _ => ⟨rfl, rfl, rfl⟩,
    fun _ => ⟨rfl, rfl, rfl⟩⟩

theorem keeps_settleJudgement (n : Axis) (k : ConditionKind) (now : Nat) : (settleJudgement n (conditionOccupancy k)).Keeps now := by
  refine ⟨fun z d ha hz _ => ?_, fun _ => ⟨rfl, rfl, rfl⟩, fun _ => ⟨rfl, rfl, rfl⟩⟩
  simp only [settleJudgement, Bool.and_eq_true] at ha
  obtain ⟨hok, hne⟩ := zoneOk_conditioned hz ((evaluated_iff z).mp ha.1).1 k
  exact ⟨hok, timerOk_none hne⟩

/-- A visited slot is as it was, or holds what the judgement made of its zone. -/
theorem Judgement.Visited.cases {g : Judgement} {s : State} {l : List SlotNo} {w : Work} (h : g.Visited s l w) (i : SlotNo) :
    (w.state.zone i = s.zone i ∧ w.state.dwell i = s.dwell i) ∨
      ∃ z, i ∈ l ∧ g.actsAt s i z ∧ w.state.zone i = some (g.zone z) ∧ w.state.dwell i = g.timer z s.now (s.dwell i) := by
  by_cases ha : i ∈ l ∧ ∃ z, g.actsAt s i z
  · obtain ⟨hi, z, hz⟩ := ha
    obtain ⟨h1, h2⟩ := h.acted i hi z hz
    exact .inr ⟨z, hi, hz, zone_of_slot h1, h2⟩
  · obtain ⟨h1, h2⟩ := h.kept i fun hi z hz => ha ⟨hi, z, hz⟩
    exact .inl ⟨zone_congr h1, h2⟩

/-- The part as an evaluator's grant begins keeps what a run keeps (R15). -/
theorem good_beginEvaluation {s : State} (h : Good s) (hd : s.device = .running) : Good (beginEvaluation s) :=
  ⟨h.ranges.congr rfl, h.zones.congr rfl, h.dwells.congr rfl rfl, h.table.congr rfl ⟨rfl, rfl⟩ (.of_slots rfl),
    h.axes.congr rfl rfl rfl ⟨rfl, rfl, rfl, rfl⟩ (Nat.le_succ _), h.lines.congr rfl rfl rfl rfl, h.store.congr rfl ⟨rfl, rfl⟩ rfl,
    h.wear.congr ⟨rfl, rfl, rfl, rfl⟩, h.sweep.congr rfl ⟨rfl, rfl⟩, fun q => (h.sync q).congr (.of_slot rfl rfl) (noMark_congr ⟨rfl, rfl⟩ q),
    h.device.of_running hd ⟨rfl, rfl, rfl, rfl⟩⟩

/-- The work of a judgement keeps all that a run keeps, where what precedes the visits leaves the slots and their timers alone and
keeps the axes in order. -/
theorem Judgement.Visited.goodWork {g : Judgement} {s b : State} {l : List SlotNo} {w w' : Work} (hv : g.Visited b l w) (h : Good s)
    (hd : s.device = .running) (hw' : w'.state = w.state) (hlines : w'.lines = w.lines) (hb : WorkLeaves s b) (hc : SameConfig s b)
    (ht : SameTable s b) (hdw : b.dwells = s.dwells) (ha : AxesOk b) (hg : g.Keeps b.now) : GoodWork w' := by
  obtain ⟨a, c, hframe⟩ := hv.frame
  have hzone (i : SlotNo) : b.zone i = s.zone i := zone_congr (by simp only [State.slot, ht.slots])
  have hdwell (i : SlotNo) : b.dwell i = s.dwell i := by simp only [State.dwell, hdw]
  have hleaves : WorkLeaves b w.state := by
    rw [hframe]
    exact ⟨rfl, rfl, ⟨rfl, rfl, rfl, rfl⟩, ⟨⟨rfl, rfl, rfl, rfl⟩, ⟨rfl, rfl⟩, ⟨rfl, rfl⟩⟩, ⟨rfl, rfl⟩, rfl, rfl⟩
  refine .of_leaves h hd (hw' ▸ hb.trans hleaves) (fun i => ?_) ?_ ?_ ?_ fun x hx => ?_ <;> rw [hw']
  · rcases hv.cases i with ⟨h1, h2⟩ | ⟨z, _, hz, h1, h2⟩
    · rw [h1, h2, hzone, hdwell]
      exact h.slot i
    · rw [h1, h2, hdwell]
      obtain ⟨hok, htimer⟩ := (h.slot i).1 z ((hzone i).symm.trans hz.1)
      exact slotOk_some.mpr (hg.ok z _ hz.2 hok htimer)
  · refine h.table.congr (hleaves.device.device.trans hb.device.device) ⟨by rw [hframe]; exact ht.absolute, by rw [hframe]; exact ht.periodic⟩
      fun i => ?_
    rcases hv.cases i with ⟨h1, _⟩ | ⟨z, _, hz, h1, _⟩
    · rw [h1, hzone]
    · obtain ⟨haxis, hbounds, hexcl⟩ := hg.outline z
      rw [h1, ← hzone, hz.1, Option.map_some, Option.map_some, haxis, hbounds, hexcl]
  · rw [hframe]
    exact ha.of_same rfl rfl rfl rfl rfl rfl le_rfl
  · rw [hframe]
    exact h.ranges.congr hc.axes
  · refine lineRecordOf_of_driven (fun i => ?_) (by rw [hframe]; exact hc.lines)
    rcases hv.cases i with ⟨h1, _⟩ | ⟨z, hi, hz, h1, _⟩
    · rw [h1, hzone]
    · obtain ⟨hline, hinc, hprio⟩ := hg.driving z
      rw [h1, ← hzone, hz.1]
      by_cases ho : z.occupancy = (g.zone z).occupancy
      · exact drivenBy_congr hline (by rw [ho]) hinc hprio x
      · have hno : x ∉ linesOf (g.zone z) := fun hm => hx (by
          rw [hlines, hv.lines, List.mem_flatMap]
          refine ⟨i, hi, ?_⟩
          simpa [Judgement.linesAt, hz.1, hz.2, ho] using hm)
        rw [drivenBy_eq_none fun y hy => by cases hy; exact hno,
          drivenBy_eq_none fun y hy => by cases hy; rwa [linesOf, ← hline]]

/-! ### The grants -/

/-- A piece of the evaluator's work that leaves the slots alone. -/
theorem goodWork_unjudged {s u : State} (h : Good s) (hd : s.device = .running) (hu : WorkLeaves s u) (hc : SameConfig s u)
    (ht : SameTable s u) (hdw : u.dwells = s.dwells) (ha : AxesOk u) : GoodWork { state := u } := by
  have hv := Judgement.visited_foldl (passJudgement ⟨⟨⟨0, 0⟩, ⟨0, 0⟩⟩, ⟨0, 0⟩⟩) u List.nodup_nil
  exact hv.goodWork (w' := { state := u }) h hd rfl rfl hu hc ht hdw ha (keeps_passJudgement _ _)

theorem axesOk_setPass_none {s : State} (h : AxesOk s) (n : Axis) : AxesOk (s.setPass n none) := fun m =>
  (h m).congr rfl rfl rfl rfl rfl (fun hp => by
    rw [State.setPass_at] at hp
    split at hp
    · cases hp
    · exact .inl hp) le_rfl

/-- The tracker after a pass has received its span keeps its record (R65, R82). -/
theorem trackerOk_afterPassSpan {c : AxisConfig} {t : Tracker} {x : SweptSpan} (h : TrackerOk c t) (hx : passSpan t = some x) :
    TrackerOk c (afterPassSpan t) ∧ (afterPassSpan t).sure = t.sure := by
  have hfinal : t.held = none → t.position = some x.final := fun hh => by
    unfold passSpan at hx
    rw [hh] at hx
    split at hx
    · next e => cases e
    · next hp _ => cases hx; exact hp
    · next hp _ => cases hx; exact hp
    · cases hx
  rw [afterPassSpan_eq hx]
  split
  · next hl =>
    refine ⟨⟨h.sure, ?_, h.timer, h.position, h.sequence, h.cause, h.disabled, fun l p hlp hpp => ?_⟩, rfl⟩
    · rw [← h.live]
      simpa using Option.isSome_iff_ne_none.mpr hl.2
    · cases hlp
      cases (hfinal hl.1).symm.trans hpp
      exact le_single _
  · exact ⟨h, rfl⟩

theorem goodWork_passWork {s : State} {n : Axis} (h : Good s) (hd : s.device = .running) :
    GoodWork (passWork n (beginEvaluation s)) := by
  have hb := good_beginEvaluation h hd
  have hbd : (beginEvaluation s).device = .running := hd
  cases havail : s.available[n] with
  | false =>
    have hw : passWork n (beginEvaluation s) = { state := (beginEvaluation s).setPass n none } := by
      unfold passWork
      dsimp only
      refine if_neg ?_
      change ¬s.available[n] = true
      simp [havail]
    rw [hw]
    exact goodWork_unjudged hb hbd (workLeaves_setPass _ _ _) ⟨rfl, rfl, rfl, rfl⟩ ⟨rfl, rfl, rfl⟩ rfl (axesOk_setPass_none hb.axes n)
  | true =>
    cases hx : passSpan (s.tracker n) with
    | none =>
      have hw : passWork n (beginEvaluation s) = { state := (beginEvaluation s).setPass n none } := by
        unfold passWork
        dsimp only
        rw [if_pos (by exact havail)]
        split
        · next y hy => cases hx.symm.trans hy
        · rfl
      rw [hw]
      exact goodWork_unjudged hb hbd (workLeaves_setPass _ _ _) ⟨rfl, rfl, rfl, rfl⟩ ⟨rfl, rfl, rfl⟩ rfl
        (axesOk_setPass_none hb.axes n)
    | some x =>
      obtain ⟨w, hw, hv⟩ := passWork_visited havail hx (bothLists_nodup h.table hd n)
      rw [hw]
      have htracker (m : Axis) : (passBegun n s).tracker m = if m = n then afterPassSpan (s.tracker n) else s.tracker m := by
        rw [passBegun, State.setTracker_at]
        rfl
      have hbase := axesOk_setPass_none hb.axes n
      refine hv.goodWork (w' := { w with items := inSlotOrder w.items }) hb hbd rfl rfl
        ((workLeaves_setPass _ n none).trans (workLeaves_setTracker ..)) ⟨rfl, rfl, rfl, rfl⟩ ⟨rfl, rfl, rfl⟩ rfl (fun m => ?_)
        (keeps_passJudgement x _)
      have hm := hbase m
      by_cases hmn : m = n
      · subst hmn
        obtain ⟨hok, hsure⟩ := trackerOk_afterPassSpan (h.axes m).tracker hx
        refine ⟨?_, ?_, hm.pass, hm.dated, hm.posting, fun hs => by cases hs.symm.trans hd⟩
        · rw [htracker, if_pos rfl]
          exact hok
        · rw [htracker, if_pos rfl, hsure]
          exact hm.conditions
      · exact hm.congr rfl rfl (by rw [htracker, if_neg hmn]; rfl) rfl rfl .inl le_rfl

theorem goodWork_expiryWork {s : State} {i : SlotNo} (h : Good s) (hd : s.device = .running) (hi : nextItem s = some (.expiry i)) :
    GoodWork (expiryWork i (beginEvaluation s)) := by
  obtain ⟨d, z, hdw, hz, hq, hinc⟩ := qualifying_of_expiry h hi
  have hb := good_beginEvaluation h hd
  have hok := h.zones i z hz
  have harmed : z.armed = true := by
    rw [← Bool.not_eq_false]
    exact fun e => by cases hq.symm.trans (hok.disarmed e)
  have hw : expiryWork i (beginEvaluation s) = changeZone i z (zoneAt z (completedOccupancy z.action))
      { state := cancelDwell i (beginEvaluation s) } := by
    have hz' : (beginEvaluation s).zone i = some z := hz
    have hd' : (beginEvaluation s).dwell i = some d := hdw
    unfold expiryWork
    simp only [hz', hd', hinc, hq, and_self, if_true]
    rfl
  have hne : z.occupancy ≠ (zoneAt z (completedOccupancy z.action)).occupancy := by
    simp only [zoneAt, hq]
    cases z.action <;> decide
  rw [hw, changeZone_eq]
  have hworked : SlotWorked (beginEvaluation s) ((cancelDwell i (beginEvaluation s)).setSlot i (.live (zoneAt z (completedOccupancy z.action)))) i
      (.live (zoneAt z (completedOccupancy z.action))) none :=
    slotWorked_of_eq (a := s.absolute) (b := s.periodic) (ps := s.passes) rfl fun n => .inl
  refine .of_slot hb hd ((workLeaves_cancelDwell i _).trans (workLeaves_setSlot ..)) hworked
    (slotOk_some.mpr ⟨zoneOk_completed hok harmed, timerOk_none ?_⟩)
    (hb.table.congr rfl ⟨rfl, rfl⟩ (hworked.sameOutlines (by rw [show (beginEvaluation s).zone i = some z from hz]; rfl))) fun x hx => ?_
  · simp only [zoneAt]
    cases z.action <;> decide
  · rw [show (beginEvaluation s).zone i = some z from hz]
    rw [if_neg hne, List.nil_append] at hx
    exact (drivenBy_eq_none fun y hy => by cases hy; exact hx).trans (drivenBy_eq_none fun y hy => by cases hy; exact hx).symm

/-- The first condition of an axis, where it is the one to be taken, stands at the head of those of its axis, with no pass of the
axis before it (R17). -/
theorem condition_of_due {s : State} {n : Axis} {k : ConditionKind} (h : nextItem s = some (.condition n k)) :
    ∃ c, (s.pendingConditions n).head? = some c ∧ c.kind = k ∧ s.pendingPass n = none := by
  rcases nextItem_cases h with ⟨_, _, hw, _⟩ | ⟨hpass, _, c, hw, hhead, _⟩ | ⟨_, _, _, hw, _⟩ | ⟨_, _, _, _, hw, _⟩ <;> cases hw
  exact ⟨c, hhead, rfl, hpass n fun e => by simp [e] at hhead⟩

theorem conditionsOk_tail {available sure : Bool} {l : List Condition} {c : Condition} (h : ConditionsOk available sure l)
    (hc : l.head? = some c) : ConditionsOk (decide (c.kind = .sure)) sure l.tail := by
  rcases h.cases with ⟨rfl, _⟩ | ⟨c', rfl, _, hs⟩ | ⟨c', d, rfl, _, hne, hs⟩
  · cases hc
  · cases hc
    exact hs
  · cases hc
    refine ⟨?_, hs⟩
    cases hk : c.kind <;> cases hd : d.kind <;> simp_all

theorem axesOk_conditionBegun {s b : State} {n : Axis} {k : ConditionKind} (h : Good s) (hd : s.device = .running)
    (hi : nextItem s = some (.condition n k)) (hb : ConditionBegun n k s b) : AxesOk b := by
  obtain ⟨c, hhead, hk, hpass⟩ := condition_of_due hi
  have hnow : s.now ≤ b.now := by rw [hb.leaves.now]; exact Nat.le_succ _
  have hdev : b.device = s.device := hb.leaves.device.device
  have havail (m : Axis) : b.available[m] = if m = n then decide (k = .sure) else s.available[m] := by
    rw [← State.setAvailable_at]
    simp only [hb.available, State.setAvailable]
  have hcond (m : Axis) : b.pendingConditions m = if m = n then (s.pendingConditions n).tail else s.pendingConditions m := by
    rw [← State.setConditions_at]
    simp only [State.pendingConditions, hb.conditions, State.setConditions]
  have hpasses (m : Axis) : b.pendingPass m = if m = n then
      (if decide (k = .sure) = true then some ((s.pendingPass n).getD (s.now + 1)) else s.pendingPass n) else s.pendingPass m := by
    rw [← State.setPass_at]
    simp only [State.pendingPass, hb.passes, State.setPass]
  have hconfig (m : Axis) : b.axisConfig m = s.axisConfig m := by simp only [State.axisConfig, hb.config.axes]
  intro m
  have hm := h.axes m
  by_cases hmn : m = n
  · subst hmn
    have htr : TrackerOk (s.axisConfig m) (b.tracker m) ∧ (b.tracker m).sure = (s.tracker m).sure := by
      rw [hb.tracker]
      split
      · exact ⟨⟨hm.tracker.sure, hm.tracker.live, hm.tracker.timer, hm.tracker.position, hm.tracker.sequence, hm.tracker.cause,
          hm.tracker.disabled, hm.tracker.span⟩, rfl⟩
      · exact ⟨hm.tracker, rfl⟩
    have htail : ∀ x ∈ (s.pendingConditions m).tail, x ∈ s.pendingConditions m := fun x => List.mem_of_mem_tail
    refine ⟨?_, ?_, ?_, ?_, ?_, fun hs => ?_⟩
    · rw [hconfig]; exact htr.1
    · rw [havail, hcond, if_pos rfl, if_pos rfl, htr.2, ← hk]
      exact conditionsOk_tail hm.conditions hhead
    · rw [havail, hpasses, if_pos rfl, if_pos rfl, hpass]
      cases k <;> simp
    · rw [hcond, if_pos rfl]
      exact fun x hx => (hm.dated x (htail x hx)).trans hnow
    · rw [hcond, if_pos rfl]
      exact hm.posting.sublist (List.tail_sublist _)
    · cases hs.symm.trans (hdev.trans hd)
  · refine hm.congr hdev (hconfig m) ?_ ?_ ?_ ?_ hnow
    · rw [hb.tracker, if_neg fun e => hmn e.1]
    · rw [havail, if_neg hmn]
    · rw [hcond, if_neg hmn]
    · rw [hpasses, if_neg hmn]; exact .inl

theorem goodWork_settleAxis {s : State} {n : Axis} {k : ConditionKind} (h : Good s) (hd : s.device = .running)
    (hi : nextItem s = some (.condition n k)) : GoodWork (settleAxis n (conditionOccupancy k) (conditionBegun n k s)) := by
  have hb := conditionBegun_spec n k s
  have ha := axesOk_conditionBegun h hd hi hb
  have hv := visited_settleAxis n (conditionOccupancy k) (conditionBegun n k s)
  generalize conditionBegun n k s = b at hb ha hv
  exact hv.goodWork (w' := settleAxis n (conditionOccupancy k) b) (good_beginEvaluation h hd) hd rfl rfl hb.leaves
    ⟨hb.config.axes, hb.config.lines, hb.config.ports, hb.config.freeze⟩ ⟨hb.table.slots, hb.table.absolute, hb.table.periodic⟩
    hb.dwells ha (keeps_settleJudgement n k _)

theorem good_evaluatorGrant {s : State} {w : WorkItem} {act : State → Work} (h : Good s)
    (hact : EvaluatorDue s w → GoodWork (act (beginEvaluation s))) : Good (evaluatorGrant w act s) := by
  by_cases hdue : EvaluatorDue s w
  · rw [evaluatorGrant_due act hdue]
    exact good_handOver (hact hdue)
  · rw [evaluatorGrant_not_due act fun e => hdue ⟨e.1, e.2⟩]
    exact h

theorem good_pass {s t : State} {n : Axis} (h : Good s) (ht : exec (.pass n) s = .next t) : Good t := by
  cases ht
  exact good_evaluatorGrant h fun hdue => goodWork_passWork h hdue.running

theorem good_dwellExpiry {s t : State} {i : SlotNo} (h : Good s) (ht : exec (.dwellExpiry i) s = .next t) : Good t := by
  cases ht
  exact good_evaluatorGrant h fun hdue => goodWork_expiryWork h hdue.running hdue.item

theorem good_axisUnsure {s t : State} {n : Axis} (h : Good s) (ht : exec (.axisUnsure n) s = .next t) : Good t := by
  cases ht
  exact good_evaluatorGrant h fun hdue => goodWork_settleAxis (k := .unsure) h hdue.running hdue.item

theorem good_axisSure {s t : State} {n : Axis} (h : Good s) (ht : exec (.axisSure n) s = .next t) : Good t := by
  cases ht
  exact good_evaluatorGrant h fun hdue => goodWork_settleAxis (k := .sure) h hdue.running hdue.item

/-! ### DWELL_TIMER_EXPIRY (R81) -/

theorem good_tick {s : State} (h : Good s) (m : Moment) : Good (s.tick m) := by
  have hnow := le_momentOf s m
  have heq : (s.tick m).now = momentOf s m := by cases m <;> rfl
  refine ⟨h.ranges.congr (by simp), h.zones.congr (by simp), h.dwells.congr (by simp) (by simp),
    h.table.congr (by simp) ⟨by simp, by simp⟩ (.of_slots (by simp)), h.axes.congr (by simp) (by simp) (by simp)
      ⟨by simp, by simp, by simp, by simp⟩ (heq ▸ hnow), h.lines.congr (by simp) (by simp) (by simp) (by simp),
    h.store.congr (by simp) ⟨by simp, by simp⟩ (by simp), h.wear.congr ⟨by simp, by simp, by simp, by simp⟩,
    h.sweep.congr (by simp) ⟨by simp, by simp⟩, fun q => (h.sync q).congr ?_ (noMark_congr ⟨by simp, by simp⟩ q), ?_⟩
  · cases m <;> exact .of_slot rfl rfl
  · cases m
    · exact ⟨h.device.hold, fun hs => ⟨(h.device.rests hs).slots, (h.device.rests hs).running, (h.device.rests hs).passes,
        (h.device.rests hs).conditions, (h.device.rests hs).dwells, (h.device.rests hs).notRunning⟩, h.device.rows, h.device.half⟩
    · exact h.device

theorem good_dwellTimerExpiry {s t : State} {i : SlotNo} {m : Moment} (h : Good s) (ht : exec (.dwellTimerExpiry i m) s = .next t) :
    Good t := by
  have ht' : execDwellTimerExpiry i m s = .next t := ht
  unfold execDwellTimerExpiry at ht'
  split at ht'
  case h_2 => cases ht'; exact h
  case h_1 d hd =>
  split at ht'
  case isFalse => cases ht'; exact h
  case isTrue hin =>
  have hrun : s.device = .running := ((inService_iff s).mp (Bool.and_eq_true_iff.mp hin).1).1
  cases ht'
  have hu := good_tick h m
  have hud : (s.tick m).dwell i = some d := by rw [← hd]; simp
  have hurun : (s.tick m).device = .running := by rw [← hrun]; simp
  generalize s.tick m = u at hu hud hurun
  have hdwell (j : SlotNo) := State.setDwell_at u i (some { d with expired := some u.now }) j
  have hslots : ∀ j, SlotOk ((u.setDwell i (some { d with expired := some u.now })).zone j)
      ((u.setDwell i (some { d with expired := some u.now })).dwell j) := fun j => by
    rw [hdwell]
    have hj := hu.slot j
    split
    · next e =>
      subst e
      refine ⟨fun z hz => ?_, fun hz => ?_⟩
      · obtain ⟨hok, htimer⟩ := hj.1 z hz
        rw [hud] at htimer
        refine ⟨hok, htimer.held, fun x hx => ?_⟩
        cases hx
        exact htimer.own d rfl
      · have := hj.2 hz
        rw [hud] at this
        cases this
    · exact hj
  have hboth := zonesOk_and_dwellsOk_iff.mpr hslots
  exact ⟨hu.ranges.congr rfl, hboth.1, hboth.2, hu.table.congr rfl ⟨rfl, rfl⟩ (.of_slots rfl),
    hu.axes.of_same rfl rfl rfl rfl rfl rfl le_rfl, hu.lines.congr rfl rfl rfl rfl, hu.store.congr rfl ⟨rfl, rfl⟩ rfl,
    hu.wear.congr ⟨rfl, rfl, rfl, rfl⟩, hu.sweep.congr rfl ⟨rfl, rfl⟩, fun q => (hu.sync q).congr (.of_slot rfl rfl) (noMark_congr ⟨rfl, rfl⟩ q),
    hu.device.of_running hurun ⟨rfl, rfl, rfl, rfl⟩⟩

end Sys2Proof.Machine
end

section
/-! Every transaction of a port keeps all that a run keeps, but for what the sweep's commands ask of the array (chapter 10). -/

namespace Sys2Proof.Machine

/-! ### What leaves the table alone -/

/-- All but the record store, the arbiter and the ports is the same. -/
structure BesideStore (s t : State) : Prop where
  now : t.now = s.now
  device : SameDevice s t
  table : SameTable s t
  evaluator : SameEvaluator s t
  config : SameConfig s t
  trackers : t.trackers = s.trackers
  lines : t.lines = s.lines

theorem BesideStore.trans {s t u : State} (h : BesideStore s t) (k : BesideStore t u) : BesideStore s u :=
  ⟨k.now.trans h.now,
    ⟨k.device.device.trans h.device.device, k.device.supply.trans h.device.supply, k.device.resetN.trans h.device.resetN,
      k.device.load.trans h.device.load⟩,
    ⟨k.table.slots.trans h.table.slots, k.table.absolute.trans h.table.absolute, k.table.periodic.trans h.table.periodic⟩,
    ⟨k.evaluator.available.trans h.evaluator.available, k.evaluator.passes.trans h.evaluator.passes,
      k.evaluator.conditions.trans h.evaluator.conditions, k.evaluator.dwells.trans h.evaluator.dwells⟩,
    ⟨k.config.axes.trans h.config.axes, k.config.lines.trans h.config.lines, k.config.ports.trans h.config.ports,
      k.config.freeze.trans h.config.freeze⟩, k.trackers.trans h.trackers, k.lines.trans h.lines⟩

/-- What the record store, the arbiter and the ports do keeps what a run keeps, where it keeps the store and the SYNCs, and leaves a
part that is STARTING at rest. -/
theorem good_of_store {s t : State} (h : Good s) (k : BesideStore s t) (store : StoreOk t) (wear : WearOk t) (sweep : SweepOk t)
    (sync : ∀ p, SyncOk t p)
    (rests : s.device = .starting → (∀ p, (t.port p).slot.isQueued = false) ∧ t.running = none) : Good t := by
  refine ⟨h.ranges.congr k.config.axes, h.zones.congr k.table.slots, h.dwells.congr k.table.slots k.evaluator.dwells,
    h.table.congr k.device.device ⟨k.table.absolute, k.table.periodic⟩ (.of_slots k.table.slots),
    h.axes.congr k.device.device k.config.axes k.trackers k.evaluator k.now.ge,
    h.lines.congr k.device.device k.table.slots k.config.lines k.lines, store, wear, sweep, sync, ?_⟩
  have hheld : t.held = s.held := by simp only [State.held, k.device.supply, k.device.resetN]
  refine ⟨by rw [hheld, k.device.device]; exact h.device.hold, fun hs => ?_, by rw [k.device.load]; exact h.device.rows,
    by rw [k.device.load]; exact h.device.half⟩
  rw [k.device.device] at hs
  have hr := h.device.rests hs
  obtain ⟨hslots, hrun⟩ := rests hs
  refine ⟨hslots, hrun, ?_, ?_, ?_, ?_⟩
  · simp only [State.pendingPass, k.evaluator.passes]; exact hr.passes
  · simp only [State.pendingConditions, k.evaluator.conditions]; exact hr.conditions
  · simp only [State.dwell, k.evaluator.dwells]; exact hr.dwells
  · simp only [State.zone, k.table.slots]; exact hr.notRunning

/-! ### Transactions (R168 to R172) -/

theorem Good.not_queued {s : State} (h : Good s) (p : Port) (hs : s.device = .starting) : (s.port p).slot.isQueued = false :=
  (h.device.rests hs).slots p

/-- A write of a port that leaves its slot and its SYNC alone. -/
theorem good_setPort_kept {s : State} (h : Good s) {p : Port} {q : PortState} (hslot : q.slot = (s.port p).slot)
    (hsync : q.sync = (s.port p).sync) : Good (s.setPort p q) :=
  good_setPort h (.of_slot hslot hsync) fun hs => by rw [hslot]; exact h.not_queued p hs

theorem good_setLastFrame {s : State} (h : Good s) (p : Port) (v : LastFrame) : Good (setLastFrame p v s) := by
  unfold setLastFrame
  exact good_setPort_kept h rfl rfl

theorem good_shiftOut {s : State} (h : Good s) (p : Port) (n : Nat) : Good (shiftOut p n s) := by
  unfold shiftOut
  exact good_setPort_kept h rfl rfl

theorem good_raiseAt {s : State} (h : Good s) (p : Port) (x : Flag) : Good (raiseAt p x s) := by
  unfold raiseAt
  exact good_setPort_kept h rfl rfl

/-- A write of an EMPTY slot that neither waits for a SYNC nor makes a claim. -/
theorem good_setPort_empty {s : State} (h : Good s) {p : Port} {q : PortState} (hslot : (s.port p).slot = .empty)
    (hsync : q.sync = (s.port p).sync) (hw : ∀ tag, q.slot ≠ .waiting tag) (hq : q.slot.isQueued = false) : Good (s.setPort p q) :=
  good_setPort h ⟨hsync, by simp [hslot, hw]⟩ fun _ => hq

theorem good_placeResponse {s : State} (h : Good s) {p : Port} (hslot : (s.port p).slot = .empty) (r : Response) :
    Good (placeResponse p r s) :=
  good_setPort_empty h hslot rfl nofun rfl

theorem good_answer {s : State} (h : Good s) {p : Port} (hslot : (s.port p).slot = .empty) (c : LocalCommand) (tag : Byte) (r : Result)
    (payload : List Byte) : Good (answer p c tag r payload s) :=
  good_placeResponse h hslot _

/-- A frame whose command occupies the slot: what takes it finds a part as a run keeps it, with the slot EMPTY. -/
theorem good_occupy {s : State} (h : Good s) {p : Port} {payload : List Byte} {serve : State → State}
    (hserve : ∀ u, Good u → (u.port p).slot = .empty → Good (serve u)) : Good (occupy p payload serve s) := by
  have hout : Good (shiftOut p (frameLength payload) s) := good_shiftOut h p _
  unfold occupy
  split
  · exact h
  · dsimp only
    generalize shiftOut p (frameLength payload) s = u at hout
    split
    · next he =>
      exact hserve _ (good_setLastFrame hout p _) (by simp [setLastFrame, he])
    · refine good_setLastFrame ?_ p _
      exact good_setPort_kept hout rfl rfl

theorem good_withoutArguments {s : State} (h : Good s) {p : Port} (hslot : (s.port p).slot = .empty) {c : LocalCommand} {tag : Byte}
    {payload : List Byte} {serve : State → State} (hserve : Good (serve s)) : Good (withoutArguments p c tag payload serve s) := by
  unfold withoutArguments
  split
  · exact hserve
  · exact good_answer h hslot ..

theorem good_whenRunning {s : State} (h : Good s) {p : Port} (hslot : (s.port p).slot = .empty) {c : LocalCommand} {tag : Byte}
    {serve : State → State} (hserve : s.device = .running → Good (serve s)) : Good (whenRunning p c tag serve s) := by
  unfold whenRunning
  split
  · exact good_answer h hslot ..
  · next hd => exact hserve hd

/-! ### The frames of a port -/

section
variable {s t : State} (h : Good s)

include h

theorem good_refusedFormat {p : Port} {bytes : List Byte} (ht : exec (.refusedFormat p bytes) s = .next t) : Good t := by
  have ht' : execRefusedFormat p bytes s = .next t := ht
  unfold execRefusedFormat at ht'
  split at ht'
  · cases ht'
    have hframe := good_setLastFrame (good_shiftOut h p bytes.length) p .refusedFormat
    generalize setLastFrame p .refusedFormat (shiftOut p bytes.length s) = u at hframe
    refine good_raiseAt ?_ p _
    exact good_setPort_kept hframe rfl rfl
  · cases ht'
    exact h

theorem good_unknownCommand {p : Port} {code tag : Byte} {payload : List Byte}
    (ht : exec (.unknownCommand p code tag payload) s = .next t) : Good t := by
  have ht' : execUnknownCommand p code tag payload s = .next t := ht
  unfold execUnknownCommand at ht'
  split at ht'
  · cases ht'
    exact h
  · cases ht'
    exact good_occupy h fun u hu he => good_placeResponse hu he _

theorem good_nop {p : Port} {tag : Byte} (ht : exec (.nop p tag) s = .next t) : Good t := by
  have ht' : execNop p tag s = .next t := ht
  unfold execNop at ht'
  split at ht'
  · cases ht'
    exact good_setLastFrame (good_shiftOut h p 4) p _
  · cases ht'
    exact h

omit h in
theorem isDone_not_waiting {slot : CommandSlot} (h : slot.isDone = true) (tag : Byte) : slot ≠ .waiting tag := by
  rintro rfl
  cases h

theorem good_endFetch (p : Port) (tag : Byte) (clocked : Nat) : Good (endFetch p tag clocked s) := by
  unfold endFetch
  dsimp only
  split
  · refine good_setPort h ⟨rfl, ?_⟩ fun hs => ?_
    · dsimp only
      split
      · next hdelivered =>
        have hdone := (Bool.and_eq_true_iff.mp (Bool.and_eq_true_iff.mp hdelivered).1).2
        simp [isDone_not_waiting hdone]
      · rfl
    · dsimp only
      split
      · rfl
      · exact h.not_queued p hs
  · exact h

theorem good_fetch {p : Port} {tag : Byte} {m : FetchMoment} (ht : exec (.fetch p tag m) s = .next t) : Good t := by
  have ht' : execFetch p tag m s = .next t := ht
  unfold execFetch at ht'
  split at ht'
  · cases ht'
    exact h
  · cases m <;> cases ht'
    · unfold openTransaction
      split
      · exact h
      · exact good_setPort_kept h rfl rfl
    · unfold recogniseFetch
      dsimp only
      split
      · exact good_setPort_kept h rfl rfl
      · exact h
    · exact good_endFetch h p tag _

theorem good_tableCommandAccept {p : Port} {c : TableCommand} {tag : Byte} {payload : List Byte}
    (ht : exec (.tableCommandAccept p c tag payload) s = .next t) : Good t := by
  cases ht
  refine good_occupy h fun u hu he => ?_
  unfold acceptTable
  split
  · exact good_placeResponse hu he _
  · next hd => exact good_setPort hu ⟨rfl, by simp [he]⟩ fun hs => by cases hd.symm.trans hs

/-! ### The port-local commands that change the port alone (R177) -/

theorem good_takeChanges {p : Port} {tag : Byte} {payload : List Byte} (ht : exec (.takeChanges p tag payload) s = .next t) :
    Good t := by
  cases ht
  refine good_occupy h fun u hu he => good_withoutArguments hu he ?_
  unfold serveTakeChanges
  refine good_answer ?_ (by simp [he]) ..
  exact good_setPort_kept hu rfl rfl

theorem good_readFaults {p : Port} {tag : Byte} {payload : List Byte} (ht : exec (.readFaults p tag payload) s = .next t) :
    Good t := by
  cases ht
  refine good_occupy h fun u hu he => good_withoutArguments hu he ?_
  unfold serveReadFaults
  refine good_answer ?_ (by simp [he]) ..
  exact good_setPort_kept hu rfl rfl

theorem good_axisStatus {p : Port} {tag : Byte} {payload : List Byte} (ht : exec (.axisStatus p tag payload) s = .next t) : Good t := by
  cases ht
  refine good_occupy h fun u hu he => ?_
  unfold serveAxisStatus
  split <;> exact good_answer hu he ..

theorem good_lineStatus {p : Port} {tag : Byte} {payload : List Byte} (ht : exec (.lineStatus p tag payload) s = .next t) : Good t := by
  cases ht
  exact good_occupy h fun u hu he => good_withoutArguments hu he (good_answer hu he ..)

theorem good_deviceStatus {p : Port} {tag : Byte} {payload : List Byte} (ht : exec (.deviceStatus p tag payload) s = .next t) :
    Good t := by
  cases ht
  exact good_occupy h fun u hu he => good_withoutArguments hu he (good_answer hu he ..)

theorem good_sweepStatus {p : Port} {tag : Byte} {payload : List Byte} (ht : exec (.sweepStatus p tag payload) s = .next t) :
    Good t := by
  cases ht
  exact good_occupy h fun u hu he => good_withoutArguments hu he (good_answer hu he ..)

/-! ### RESYNC (R74) -/

theorem good_resynchronise (hd : s.device = .running) (n : Axis) (turn : Option Turn) :
    Good (resynchronise n .acquiring turn true s) ∧ Raised s (resynchronise n .acquiring turn true s) 0 := by
  have hl := left_resynchronise (h.axes n).departOk .acquiring turn true
  have hdep := hl.departs (w := s.tracker n) (fun b => by split <;> simp_all) rfl rfl
  refine ⟨good_tracking h hd hl.step.only (axesOk_departs h hd hl.step.only hl.now.ge hl.passes hdep rfl (trackerOk_resynced (.inl rfl)))
    hl.step.raised.syncSame, hl.step.raised⟩

theorem good_resync {p : Port} {tag : Byte} {payload : List Byte} {m : Moment}
    (ht : exec (.resync p tag payload m) s = .next t) : Good t := by
  cases ht
  refine good_occupy h fun u hu he => good_whenRunning hu he fun hd => ?_
  unfold serveResync
  split
  · exact good_answer hu he ..
  · next n turn _ =>
    split
    · exact good_answer hu he ..
    · have hticked : ((u.tick m).port p).slot = .empty := by rw [← he]; cases m <;> rfl
      have hd' : (u.tick m).device = .running := by rw [← hd]; cases m <;> rfl
      obtain ⟨hgood, hraised⟩ := good_resynchronise (good_tick hu m) hd' n turn
      exact good_answer hgood (by rw [hraised p]; exact hticked) ..

/-! ### Marks (R130, R133) -/

omit h in
theorem noMark_markAll (s : State) (p q : Port) (v : Bool) :
    noMark (markAll p v s) q = if q = p then !v || decide (s.queue = [] ∧ s.engine = .idle) else noMark s q := by
  have hget (m : Marks) : (m.set p v).get q = if q = p then v else m.get q := by cases p <;> cases q <;> rfl
  unfold noMark inFlight markAll
  rw [State.setEngine_queue, State.setQueue_queue, State.setEngine_engine, List.all_map]
  have hall : (s.queue.all ((fun e => !e.marks.get q) ∘ fun e => { e with marks := e.marks.set p v })) =
      if q = p then s.queue.all fun _ => !v else s.queue.all fun e => !e.marks.get q := by
    split
    · next e => exact congrArg _ (funext fun x => by simp [e])
    · next e => exact congrArg _ (funext fun x => by simp [hget, e])
  rw [hall]
  by_cases hq : q = p
  · simp only [hq, if_true]
    cases s.engine <;> cases hl : s.queue <;> cases v <;> simp [markInFlight, ← hq]
  · simp only [hq, if_false]
    cases s.engine <;> simp [markInFlight, hget, hq]

omit h in
theorem besideStore_markAll (p : Port) (v : Bool) (s : State) : BesideStore s (markAll p v s) :=
  ⟨rfl, ⟨rfl, rfl, rfl, rfl⟩, ⟨rfl, rfl, rfl⟩, ⟨rfl, rfl, rfl, rfl⟩, ⟨rfl, rfl, rfl, rfl⟩, rfl, rfl⟩

omit h in
theorem besideStore_setPort (p : Port) (q : PortState) (s : State) : BesideStore s (s.setPort p q) :=
  ⟨by simp, ⟨by simp, by simp, by simp, by simp⟩, ⟨by simp, by simp, by simp⟩, ⟨by simp, by simp, by simp, by simp⟩,
    ⟨by simp, by simp, by simp, by simp⟩, by simp, by simp⟩

omit h in
/-- Marks change neither which items wait nor what the engine does. -/
theorem storeOk_markAll (h : StoreOk s) (p : Port) (v : Bool) : StoreOk (markAll p v s) := by
  have hitems : (markAll p v s).queue.map QueueEntry.item = s.queue.map QueueEntry.item := by
    unfold markAll
    rw [State.setEngine_queue, State.setQueue_queue, List.map_map]
    rfl
  have hprogram : (markAll p v s).engine.hasProgram = s.engine.hasProgram := by
    change (markInFlight p v s.engine).hasProgram = _
    cases s.engine <;> rfl
  have hretry : (markAll p v s).engine.isRetrying = s.engine.isRetrying := by
    change (markInFlight p v s.engine).isRetrying = _
    cases s.engine <;> rfl
  have hidle : (markAll p v s).engine = .idle ↔ s.engine = .idle := by
    change markInFlight p v s.engine = _ ↔ _
    cases s.engine <;> simp [markInFlight]
  have harray : (markAll p v s).array = s.array := rfl
  refine ⟨by rw [hitems]; exact h.once, fun hd he => ?_, by rw [harray, hprogram]; exact h.program,
    by rw [harray, hprogram]; exact h.waits, by rw [harray, hretry]; exact h.retry, by rw [hidle]; exact h.starting⟩
  change s.queue.map _ = []
  rw [h.takes hd (hidle.mp he)]
  rfl

theorem good_sync {p : Port} {tag : Byte} {payload : List Byte} (ht : exec (.sync p tag payload) s = .next t) : Good t := by
  cases ht
  refine good_occupy h fun u hu he => good_whenRunning hu he fun hd => good_withoutArguments hu he ?_
  unfold serveSync
  split
  · exact good_answer hu he ..
  · next hbusy =>
    dsimp only
    have hport (q : Port) := State.setPort_at (markAll p true u) p
      { (markAll p true u).port p with slot := .waiting tag, sync := ⟨true, 0⟩ } q
    refine good_of_store hu ((besideStore_markAll p true u).trans (besideStore_setPort ..))
      ((storeOk_markAll hu.store p true).congr (by simp) ⟨by simp, by simp⟩ (by simp)) (hu.wear.congr ⟨by simp [markAll], by simp [markAll], by simp [markAll], by simp [markAll]⟩)
      (hu.sweep.congr (by simp [markAll]) ⟨by simp [markAll], by simp [markAll]⟩) (fun q => ?_) fun hs => by cases hd.symm.trans hs
    have hmark : noMark ((markAll p true u).setPort p
        { (markAll p true u).port p with slot := .waiting tag, sync := ⟨true, 0⟩ }) q =
        if q = p then false else noMark u q := by
      rw [noMark_setPort, noMark_markAll]
      simp [hbusy]
    have hq := hport q
    by_cases e : q = p
    · rw [if_pos e] at hq hmark
      exact ⟨by rw [hq]; simp, by rw [hq, hmark]; rfl, by rw [hq]; exact nofun⟩
    · rw [if_neg e] at hq hmark
      exact (hu.sync q).congr (by rw [hq]; exact .of_slot rfl rfl) hmark

/-! ### PORT_RESET (R182) -/

theorem good_portReset {p : Port} {tag : Byte} {duringGrant : Bool} (ht : exec (.portReset p tag duringGrant) s = .next t) : Good t := by
  by_cases hjudges : judgesFrames s p = true
  case neg =>
    have ht' : execPortReset p tag duringGrant s = .next t := ht
    unfold execPortReset at ht'
    rw [if_neg hjudges] at ht'
    cases ht'
    exact h
  rw [exec_portReset tag duringGrant hjudges] at ht
  cases ht
  obtain ⟨g, x, hu, hrun⟩ : ∃ g x, (if duringGrant then orphanGrant p s else s) = (s.setRunning g).setPointer x ∧
      (s.device = .starting → g = s.running) := by
    cases duringGrant
    · exact ⟨s.running, s.pointer, rfl, fun _ => rfl⟩
    · obtain ⟨g, x, h, hg⟩ := orphanGrant_frame p s
      refine ⟨g, x, h, fun hs => ?_⟩
      rcases hg with ⟨hrun, _⟩ | ⟨_, _, _, hd, _⟩
      · rw [h] at hrun
        exact hrun
      · cases hd.symm.trans hs
  rw [hu]
  generalize hv : (s.setRunning g).setPointer x = v
  have hsv : BesideStore s v := by
    rw [← hv]
    exact ⟨rfl, ⟨rfl, rfl, rfl, rfl⟩, ⟨rfl, rfl, rfl⟩, ⟨rfl, rfl, rfl, rfl⟩, ⟨rfl, rfl, rfl, rfl⟩, rfl, rfl⟩
  have hstore : StoreOk v := h.store.congr (by rw [← hv]; rfl) (by rw [← hv]; exact ⟨rfl, rfl⟩) (by rw [← hv]; rfl)
  have hwear : WearOk v := h.wear.congr (by rw [← hv]; exact ⟨rfl, rfl, rfl, rfl⟩)
  have hsweep : SweepOk v := h.sweep.congr (by rw [← hv]; rfl) (by rw [← hv]; exact ⟨rfl, rfl⟩)
  have hports (q : Port) : v.port q = s.port q := by rw [← hv]; rfl
  have hnomark (q : Port) : noMark v q = noMark s q := noMark_congr (by rw [← hv]; exact ⟨rfl, rfl⟩) q
  have hvrun : v.running = g := by rw [← hv]; rfl
  have hport (q : Port) : ((markAll p false v).setPort p (resetPort s p)).port q = if q = p then resetPort s p else s.port q := by
    rw [State.setPort_at, ← hports q]
    rfl
  refine good_of_store h ((hsv.trans (besideStore_markAll p false v)).trans (besideStore_setPort ..))
    ((storeOk_markAll hstore p false).congr (by simp) ⟨by simp, by simp⟩ (by simp))
    (hwear.congr ⟨by simp [markAll], by simp [markAll], by simp [markAll], by simp [markAll]⟩)
    (hsweep.congr (by simp [markAll]) ⟨by simp [markAll], by simp [markAll]⟩) (fun q => ?_) fun hs => ⟨fun q => ?_, ?_⟩
  · have hmark : noMark ((markAll p false v).setPort p (resetPort s p)) q = if q = p then true else noMark s q := by
      rw [noMark_setPort, noMark_markAll, hnomark]
      simp
    have hq := hport q
    by_cases e : q = p
    · rw [if_pos e] at hq hmark
      exact ⟨by rw [hq]; simp [resetPort], by rw [hq, hmark]; rfl, by rw [hq]; exact fun _ => rfl⟩
    · rw [if_neg e] at hq hmark
      exact (h.sync q).congr (by rw [hq]; exact .of_slot rfl rfl) hmark
  · rw [hport]
    split
    · rfl
    · exact h.not_queued q hs
  · rw [State.setPort_running]
    change v.running = none
    rw [hvrun, hrun hs]
    exact (h.device.rests hs).running

end

end Sys2Proof.Machine
end

section
/-! The record store and the sweep keep all that a run keeps (chapter 7 and 8.5): first what the array turns to when it is free, then
the end of a commit, and then each event of the store. -/

namespace Sys2Proof.Machine

/-! ### The array turns to what waits for it (R135, R153) -/

/-- The store with its array in order: the rows, the sweep, and the queue and the engine whether or not the engine has something to
take. -/
structure ArrayRests (s : State) : Prop where
  store : StoreRests s
  wear : WearOk s
  sweep : SweepOk s

/-- The store of a RUNNING part whose array has just become free: a program may wait for it, and the sweep is RUNNING exactly while it
asks for its next read. -/
structure ArrayFreed (s : State) : Prop where
  device : s.device = .running
  free : s.array = .free
  once : (s.queue.map QueueEntry.item).Nodup
  retry : s.engine.isRetrying = false
  wear : WearOk s
  asks : s.sweep.state = .running ↔ s.sweep.asked = true
  count : s.sweep.state = .running → s.sweep.rowsRead < 206

theorem hasProgram_iff (e : Engine) : e.hasProgram = true ↔ ∃ x, programOf e = some x := by
  cases e <;> simp [Engine.hasProgram, programOf]

theorem programOf_eq_none (e : Engine) : programOf e = none ↔ e.hasProgram = false := by
  cases e <;> simp [Engine.hasProgram, programOf]

theorem WearOk.of_same {s t : State} (h : WearOk s) (hr : t.rows = s.rows) (hw : t.wornRows = s.wornRows) (hi : t.copyMap = s.copyMap) :
    WearOk t := by
  refine ⟨fun r => ?_, fun k c => ?_⟩
  · simp only [State.row, State.worn, hr, hw]; exact h.reads r
  · simp only [State.item, State.worn, hi, hw]; exact h.copies k c

theorem WearOk.setRow_uncorrectable {s : State} (h : WearOk s) (r : RowNo) : WearOk (s.setRow r .uncorrectable) := by
  refine ⟨fun x hx => ?_, h.copies⟩
  rw [State.setRow_at]
  split
  · rfl
  · exact h.reads x hx

theorem ArrayFreed.served {s : State} (h : ArrayFreed s) : ArrayRests (serveArray s) := by
  have hstarting : s.device ≠ .starting := fun hs => by cases hs.symm.trans h.device
  cases hx : programOf s.engine with
  | some x =>
    have hp : s.engine.hasProgram = true := (hasProgram_iff _).mpr ⟨x, hx⟩
    rw [serveArray_program h.free hx]
    refine ⟨⟨h.once, fun _ => hp, fun _ => nofun, fun _ => rfl, fun hs => absurd hs hstarting⟩,
      (h.wear.congr (t := s.setArray .program) ⟨rfl, rfl, rfl, rfl⟩).setRow_uncorrectable _,
      ⟨?_, fun _ => ⟨nofun, fun _ => nofun⟩, fun _ => nofun, h.count, fun hs => absurd hs hstarting⟩⟩
    change s.sweep.state = .running ↔ (s.sweep.asked = true ∨ ∃ r, ArrayUse.program = .sweepRead r true)
    simp [h.asks]
  | none =>
    have hp := (programOf_eq_none _).mp hx
    have hretry : s.engine.isRetrying = true → False := fun hr => by rw [h.retry] at hr; cases hr
    cases ha : s.sweep.asked with
    | true =>
      rw [serveArray_sweep h.free hx ha]
      refine ⟨⟨h.once, nofun, fun _ => nofun, fun hr => (hretry hr).elim, fun hs => absurd hs hstarting⟩,
        h.wear.congr ⟨rfl, rfl, rfl, rfl⟩, ⟨?_, fun hf => Bool.noConfusion hf, fun r hr => ?_, h.count, fun hs => absurd hs hstarting⟩⟩
      · exact ⟨fun _ => .inr ⟨_, rfl⟩, fun _ => h.asks.mpr ha⟩
      · have hr' : ArrayUse.sweepRead s.sweep.nextRow true = .sweepRead r true := hr
        cases hr'
        rfl
    | false =>
      rw [serveArray_rest h.free hx ha]
      have hno : s.sweep.state ≠ .running := fun hr => by rw [h.asks.mp hr] at ha; cases ha
      refine ⟨⟨h.once, fun hf => ?_, fun hw => ?_, fun hr => (hretry hr).elim, fun hs => absurd hs hstarting⟩, h.wear,
        ⟨?_, fun hf => ?_, fun r hr => ?_, h.count, fun hs => absurd hs hstarting⟩⟩
      · rw [h.free] at hf; cases hf
      · rw [hp] at hw; cases hw
      · simp [hno, ha, h.free]
      · rw [ha] at hf; cases hf
      · rw [h.free] at hr; cases hr

theorem besideStore_serveArray (s : State) : BesideStore s (serveArray s) := by
  obtain ⟨a, r, w, h⟩ := serveArray_frame s
  rw [h]
  exact ⟨rfl, ⟨rfl, rfl, rfl, rfl⟩, ⟨rfl, rfl, rfl⟩, ⟨rfl, rfl, rfl, rfl⟩, ⟨rfl, rfl, rfl, rfl⟩, rfl, rfl⟩

theorem serveArray_queue (s : State) : SameQueue s (serveArray s) := by
  obtain ⟨a, r, w, h⟩ := serveArray_frame s
  rw [h]
  exact ⟨rfl, rfl⟩

theorem serveArray_port (s : State) (p : Port) : (serveArray s).port p = s.port p := by
  obtain ⟨a, r, w, h⟩ := serveArray_frame s
  rw [h]
  rfl

/-- A port's SYNC beside the array. -/
theorem SyncOk.served {s : State} {p : Port} (h : SyncOk s p) : SyncOk (serveArray s) p :=
  h.congr (by rw [serveArray_port]; exact .of_slot rfl rfl) (noMark_congr (serveArray_queue s) p)

/-! ### The end of a commit (R122, R132) -/

/-- An engine that does not rest has nothing to take. -/
theorem StoreRests.storeOk {s : State} (h : StoreRests s) (he : s.engine ≠ .idle) : StoreOk s :=
  ⟨h.once, fun _ hi => absurd hi he, h.program, h.waits, h.retry, h.starting⟩

theorem besideStore_takeHead (s : State) : BesideStore s (takeHead s) := by
  obtain ⟨q, e, h⟩ := takeHead_frame s
  rw [h]
  exact ⟨rfl, ⟨rfl, rfl, rfl, rfl⟩, ⟨rfl, rfl, rfl⟩, ⟨rfl, rfl, rfl, rfl⟩, ⟨rfl, rfl, rfl, rfl⟩, rfl, rfl⟩

theorem besideStore_completeSyncs (s : State) : BesideStore s (completeSyncs s) := by
  obtain ⟨v, h⟩ := completeSyncs_frame s
  rw [h]
  exact ⟨rfl, ⟨rfl, rfl, rfl, rfl⟩, ⟨rfl, rfl, rfl⟩, ⟨rfl, rfl, rfl, rfl⟩, ⟨rfl, rfl, rfl, rfl⟩, rfl, rfl⟩

/-- The engine of a RUNNING part takes the head of its queue. -/
theorem good_takeHead {s w : State} (h : Good s) (hd : s.device = .running) (k : BesideStore s w) (ha : ArrayRests w)
    (sync : ∀ p, SyncOk w p) : Good (takeHead w) := by
  have hstore := ha.store.takeHead
  have hsync : ∀ p, SyncOk (takeHead w) p := fun p => (sync p).congr (by rw [takeHead_port]; exact .of_slot rfl rfl) (noMark_takeHead w p)
  obtain ⟨q, e, he⟩ := takeHead_frame w
  refine good_of_store h (k.trans (besideStore_takeHead w)) hstore ?_ ?_ hsync fun hs => by cases hd.symm.trans hs
  · rw [he]; exact ha.wear.congr ⟨rfl, rfl, rfl, rfl⟩
  · rw [he]; exact ha.sweep.congr rfl ⟨rfl, rfl⟩

/-- A port's SYNC when a commit has ended: its last mark may have gone (R132). -/
structure SyncEnds (s : State) (p : Port) : Prop where
  slot : (∃ tag, (s.port p).slot = .waiting tag) ↔ (s.port p).sync.waiting = true
  marks : noMark s p = false → (s.port p).sync.waiting = true
  dropped : (s.port p).sync.waiting = false → (s.port p).sync.dropped = 0

theorem SyncOk.ends {s : State} {p : Port} (h : SyncOk s p) : SyncEnds s p :=
  ⟨h.slot, fun hm => by rw [h.marks, hm]; rfl, h.dropped⟩

/-- A SYNC whose last mark has gone is answered, and only such a one. -/
theorem SyncEnds.completed {s : State} {p : Port} (h : SyncEnds s p) : SyncOk (completeSyncs s) p := by
  have hmark : noMark (completeSyncs s) p = noMark s p := by
    obtain ⟨v, hv⟩ := completeSyncs_frame s
    exact noMark_congr (by rw [hv]; exact ⟨rfl, rfl⟩) p
  have hport := completeSyncs_port s p
  cases hw : (s.port p).sync.waiting with
  | true =>
    obtain ⟨tag, htag⟩ := h.slot.mpr hw
    cases hm : noMark s p with
    | true =>
      have hp : ((completeSyncs s).port p).sync = ⟨false, 0⟩ ∧ ∀ tag, ((completeSyncs s).port p).slot ≠ .waiting tag := by
        rw [hport]
        unfold syncedPort
        simp [htag, hw, hm]
      exact ⟨by rw [hp.1]; simp [hp.2], by rw [hp.1, hmark, hm]; rfl, by rw [hp.1]; exact fun _ => rfl⟩
    | false =>
      have hp : (completeSyncs s).port p = s.port p := by rw [hport, hm, syncedPort_same]
      exact ⟨by rw [hp]; exact h.slot, by rw [hp, hmark, hm, hw]; rfl, by rw [hp]; exact h.dropped⟩
  | false =>
    have hno : ∀ tag, (s.port p).slot ≠ .waiting tag := fun tag ht => by
      rw [h.slot.mp ⟨tag, ht⟩] at hw
      cases hw
    have hp : (completeSyncs s).port p = s.port p := by rw [hport, syncedPort_not_waiting hno]
    have hm : noMark s p = true := by
      rw [← Bool.not_eq_false]
      intro hm
      rw [h.marks hm] at hw
      cases hw
    exact ⟨by rw [hp]; exact h.slot, by rw [hp, hmark, hm, hw]; rfl, by rw [hp]; exact h.dropped⟩

theorem good_afterCommit {s w : State} (h : Good s) (hd : s.device = .running) (k : BesideStore s w) (ha : ArrayRests w)
    (sync : ∀ p, SyncEnds w p) : Good (afterCommit w) := by
  have hsync := fun p => (sync p).completed
  have hk := k.trans (besideStore_completeSyncs w)
  obtain ⟨v, hv⟩ := completeSyncs_frame w
  refine good_takeHead h hd hk ?_ hsync
  rw [hv]
  exact ⟨ha.store.congr rfl ⟨rfl, rfl⟩ rfl, ha.wear.congr ⟨rfl, rfl, rfl, rfl⟩, ha.sweep.congr rfl ⟨rfl, rfl⟩⟩

theorem SyncEnds.served {s : State} {p : Port} (h : SyncEnds s p) : SyncEnds (serveArray s) p := by
  have hm := noMark_congr (serveArray_queue s) p
  exact ⟨by rw [serveArray_port]; exact h.slot, by rw [serveArray_port, hm]; exact h.marks, by rw [serveArray_port]; exact h.dropped⟩

/-- A SYNC looks at what is left of the marks. -/
theorem SyncEnds.congr {s t : State} {p : Port} (h : SyncEnds s p) (hp : SyncSame (s.port p) (t.port p))
    (hm : noMark s p = true → noMark t p = true) : SyncEnds t p := by
  refine ⟨by rw [hp.waiting, hp.sync]; exact h.slot, fun hn => ?_, by rw [hp.sync]; exact h.dropped⟩
  rw [hp.sync]
  refine h.marks ?_
  rw [← Bool.not_eq_true]
  intro hy
  rw [hm hy] at hn
  cases hn

/-- The marks of the queue alone, once the in-flight item has gone. -/
theorem unmarked_of_noMark {s : State} {p : Port} (h : noMark s p = true) : unmarked s.queue p = true := by
  unfold noMark at h
  exact (Bool.and_eq_true_iff.mp h).1

/-- A dropped commit is counted by the ports that wait for it (R131). -/
theorem SyncEnds.dropCommit {s : State} {p : Port} (h : SyncEnds s p) (m : Marks) : SyncEnds (dropCommit m s) p := by
  obtain ⟨v, hv⟩ := dropCommit_frame m s
  have hmark : noMark s p = true → noMark (Machine.dropCommit m s) p = true := fun hm => by
    rw [hv, noMark_idle rfl]
    exact unmarked_of_noMark (s := s) hm
  have hport := dropCommit_port m s p
  refine ⟨by rw [hport]; exact h.slot, fun hn => ?_, fun hw => ?_⟩
  · rw [hport]
    refine h.marks ?_
    rw [← Bool.not_eq_true]
    intro hy
    rw [hmark hy] at hn
    cases hn
  · rw [hport] at hw ⊢
    have hz := h.dropped hw
    simp only [droppedAfter, hz]
    rw [show (s.port p).sync.waiting = false from hw]
    simp

/-! ### STORE_GRANT (R123, R125) -/

theorem good_beginStore {s : State} (h : Good s) (hd : s.device = .running) : Good (beginStore s) :=
  ⟨h.ranges.congr rfl, h.zones.congr rfl, h.dwells.congr rfl rfl, h.table.congr rfl ⟨rfl, rfl⟩ (.of_slots rfl),
    h.axes.congr rfl rfl rfl ⟨rfl, rfl, rfl, rfl⟩ (Nat.le_succ _), h.lines.congr rfl rfl rfl rfl, h.store.congr rfl ⟨rfl, rfl⟩ rfl,
    h.wear.congr ⟨rfl, rfl, rfl, rfl⟩, h.sweep.congr rfl ⟨rfl, rfl⟩, fun q => (h.sync q).congr (.of_slot rfl rfl) (noMark_congr ⟨rfl, rfl⟩ q),
    h.device.of_running hd ⟨rfl, rfl, rfl, rfl⟩⟩

theorem arrayRests {s : State} (h : Good s) : ArrayRests s := ⟨h.store.rests, h.wear, h.sweep⟩

/-- The array goes on with what it does where an engine without a program becomes idle. -/
theorem ArrayRests.setIdle {s t : State} (h : ArrayRests s) (he : s.engine.hasProgram = false) (hd : t.device = s.device)
    (hq : t.queue = s.queue) (hte : t.engine = .idle) (hr : SameRows s t) (hw : SameSweep s t) : ArrayRests t := by
  refine ⟨⟨by rw [hq]; exact h.store.once, fun ha => ?_, by rw [hte]; exact nofun, by rw [hte]; exact nofun, fun hs => ⟨hte, ?_⟩⟩,
    h.wear.congr hr, h.sweep.congr hd hw⟩
  · rw [hw.array] at ha
    have := h.store.program ha
    rw [he] at this
    cases this
  · rw [hw.array]
    exact (h.store.starting (hd.symm.trans hs)).2

theorem besideStore_of_frame {s t : State} {q e p r w i u f x}
    (h : t = { s with queue := q, engine := e, ports := p, rows := r, wornRows := w, copyMap := i, array := u, committedFreeze := f,
                      sweep := x }) : BesideStore s t := by
  subst h
  exact ⟨rfl, ⟨rfl, rfl, rfl, rfl⟩, ⟨rfl, rfl, rfl⟩, ⟨rfl, rfl, rfl, rfl⟩, ⟨rfl, rfl, rfl, rfl⟩, rfl, rfl⟩

/-- The program of a claim that is granted waits for the array, or begins at once (R125). -/
theorem good_startProgram {s : State} (h : Good s) (hd : s.device = .running) {x : Program} {k : ItemNo}
    (he : s.engine = .claiming k x.marks) : Good (startProgram x s) := by
  have hsync : ∀ p, SyncOk (s.setEngine (.programming x)) p := fun p => (h.sync p).congr (.of_slot rfl rfl) (by
    simp [noMark, inFlight, he])
  have hk : BesideStore s (startProgram x s) :=
    (besideStore_of_frame (t := s.setEngine (.programming x)) rfl).trans (besideStore_serveArray _)
  have hengine : (startProgram x s).engine = .programming x := (serveArray_queue (s.setEngine (.programming x))).engine
  have hrests : ArrayRests (startProgram x s) := by
    unfold startProgram
    by_cases hfree : s.array = .free
    · refine ArrayFreed.served ⟨hd, hfree, h.store.once, rfl, h.wear.congr ⟨rfl, rfl, rfl, rfl⟩, ?_, h.sweep.count⟩
      have := h.sweep.running
      rw [hfree] at this
      simpa using this
    · rw [serveArray_busy (s := s.setEngine (.programming x)) hfree]
      exact ⟨⟨h.store.once, fun _ => rfl, fun _ => hfree, nofun, fun hs => by cases hd.symm.trans hs⟩,
        h.wear.congr ⟨rfl, rfl, rfl, rfl⟩, h.sweep.congr rfl ⟨rfl, rfl⟩⟩
  exact good_of_store h hk (hrests.store.storeOk (by rw [hengine]; exact nofun)) hrests.wear hrests.sweep (fun p => (hsync p).served)
    fun hs => by cases hd.symm.trans hs

theorem good_storeGrant {s t : State} (h : Good s) (ht : exec .storeGrant s = .next t) : Good t := by
  have ht' : execStoreGrant s = .next t := ht
  unfold execStoreGrant at ht'
  split at ht'
  case isFalse => cases ht'; exact h
  case isTrue hnext =>
  have hd := (nextClass_eq_some_service hnext).1
  split at ht'
  case h_2 => cases ht'; exact h
  case h_1 k m he =>
  cases ht'
  have hb := good_beginStore h hd
  have hbd : (beginStore s).device = .running := hd
  have hbe : (beginStore s).engine = .claiming k m := he
  change Good (storeWork k m (beginStore s))
  generalize beginStore s = b at hb hbd hbe
  have hno : b.engine.hasProgram = false := by rw [hbe]; rfl
  unfold storeWork
  split
  · refine good_afterCommit hb hbd (besideStore_of_frame (t := b.setEngine .idle) rfl)
      ((arrayRests hb).setIdle hno rfl rfl rfl ⟨rfl, rfl, rfl, rfl⟩ ⟨rfl, rfl⟩) fun p => ?_
    refine (hb.sync p).ends.congr (.of_slot rfl rfl) fun hm => ?_
    rw [noMark_idle rfl]
    exact unmarked_of_noMark (s := b) hm
  · split
    · have hsync := fun p => (hb.sync p).ends.dropCommit (m := m)
      obtain ⟨v, hv⟩ := dropCommit_frame m b
      refine good_afterCommit hb hbd (besideStore_of_frame hv) ((arrayRests hb).setIdle hno ?_ ?_ ?_ ?_ ?_) hsync
      all_goals rw [hv]
      · exact ⟨rfl, rfl, rfl, rfl⟩
      · exact ⟨rfl, rfl⟩
    · exact good_startProgram hb hbd hbe

/-! ### PROGRAM_VERIFY (R126 to R128) -/

/-- An item's copy map entry is written: its WORN copies must lie in worn rows. -/
theorem WearOk.setItem {s : State} (h : WearOk s) {k : ItemNo} {e : ItemEntry}
    (he : ∀ c : Copy, e.copies[c] = .worn → s.worn (rowOf k c) = true) : WearOk (s.setItem k e) := by
  refine ⟨h.reads, fun j c => ?_⟩
  rw [State.setItem_at]
  split
  · next hj => subst hj; exact he c
  · exact h.copies j c

theorem copies_set_getElem (v : Vector CopyState 2) (c d : Copy) (x : CopyState) : (v.set c x)[d] = if d = c then x else v[d] := by
  revert c d
  simp [Fin.forall_fin_two]

/-- A copy is given a state that is not WORN. -/
theorem WearOk.setCopy {s : State} (h : WearOk s) {k : ItemNo} {c : Copy} {x : CopyState} {e : ItemEntry} (hx : x ≠ .worn)
    (he : e.copies = (s.item k).copies.set c x) : WearOk (s.setItem k e) := h.setItem fun d hd => by
  rw [he, copies_set_getElem] at hd
  split at hd
  · exact absurd hd hx
  · exact h.copies k d hd

/-- The program in the array, and what the store is while it is there (R125, R127). -/
theorem Good.running_of_array {s : State} (h : Good s) (ha : s.array ≠ .free) : s.device = .running := by
  cases hd : s.device with
  | running => rfl
  | starting => exact absurd (h.store.starting hd).2 ha

/-- The end of a commit whose program has left the array: the array is released, and the engine takes its new head. -/
theorem good_released {s u : State} (h : Good s) (hd : s.device = .running) (ha : s.array = .program) (k : BesideStore s u)
    (hsweep : u.sweep = s.sweep) (hengine : u.engine = .idle) (once : (u.queue.map QueueEntry.item).Nodup) (wear : WearOk u)
    (sync : ∀ p, SyncEnds u p) : Good (afterCommit (releaseArray u)) := by
  have hfreed : ArrayFreed (u.setArray .free) := by
    refine ⟨k.device.device.trans hd, rfl, once, ?_, wear.congr ⟨rfl, rfl, rfl, rfl⟩, ?_, ?_⟩
    · change u.engine.isRetrying = false
      rw [hengine]
      rfl
    · change u.sweep.state = .running ↔ u.sweep.asked = true
      have := h.sweep.running
      rw [ha] at this
      rw [hsweep]
      simpa using this
    · change u.sweep.state = .running → u.sweep.rowsRead < 206
      rw [hsweep]
      exact h.sweep.count
  exact good_afterCommit h hd ((k.trans (besideStore_of_frame (t := u.setArray .free) rfl)).trans (besideStore_serveArray _))
    hfreed.served fun p => ((sync p).congr (.of_slot rfl rfl) id : SyncEnds (u.setArray .free) p).served

theorem good_commitSucceeds {s : State} (h : Good s) (hd : s.device = .running) (ha : s.array = .program) {x : Program}
    (hworn : s.worn (programRow x) = false) : Good (commitSucceeds x s) := by
  have hwear : WearOk ((s.setRow (programRow x) (.clean x.image)).setItem x.item ((s.item x.item).committed x.target x.generation)) := by
    have hrow : WearOk (s.setRow (programRow x) (.clean x.image)) := by
      refine ⟨fun r hr => ?_, h.wear.copies⟩
      rw [State.setRow_at]
      split
      · next e =>
        have hr' : s.worn r = true := hr
        rw [e, hworn] at hr'
        cases hr'
      · exact h.wear.reads r hr
    exact hrow.setCopy (c := x.target) (x := .valid) nofun rfl
  rw [commitSucceeds_eq]
  obtain ⟨f, hf⟩ := succeeded_frame x s
  refine good_released h hd ha (besideStore_of_frame hf) ?_ ?_ ?_ ?_ fun p => ?_
  · rw [hf]; rfl
  · rw [hf]
  · rw [hf]; exact h.store.once
  · rw [hf]; exact hwear.of_same rfl rfl rfl
  · rw [hf]
    refine (h.sync p).ends.congr (.of_slot rfl rfl) fun hm => ?_
    rw [noMark_idle rfl]
    exact unmarked_of_noMark (s := s) hm

theorem good_retryProgram {s : State} (h : Good s) (hd : s.device = .running) (ha : s.array = .program) {x : Program}
    (he : s.engine = .programming x) : Good (retryProgram x s) := by
  have hwear : WearOk (s.setItem x.item ((s.item x.item).failed x.target .bad)) := h.wear.setCopy (c := x.target) (x := .bad) nofun rfl
  have hr := raised_raiseBoth .storeWriteFault (s.setItem x.item ((s.item x.item).failed x.target .bad))
  obtain ⟨v, hv⟩ := raiseBoth_frame .storeWriteFault (s.setItem x.item ((s.item x.item).failed x.target .bad))
  unfold retryProgram
  dsimp only
  generalize raiseBoth .storeWriteFault (s.setItem x.item ((s.item x.item).failed x.target .bad)) = u at hr hv
  have hport (p : Port) : SyncSame (s.port p) ((u.setEngine (.retrying x)).port p) := by
    change SyncSame _ (u.port p)
    rw [hr p]
    exact .of_slot rfl rfl
  have harray : (u.setEngine (.retrying x)).array = .program := by rw [hv]; exact ha
  refine good_of_store h (besideStore_of_frame (by rw [hv]; rfl)) ⟨?_, fun _ => nofun, fun _ => rfl, fun _ => ?_, fun _ => harray, fun hs => ?_⟩
    ?_ ?_ (fun p => (h.sync p).congr (hport p) ?_) fun hs => by cases hd.symm.trans hs
  · rw [hv]; exact h.store.once
  · rw [harray]; exact nofun
  · have : s.device = .starting := by rw [hv] at hs; exact hs
    cases hd.symm.trans this
  · rw [hv]; exact hwear.congr ⟨rfl, rfl, rfl, rfl⟩
  · rw [hv]; exact h.sweep.congr rfl ⟨rfl, rfl⟩
  · rw [hv]
    simp [noMark, inFlight, he]

/-- The marks of an item that goes back to the queue go with it (R128). -/
theorem unmarked_requeued (q : List QueueEntry) (k : ItemNo) (m : Marks) (p : Port) (h : unmarked q p = true)
    (hm : m.get p = false) : unmarked (requeued q k m) p = true := by
  unfold unmarked at h ⊢
  unfold requeued
  split
  · rw [List.all_map, List.all_eq_true]
    intro e he
    have := List.all_eq_true.mp h e he
    dsimp only [Function.comp]
    split
    · cases p <;> simp_all [Marks.get]
    · exact this
  · simp [h, hm]

theorem nodup_requeued {q : List QueueEntry} (h : (q.map QueueEntry.item).Nodup) (k : ItemNo) (m : Marks) :
    ((requeued q k m).map QueueEntry.item).Nodup := by
  unfold requeued
  split
  · have : ((q.map fun e => if e.item = k then { e with marks := ⟨e.marks.a || m.a, e.marks.b || m.b⟩ } else e).map QueueEntry.item) =
        q.map QueueEntry.item := by
      rw [List.map_map]
      refine List.map_congr_left fun e _ => ?_
      dsimp only [Function.comp]
      split <;> rfl
    rw [this]
    exact h
  · next hk =>
    rw [List.map_append, List.nodup_append]
    refine ⟨h, List.nodup_singleton _, fun a ha b hb e => ?_⟩
    cases List.mem_singleton.mp hb
    have hak : a = k := e
    exact hk (hak ▸ ha)

theorem wearOk_wornOut {s : State} (h : WearOk s) (x : Program) : WearOk (wornOut x s) := by
  refine ⟨fun r => ?_, fun k c hc => ?_⟩
  · rw [wornOut_row, wornOut_worn]
    by_cases hr : r = programRow x
    · simp [hr]
    · simpa [hr] using h.reads r
  · rw [wornOut_item] at hc
    rw [wornOut_worn]
    split at hc
    · next hk =>
      subst hk
      rw [failedEntry, copies_set_getElem] at hc
      split at hc
      · next e => simp [e, programRow]
      · simp [h.copies _ c hc]
    · simp [h.copies k c hc]

theorem good_commitFails {s : State} (h : Good s) (hd : s.device = .running) (ha : s.array = .program) {x : Program}
    (he : s.engine = .retrying x) : Good (commitFails x s) := by
  have hwear := wearOk_wornOut h.wear x
  obtain ⟨r', w', c', v', hwframe⟩ := wornOut_frame x s
  have hport (p : Port) : SyncSame (s.port p) ((wornOut x s).port p) := by
    rw [wornOut_port]
    exact .of_slot rfl rfl
  have hends (p : Port) : SyncEnds (wornOut x s) p :=
    (h.sync p).ends.congr (hport p) fun hm => by rw [noMark_congr (s := s) (by rw [hwframe]; exact ⟨rfl, rfl⟩)]; exact hm
  rw [commitFails_eq]
  by_cases hother : (s.item x.item).copies[1 - x.target] = .worn
  · have hf := failedTwice_dropped hother
    obtain ⟨v, hv⟩ := raiseExhausted_frame s (wornOut x s)
    have hraised (p : Port) : SyncEnds (raiseExhausted s (wornOut x s)) p :=
      (hends p).congr (by rw [raiseExhausted_port]; exact .of_slot rfl rfl) fun hm => by
        rw [noMark_congr (s := wornOut x s) (by rw [hv]; exact ⟨rfl, rfl⟩)]; exact hm
    have hsync := fun p => (hraised p).dropCommit (m := x.marks)
    obtain ⟨v'', hv''⟩ := dropCommit_frame x.marks (raiseExhausted s (wornOut x s))
    rw [hf]
    have hall : dropCommit x.marks (raiseExhausted s (wornOut x s)) = { wornOut x s with ports := v'', engine := .idle } := by
      rw [hv'', hv]
    refine good_released h hd ha (besideStore_of_frame (by rw [hall, hwframe])) ?_ ?_ ?_ ?_ hsync
    · rw [hall, hwframe]
    · rw [hall]
    · rw [hall, hwframe]; exact h.store.once
    · rw [hall]; exact hwear.congr ⟨rfl, rfl, rfl, rfl⟩
  · have hf := failedTwice_requeued (s := s) hother
    rw [hf]
    refine good_released h hd ha (besideStore_of_frame (by rw [hwframe]; rfl)) ?_ rfl ?_ ?_ fun p => ?_
    · rw [hwframe]; rfl
    · exact nodup_requeued h.store.once _ _
    · exact hwear.congr ⟨rfl, rfl, rfl, rfl⟩
    · refine (h.sync p).ends.congr (hport p) fun hm => ?_
      rw [noMark_idle rfl]
      unfold noMark inFlight at hm
      rw [he] at hm
      obtain ⟨hq, hmarks⟩ := Bool.and_eq_true_iff.mp hm
      exact unmarked_requeued s.queue x.item x.marks p hq (by simpa using hmarks)

theorem good_programVerify {s t : State} {r : VerifyRead} (h : Good s) (ht : exec (.programVerify r) s = .next t) : Good t := by
  have ht' : execProgramVerify r s = .next t := ht
  unfold execProgramVerify at ht'
  split at ht'
  case isFalse => cases ht'; exact h
  case isTrue ha =>
  have hd := h.running_of_array (by rw [ha]; exact nofun)
  have hpass {x : Program} (hp : verifyPasses s x r = true) : s.worn (programRow x) = false := by
    rw [verifyPasses_eq_and, Bool.and_eq_true] at hp
    simpa using hp.2
  split at ht'
  · next x he =>
    cases ht'
    split
    · next hp => exact good_commitSucceeds h hd ha (hpass hp)
    · exact good_retryProgram h hd ha he
  · next x he =>
    cases ht'
    split
    · next hp => exact good_commitSucceeds h hd ha (hpass hp)
    · exact good_commitFails h hd ha he
  · cases ht'
    exact h

/-! ### The sweep (8.5) -/

/-- Requests leave each item queued once, the engine alone and every mark in its place (R121). -/
theorem enqueueAll_keeps (items : List ItemNo) {s : State} (h : (s.queue.map QueueEntry.item).Nodup) :
    ((enqueueAll items s).queue.map QueueEntry.item).Nodup ∧ (enqueueAll items s).engine = s.engine ∧
      ∀ p, noMark (enqueueAll items s) p = noMark s p := by
  induction items generalizing s with
  | nil => exact ⟨h, rfl, fun _ => rfl⟩
  | cons k items ih =>
    have hengine : (enqueue k s).engine = s.engine := by rw [enqueue_eq]; rfl
    obtain ⟨h1, h2, h3⟩ := ih (nodup_enqueue h k)
    exact ⟨h1, h2.trans hengine, fun p => (h3 p).trans (noMark_enqueue k s p)⟩

theorem decayedRow_uncorrectable (d : Decay) : decayedRow .uncorrectable d = .uncorrectable := by
  cases d <;> rfl

theorem WearOk.decays {s : State} (h : WearOk s) (r : RowNo) (d : Decay) : WearOk (s.setRow r (decayedRow (s.row r) d)) := by
  refine ⟨fun x hx => ?_, h.copies⟩
  rw [State.setRow_at]
  split
  · next e =>
    have hx' : s.worn r = true := e ▸ hx
    rw [h.reads r hx', decayedRow_uncorrectable]
  · exact h.reads x hx

/-- The sweep's record once a row has been judged: it is RUNNING exactly while it asks for its next read (R153). -/
theorem judgedSweep_asks {w : Sweep} (hasked : w.asked = false) (r : RowNo) (f : SweepFinding) :
    ((judgedSweep r f w).state = .running ↔ (judgedSweep r f w).asked = true) ∧
      ((judgedSweep r f w).state = .running → (judgedSweep r f w).rowsRead < 206) := by
  have hno : (countedSweep r f w).asked = false := by rw [countedSweep_eq]; exact hasked
  unfold judgedSweep
  generalize countedSweep r f w = c at hno
  have hafter : (afterRow r f.isFault c).asked = false ∧ ((afterRow r f.isFault c).state = .running →
      (afterRow r f.isFault c).rowsRead < 206) := by
    unfold afterRow
    dsimp only
    split
    · exact ⟨hno, nofun⟩
    · split
      · next hlt => exact ⟨hno, fun _ => hlt⟩
      · split
        · exact ⟨hno, nofun⟩
        · split
          · exact ⟨hno, fun _ => by dsimp only; omega⟩
          · exact ⟨hno, nofun⟩
  dsimp only
  split
  · next hrun => exact ⟨by simp [hrun], fun _ => hafter.2 hrun⟩
  · next hrun => exact ⟨by simp [hrun, hafter.1], fun hr => absurd hr hrun⟩

theorem good_sweepRead {s t : State} {d : Decay} (h : Good s) (ht : exec (.sweepRead d) s = .next t) : Good t := by
  cases ha : s.array with
  | free | program =>
    have ht' : execSweepRead d s = .next t := ht
    unfold execSweepRead at ht'
    rw [ha] at ht'
    cases ht'
    exact h
  | sweepRead r judged =>
    have hd := h.running_of_array (by rw [ha]; exact nofun)
    rw [exec_sweepRead d ha] at ht
    cases ht
    have hretry : s.engine.isRetrying = false := by
      rw [← Bool.not_eq_true]
      intro hr
      cases ha.symm.trans (h.store.retry hr)
    have hwear : WearOk (readDone r d s) := (h.wear.decays r d).congr ⟨rfl, rfl, rfl, rfl⟩
    have hsync (p : Port) : SyncOk (readDone r d s) p := (h.sync p).congr (.of_slot rfl rfl) (noMark_congr ⟨rfl, rfl⟩ p)
    have hk : BesideStore s (readDone r d s) := besideStore_of_frame rfl
    suffices hv : ∃ v, (if judged then judgeRead r (readDone r d s) else readDone r d s) = v ∧ ArrayFreed v ∧ BesideStore s v ∧
        ∀ p, SyncOk v p by
      obtain ⟨v, hv, hfreed, hbeside, hvsync⟩ := hv
      rw [hv]
      exact good_takeHead h hd (hbeside.trans (besideStore_serveArray v)) hfreed.served fun p => (hvsync p).served
    refine ⟨_, rfl, ?_⟩
    cases judged with
    | false =>
      refine ⟨⟨hd, rfl, h.store.once, hretry, hwear, ?_, h.sweep.count⟩, hk, hsync⟩
      change s.sweep.state = .running ↔ s.sweep.asked = true
      have := h.sweep.running
      rw [ha] at this
      simpa using this
    | true =>
      have hrun : s.sweep.state = .running := h.sweep.running.mpr (.inr ⟨r, ha⟩)
      have hasked : s.sweep.asked = false := by
        rw [← Bool.not_eq_true]
        exact fun hq => (h.sweep.asked hq).2 r ha
      have hfound := judgeRead_found r (readDone r d s)
      change _ ∧ _ ∧ _
      rw [if_pos rfl]
      generalize sweepFinding (itemOfRow r) ((readDone r d s).item (itemOfRow r)).copies[copyOfRow r] ((readDone r d s).row r) = f at hfound
      obtain ⟨hasks, hcount⟩ := judgedSweep_asks hasked r f
      obtain ⟨⟨p, c, q, hv⟩, hraised, hitem, hqueue⟩ := hfound
      replace hv : judgeRead r (readDone r d s) = { readDone r d s with
        sweep := judgedSweep r f s.sweep, ports := p, copyMap := c, queue := q } := hv
      generalize judgeRead r (readDone r d s) = v at *
      have hnodup : (v.queue.map QueueEntry.item).Nodup ∧ ∀ p, noMark v p = noMark s p := by
        generalize (if f.repairs ((readDone r d s).item (itemOfRow r)).copies[copyOfRow r] = true then [itemOfRow r] else []) = items at hqueue
        obtain ⟨h1, h2, h3⟩ := enqueueAll_keeps items (s := readDone r d s) h.store.once
        refine ⟨hqueue ▸ h1, fun p => ?_⟩
        refine (noMark_congr (s := enqueueAll items (readDone r d s)) ⟨hqueue, ?_⟩ p).trans ((h3 p).trans (noMark_congr (s := s) ⟨rfl, rfl⟩ p))
        rw [h2, hv]
      refine ⟨⟨by rw [hv]; exact hd, by rw [hv]; rfl, hnodup.1, by rw [hv]; exact hretry, ?_, by rw [hv]; exact hasks,
        by rw [hv]; exact hcount⟩, besideStore_of_frame (by rw [hv]; rfl), fun p => (h.sync p).congr ?_ (hnodup.2 p)⟩
      · refine ⟨fun x hx => ?_, fun k c hc => ?_⟩
        · rw [hv] at hx ⊢
          exact hwear.reads x hx
        · have hwornv : v.worn = (readDone r d s).worn := by rw [hv]; rfl
          rw [hitem] at hc
          rw [hwornv]
          split at hc
          · next hr =>
            rw [ItemEntry.mark, copies_set_getElem] at hc
            split at hc
            · cases hc
            · rw [hr.1]
              exact hwear.copies _ c hc
          · exact hwear.copies k c hc
      · rw [hraised p]
        exact .of_slot rfl rfl

theorem good_sweepStart {s t : State} {p : Port} {tag : Byte} {payload : List Byte} (h : Good s)
    (ht : exec (.sweepStart p tag payload) s = .next t) : Good t := by
  cases ht
  refine good_occupy h fun u hu he => good_whenRunning hu he fun hd => ?_
  unfold serveSweepStart
  split
  · exact good_answer hu he ..
  · next r loop stop _ =>
    split
    · exact good_answer hu he ..
    · next hidle =>
      have hslot : ((serveArray (u.setSweep (startedSweep r loop stop))).port p).slot = .empty := by
        rw [serveArray_port]
        exact he
      refine good_answer ?_ hslot ..
      have hsync (p : Port) : SyncOk (u.setSweep (startedSweep r loop stop)) p := (hu.sync p).congr (.of_slot rfl rfl) (noMark_congr ⟨rfl, rfl⟩ p)
      have hrests : ArrayRests (serveArray (u.setSweep (startedSweep r loop stop))) := by
        by_cases hfree : u.array = .free
        · refine ArrayFreed.served ⟨hd, hfree, hu.store.once, ?_, hu.wear.congr ⟨rfl, rfl, rfl, rfl⟩, ?_, fun _ => ?_⟩
          · rw [← Bool.not_eq_true]
            intro hr
            cases hfree.symm.trans (hu.store.retry hr)
          · exact ⟨fun _ => rfl, fun _ => rfl⟩
          · exact Nat.zero_lt_succ _
        · rw [serveArray_busy (s := u.setSweep (startedSweep r loop stop)) hfree]
          have hno : ∀ x, u.array ≠ .sweepRead x true := fun x hx => hidle (hu.sweep.running.mpr (.inr ⟨x, hx⟩))
          refine ⟨hu.store.rests.congr rfl ⟨rfl, rfl⟩ rfl, hu.wear.congr ⟨rfl, rfl, rfl, rfl⟩, ⟨?_, fun _ => ⟨hfree, hno⟩,
            fun x hx => absurd hx (hno x), fun _ => Nat.zero_lt_succ _, fun hs => by cases hd.symm.trans hs⟩⟩
          exact ⟨fun _ => .inl rfl, fun _ => rfl⟩
      have hq := serveArray_queue (u.setSweep (startedSweep r loop stop))
      have hk : BesideStore u (serveArray (u.setSweep (startedSweep r loop stop))) :=
        (besideStore_of_frame (t := u.setSweep (startedSweep r loop stop)) rfl).trans (besideStore_serveArray _)
      refine good_of_store hu hk ⟨hrests.store.once, fun _ hi => ?_, hrests.store.program, hrests.store.waits, hrests.store.retry,
        hrests.store.starting⟩ hrests.wear hrests.sweep (fun q => (hsync q).served) fun hs => by cases hd.symm.trans hs
      rw [hq.engine] at hi
      rw [hq.queue]
      exact hu.store.takes hd hi

theorem good_sweepStop {s t : State} {p : Port} {tag : Byte} {payload : List Byte} (h : Good s)
    (ht : exec (.sweepStop p tag payload) s = .next t) : Good t := by
  cases ht
  refine good_occupy h fun u hu he => good_withoutArguments hu he ?_
  unfold serveSweepStop
  split
  · next hrun =>
    have hd : u.device = .running := by
      cases hd : u.device with
      | running => rfl
      | starting =>
        rw [hu.sweep.starting hd] at hrun
        cases hrun
    refine good_answer (s := (u.setSweep { u.sweep with state := .stopped, asked := false }).setArray (orphanRead u.array)) ?_ he ..
    have harray : ∀ a, orphanRead u.array = a → (a = .program ↔ u.array = .program) ∧ (a = .free ↔ u.array = .free) ∧
        ∀ r, a ≠ .sweepRead r true := by
      rintro a rfl
      cases u.array <;> simp [orphanRead]
    obtain ⟨hprogram, hfree, hno⟩ := harray _ rfl
    refine good_of_store hu (besideStore_of_frame rfl) ⟨hu.store.once, hu.store.takes, fun ha => hu.store.program (hprogram.mp ha),
      fun hp ha => hu.store.waits hp (hfree.mp ha), fun hr => hprogram.mpr (hu.store.retry hr), fun hs => by cases hd.symm.trans hs⟩
      (hu.wear.congr ⟨rfl, rfl, rfl, rfl⟩) ⟨?_, fun hf => Bool.noConfusion hf, fun r hr => absurd hr (hno r), nofun, fun hs => by cases hd.symm.trans hs⟩
      (fun q => (hu.sync q).congr (.of_slot rfl rfl) (noMark_congr ⟨rfl, rfl⟩ q)) fun hs => by cases hd.symm.trans hs
    refine ⟨nofun, fun hor => ?_⟩
    rcases hor with hf | ⟨r, hr⟩
    · cases hf
    · exact absurd hr (hno r)
  · exact good_answer hu he ..

end Sys2Proof.Machine
end

section
/-! A full reset, the load and the move to RUNNING keep all that a run keeps (chapter 8). -/

namespace Sys2Proof.Machine

/-! ### Full resets (R116, R137, R139) -/

theorem good_raiseBoth {s : State} (h : Good s) (x : Flag) : Good (raiseBoth x s) := by
  unfold raiseBoth
  exact good_raiseAt (good_raiseAt h .a x) .b x

/-- The supply and the reset pin of a part that is STARTING are free. -/
theorem good_setSupply {s : State} (h : Good s) (hd : s.device = .starting) (supply resetN : Bool) :
    Good (s.setSupply supply resetN) :=
  ⟨h.ranges.congr rfl, h.zones.congr rfl, h.dwells.congr rfl rfl, h.table.congr rfl ⟨rfl, rfl⟩ (.of_slots rfl),
    h.axes.congr rfl rfl rfl ⟨rfl, rfl, rfl, rfl⟩ le_rfl, h.lines.congr rfl rfl rfl rfl, h.store.congr rfl ⟨rfl, rfl⟩ rfl,
    h.wear.congr ⟨rfl, rfl, rfl, rfl⟩, h.sweep.congr rfl ⟨rfl, rfl⟩, fun p => (h.sync p).congr (.of_slot rfl rfl) (noMark_congr ⟨rfl, rfl⟩ p),
    ⟨fun _ => hd, fun hs => ⟨(h.device.rests hs).slots, (h.device.rests hs).running, (h.device.rests hs).passes,
      (h.device.rests hs).conditions, (h.device.rests hs).dwells, (h.device.rests hs).notRunning⟩, h.device.rows, h.device.half⟩⟩

/-- The row that a full reset tears is worn only where it then reads UNCORRECTABLE (R116, R117). -/
theorem good_discarded {s : State} (h : Good s) (tear : Tear) (faults : FlagSet) : Good (fullReset tear faults s) := by
  have hkept := rowsKept_fullReset s tear faults
  refine good_afterReset _ _ faults fun r hr => ?_
  change (fullReset tear faults s).row r = .uncorrectable
  replace hr : (fullReset tear faults s).worn r = true := hr
  unfold RowsKept at hkept
  cases hp : programInArray s with
  | none =>
    rw [hp] at hkept
    simp only [State.row, State.worn, hkept] at hr ⊢
    exact h.wear.reads r hr
  | some p =>
    rw [hp] at hkept
    obtain ⟨hrow, hworn⟩ := hkept
    rw [hworn] at hr
    rw [hrow]
    by_cases htorn : r = rowOf p.item p.target
    · cases tear with
      | uncorrectable => rw [if_pos htorn]; rfl
      | blank | asWritten => simp [htorn] at hr
    · rw [if_neg htorn]
      simp only [htorn, false_and, if_false] at hr
      exact h.wear.reads r hr

section
variable {s t : State} (h : Good s)

include h

theorem good_fullReset {cause : ResetCause} {tear : Tear} (ht : exec (.fullReset cause tear) s = .next t) : Good t := by
  have hg := good_discarded h tear 0
  cases cause <;> cases ht <;> exact good_setSupply hg rfl _ _

theorem good_holdEnd (ht : exec .holdEnd s = .next t) : Good t := by
  have ht' : execHoldEnd s = .next t := ht
  unfold execHoldEnd at ht'
  split at ht'
  · next hheld =>
    cases ht'
    exact good_raiseBoth (good_setSupply h (h.device.hold hheld) true true) .resetSeen
  · cases ht'
    exact h

theorem good_restart {p : Port} {tag : Byte} {tear : Tear} (ht : exec (.restart p tag tear) s = .next t) : Good t := by
  have ht' : execRestart p tag tear s = .next t := ht
  unfold execRestart at ht'
  split at ht'
  · cases ht'
    exact good_setPort_kept (good_discarded h tear resetSeen) rfl rfl
  · cases ht'
    exact h

end

/-! ### The contents of images (R141, R187) -/

/-- A zone as the load restores it: disarmed but for what the image says, and UNKNOWN or TRIPPED (R19, R141). -/
theorem zoneOk_decodeLive {bytes : List Byte} {z : Zone} (h : decodeLive bytes = some z) :
    ZoneOk z ∧ (z.occupancy = .unknown ∨ z.occupancy = .tripped) := by
  unfold decodeLive at h
  split at h
  · split at h
    · cases h
    · split at h
      · split at h
        · next hok =>
          obtain ⟨hinc, _, hlabel, hbounds, htrip⟩ := hok
          cases h
          refine ⟨⟨hinc, hbounds, ?_, ?_, fun hd => ?_, fun ho => ?_, fun ho => ?_, fun ho => ?_⟩, ?_⟩
          · exact (List.length_take_le _ _).trans hlabel
          · dsimp only; split <;> simp_all
          · dsimp only at hd ⊢
            split
            · next ht => rw [(htrip ht).2] at hd; cases hd
            · rfl
          · dsimp only at ho; split at ho <;> cases ho
          · dsimp only at ho; split at ho <;> cases ho
          · dsimp only at ho ⊢
            split at ho
            · next ht => exact (htrip ht).1
            · cases ho
          · dsimp only; split <;> simp
        · cases h
      · cases h
  · cases h

theorem ranges_decodeAxis {bytes : List Byte} {c : AxisConfig} (h : decodeAxis bytes = some c) : c.maxStep ≠ 0 ∧ c.jumpLimit ≠ 0 := by
  unfold decodeAxis at h
  split at h
  · split at h
    · next hmax hjump _ =>
      cases h
      exact ⟨maxStepOf_ne_zero hmax, jumpLimitOf_ne_zero hjump⟩
    · cases h
  · cases h

/-- A content that the load can give to an item (R19, R158). -/
def ContentOk : Content → Prop
  | .live z => ZoneOk z ∧ (z.occupancy = .unknown ∨ z.occupancy = .tripped)
  | .axis c => c.maxStep ≠ 0 ∧ c.jumpLimit ≠ 0
  | _ => True

theorem contentOk_decodeImage {k : ItemNo} {image : List Byte} {c : Content} (h : decodeImage k image = some c) : ContentOk c := by
  unfold decodeImage at h
  split at h
  · split at h
    · cases h
    · cases hk : itemKind k <;> simp only [hk] at h
      case slot i =>
        split at h
        · obtain ⟨_, _, rfl⟩ := Option.map_eq_some_iff.mp h
          trivial
        · split at h
          · obtain ⟨z, hz, rfl⟩ := Option.map_eq_some_iff.mp h
            exact zoneOk_decodeLive hz
          · cases h
      case axis n =>
        split at h
        · obtain ⟨x, hx, rfl⟩ := Option.map_eq_some_iff.mp h
          exact ranges_decodeAxis hx
        · cases h
      all_goals
        split at h
        · obtain ⟨_, _, rfl⟩ := Option.map_eq_some_iff.mp h
          trivial
        · cases h
  · cases h

/-! ### The load of an item while the device is STARTING (R145 to R148) -/

section
variable {s : State} (h : Good s) (hd : s.device = .starting)

include h

theorem good_setLoad {l : Load} (rows : l.nextRow ≤ 206) (half : l.first.isSome = true ↔ l.nextRow % 2 = 1) : Good (s.setLoad l) :=
  ⟨h.ranges.congr rfl, h.zones.congr rfl, h.dwells.congr rfl rfl, h.table.congr rfl ⟨rfl, rfl⟩ (.of_slots rfl),
    h.axes.congr rfl rfl rfl ⟨rfl, rfl, rfl, rfl⟩ le_rfl, h.lines.congr rfl rfl rfl rfl, h.store.congr rfl ⟨rfl, rfl⟩ rfl,
    h.wear.congr ⟨rfl, rfl, rfl, rfl⟩, h.sweep.congr rfl ⟨rfl, rfl⟩, fun p => (h.sync p).congr (.of_slot rfl rfl) (noMark_congr ⟨rfl, rfl⟩ p),
    ⟨h.device.hold, fun hs => ⟨(h.device.rests hs).slots, (h.device.rests hs).running, (h.device.rests hs).passes,
      (h.device.rests hs).conditions, (h.device.rests hs).dwells, (h.device.rests hs).notRunning⟩, rows, half⟩⟩

omit h in
/-- Nothing is listed while the device is STARTING (R19). -/
theorem tableOk_starting (hd : s.device = .starting) (hl : ∀ n k, s.zoneList n k = []) : TableOk s := by
  refine ⟨fun n k => ?_, fun hr => by cases hd.symm.trans hr⟩
  rw [hd]
  exact hl n k

omit h in
/-- Every line is released while the device is STARTING (R99). -/
theorem LinesOk.starting {t : State} (h : LinesOk s) (hd : s.device = .starting) (ht : t.device = .starting) (hl : t.lines = s.lines) :
    LinesOk t := (linesOk_starting ht).mpr fun l => by
  simp only [State.line, hl]
  exact (linesOk_starting hd).mp h l

/-- The rows, their copies and the queue of a part, written while it rests. -/
theorem good_stored {t : State} (k : BesideStore s t) (store : StoreOk t) (wear : WearOk t) (hw : SameSweep s t) (hp : t.ports = s.ports)
    (hr : t.running = s.running) (hm : ∀ p, noMark t p = noMark s p) : Good t := by
  have hport (p : Port) : t.port p = s.port p := by simp only [State.port, hp]
  exact good_of_store h k store wear (h.sweep.congr k.device.device hw)
    (fun p => (h.sync p).congr (by rw [hport]; exact .of_slot rfl rfl) (hm p))
    fun hs => ⟨fun p => by rw [hport]; exact h.not_queued p hs, hr.trans (h.device.rests hs).running⟩

theorem good_decays (r : RowNo) (d : Decay) : Good (s.setRow r (decayedRow (s.row r) d)) :=
  good_stored h (besideStore_of_frame rfl) (h.store.congr rfl ⟨rfl, rfl⟩ rfl) (h.wear.decays r d) ⟨rfl, rfl⟩ rfl rfl
    fun p => noMark_congr ⟨rfl, rfl⟩ p

theorem good_setItem_unworn {k : ItemNo} {e : ItemEntry} (he : ∀ c : Copy, e.copies[c] ≠ .worn) : Good (s.setItem k e) :=
  good_setItem h k e fun c hc => absurd hc (he c)

include hd

theorem good_enqueue_starting (k : ItemNo) : Good (enqueue k s) := by
  have hstore := h.store.rests.enqueue k
  have hmark := noMark_enqueue k s
  rw [enqueue_eq] at hstore hmark ⊢
  exact good_stored h (besideStore_of_frame rfl) ⟨hstore.once, fun hr => (by cases hd.symm.trans hr), hstore.program, hstore.waits,
    hstore.retry, hstore.starting⟩ (h.wear.congr ⟨rfl, rfl, rfl, rfl⟩) ⟨rfl, rfl⟩ rfl rfl hmark

/-- A slot loaded: nothing is listed and nothing is timed while the device is STARTING. -/
theorem good_setSlot_starting (i : SlotNo) {v : Slot}
    (hv : ∀ z, zoneOf v = some z → ZoneOk z ∧ (z.occupancy = .unknown ∨ z.occupancy = .tripped)) : Good (s.setSlot i v) := by
  have hzone (j : SlotNo) : (s.setSlot i v).zone j = if j = i then zoneOf v else s.zone j := by
    rw [zone_eq_zoneOf, zone_eq_zoneOf, State.setSlot_at]
    split <;> rfl
  have hr := h.device.rests hd
  have hslots : ∀ j, SlotOk ((s.setSlot i v).zone j) ((s.setSlot i v).dwell j) := fun j => by
    rw [hzone, State.setSlot_get_dwell]
    split
    · rw [hr.dwells]
      refine ⟨fun z hz => ⟨(hv z hz).1, timerOk_none ?_⟩, fun _ => rfl⟩
      rcases (hv z hz).2 with e | e <;> rw [e] <;> exact nofun
    · exact h.slot j
  have hboth := zonesOk_and_dwellsOk_iff.mpr hslots
  refine ⟨h.ranges.congr rfl, hboth.1, hboth.2, tableOk_starting hd (h.table.empty hd),
    h.axes.congr rfl rfl rfl ⟨rfl, rfl, rfl, rfl⟩ le_rfl, h.lines.starting hd hd rfl,
    h.store.congr rfl ⟨rfl, rfl⟩ rfl, h.wear.congr ⟨rfl, rfl, rfl, rfl⟩, h.sweep.congr rfl ⟨rfl, rfl⟩,
    fun p => (h.sync p).congr (.of_slot rfl rfl) (noMark_congr ⟨rfl, rfl⟩ p),
    ⟨h.device.hold, fun _ => ⟨hr.slots, hr.running, hr.passes, hr.conditions, hr.dwells, fun j z hz => ?_⟩, h.device.rows, h.device.half⟩⟩
  rw [hzone] at hz
  split at hz
  · exact (hv z hz).2
  · exact hr.notRunning j z hz

/-- The configuration records loaded: the trackers are DISABLED while the device is STARTING. -/
theorem good_configured {t : State} {axes : Vector AxisConfig 4} {lines : Vector LineConfig 8} {ports : PerPort PortConfig}
    {freeze : FreezeLevel} {committed : Option FreezeLevel} (ranges : ∀ n : Axis, (axes[n]).maxStep ≠ 0 ∧ (axes[n]).jumpLimit ≠ 0)
    (ht : t = { s with axes := axes, lineConfig := lines, portConfig := ports, freezeLevel := freeze, committedFreeze := committed }) :
    Good t := by
  subst ht
  have hr := h.device.rests hd
  refine ⟨ranges, h.zones.congr rfl, h.dwells.congr rfl rfl, h.table.congr rfl ⟨rfl, rfl⟩ (.of_slots rfl), fun n => ?_,
    h.lines.starting hd hd rfl, h.store.congr rfl ⟨rfl, rfl⟩ rfl, h.wear.of_same rfl rfl rfl,
    h.sweep.congr rfl ⟨rfl, rfl⟩, fun p => (h.sync p).congr (.of_slot rfl rfl) (noMark_congr ⟨rfl, rfl⟩ p),
    ⟨h.device.hold, fun _ => ⟨hr.slots, hr.running, hr.passes, hr.conditions, hr.dwells, hr.notRunning⟩, h.device.rows, h.device.half⟩⟩
  have hn := h.axes n
  have htr := hn.tracker
  have hoff := (hn.starting hd).1
  have htimer : (s.tracker n).timer.isSome = true → False := fun he => by
    have := (htr.timer.mp he).1
    rw [hoff] at this
    cases this
  exact ⟨⟨htr.sure, htr.live, ⟨fun he => (htimer he).elim, fun he => by rw [show ((s.tracker n).state = _) from he.1] at hoff; cases hoff⟩,
    htr.position, htr.sequence, htr.cause, htr.disabled, htr.span⟩, hn.conditions, hn.pass, hn.dated, hn.posting, hn.starting⟩

theorem good_setAxisConfig_starting (n : Axis) {c : AxisConfig} (hc : c.maxStep ≠ 0 ∧ c.jumpLimit ≠ 0) : Good (s.setAxisConfig n c) := by
  refine good_configured h hd (axes := (s.setAxisConfig n c).axes) (fun m => ?_) rfl
  have := State.setAxisConfig_at s n c m
  change ((s.setAxisConfig n c).axisConfig m).maxStep ≠ 0 ∧ ((s.setAxisConfig n c).axisConfig m).jumpLimit ≠ 0
  rw [this]
  split
  · exact hc
  · exact h.ranges m

theorem good_loadNothing (k : ItemNo) (lost : Bool) : Good (loadNothing k lost s) := by
  unfold loadNothing
  split
  · exact good_setSlot_starting h hd _ fun z hz => by split at hz <;> cases hz
  · exact good_setAxisConfig_starting h hd _ (by decide)
  · exact good_configured h hd h.ranges rfl
  · exact good_configured h hd h.ranges rfl
  · split <;> exact good_configured h hd h.ranges rfl

theorem good_loadContent (k : ItemNo) {c : Content} (hc : ContentOk c) : Good (loadContent k c s) := by
  unfold loadContent
  split
  · refine good_setSlot_starting h hd _ fun z hz => ?_
    cases hz
  · refine good_setSlot_starting h hd _ fun z hz => ?_
    cases hz
    exact hc
  · exact good_setAxisConfig_starting h hd _ hc
  · exact good_configured h hd h.ranges rfl
  · exact good_configured h hd h.ranges rfl
  · exact good_configured h hd h.ranges rfl
  · exact h

theorem good_loadItem (k : ItemNo) (d : Decision) : Good (loadItem k d s) := by
  unfold loadItem
  split
  · split
    · next hc => exact good_loadContent h hd k (contentOk_decodeImage hc)
    · exact h
  · exact good_loadNothing h hd k _

omit h hd in
theorem loadItem_frame (k : ItemNo) (d : Decision) (s : State) : ∃ a b c e f g, loadItem k d s = { s with
    slots := a, axes := b, lineConfig := c, portConfig := e, freezeLevel := f, committedFreeze := g } := by
  unfold loadItem loadContent loadNothing
  split
  · split
    · split <;> exact ⟨_, _, _, _, _, _, rfl⟩
    · exact ⟨_, _, _, _, _, _, rfl⟩
  · split
    · exact ⟨_, _, _, _, _, _, rfl⟩
    · exact ⟨_, _, _, _, _, _, rfl⟩
    · exact ⟨_, _, _, _, _, _, rfl⟩
    · exact ⟨_, _, _, _, _, _, rfl⟩
    · split <;> exact ⟨_, _, _, _, _, _, rfl⟩

omit h hd in
theorem unreadState_ne_worn (c : CopyClass) : unreadState c ≠ .worn := by cases c <;> simp [unreadState]

omit h hd in
theorem twoCopies_ne_worn {a b : CopyState} (ha : a ≠ .worn) (hb : b ≠ .worn) (c : Copy) : (twoCopies a b)[c] ≠ .worn := by
  revert c
  simpa [Fin.forall_fin_two, twoCopies] using ⟨ha, hb⟩

omit h hd in
/-- The load decides no copy WORN (R143). -/
theorem decideItem_ne_worn (c₀ c₁ : CopyClass) (c : Copy) : (decideItem c₀ c₁).entry.copies[c] ≠ .worn := by
  unfold decideItem
  split
  · exact twoCopies_ne_worn (by decide) (by decide) c
  · unfold decideBoth
    dsimp only
    split
    · split <;> exact twoCopies_ne_worn (by decide) (by decide) c
    · split
      · exact twoCopies_ne_worn (by decide) (by decide) c
      · split
        · exact twoCopies_ne_worn (by decide) (by decide) c
        · split
          · exact twoCopies_ne_worn (by decide) (by decide) c
          · split <;> exact twoCopies_ne_worn (by decide) (by decide) c
  · exact twoCopies_ne_worn (by decide) (unreadState_ne_worn _) c
  · exact twoCopies_ne_worn (unreadState_ne_worn _) (by decide) c
  · exact twoCopies_ne_worn (unreadState_ne_worn _) (unreadState_ne_worn _) c

omit h hd in
theorem markCorrected_ne_worn {e : ItemEntry} (he : ∀ c : Copy, e.copies[c] ≠ .worn) (r₀ r₁ : CopyRead) (c : Copy) :
    (markCorrected r₀ r₁ e).copies[c] ≠ .worn := by
  rw [markCorrected_eq]
  have h0 := he 0
  have h1 := he 1
  refine twoCopies_ne_worn ?_ ?_ c
  · split
    · exact nofun
    · exact h0
  · split
    · exact nofun
    · exact h1

theorem good_decide2 (k : ItemNo) (r₀ r₁ : CopyRead) : Good (decide2 k r₀ r₁ s) := by
  have hl := good_loadItem h hd k (decideItem r₀.cls r₁.cls)
  obtain ⟨a, b, c, e, f, g, hframe⟩ := loadItem_frame k (decideItem r₀.cls r₁.cls) s
  have hload : (loadItem k (decideItem r₀.cls r₁.cls) s).load = s.load := by rw [hframe]
  have hdev : (loadItem k (decideItem r₀.cls r₁.cls) s).device = .starting := by rw [hframe]; exact hd
  unfold decide2
  dsimp only
  generalize loadItem k (decideItem r₀.cls r₁.cls) s = u at hl hload hdev
  have hi := good_setItem_unworn hl (k := k) (markCorrected_ne_worn (decideItem_ne_worn r₀.cls r₁.cls) r₀ r₁)
  have hu := good_setLoad hi (l := u.load.counted (decideItem r₀.cls r₁.cls).outcome)
    (by rw [counted_eq, hload]; exact h.device.rows) (by rw [counted_eq, hload]; exact h.device.half)
  split
  · exact good_enqueue_starting hu hdev k
  · exact hu

end

theorem good_loadRowRead {s t : State} {d : Decay} (h : Good s) (ht : exec (.loadRowRead d) s = .next t) : Good t := by
  have ht' : execLoadRowRead d s = .next t := ht
  unfold execLoadRowRead at ht'
  split at ht'
  case isFalse => cases ht'; exact h
  case isTrue hc =>
  split at ht'
  case isFalse => cases ht'; exact h
  case isTrue hlt =>
  cases ht'
  have hu := good_decays h ⟨s.load.nextRow, hlt⟩ d
  have hd : (s.setRow ⟨s.load.nextRow, hlt⟩ (decayedRow (s.row ⟨s.load.nextRow, hlt⟩) d)).device = .starting := hc.1
  have hload : (s.setRow ⟨s.load.nextRow, hlt⟩ (decayedRow (s.row ⟨s.load.nextRow, hlt⟩) d)).load = s.load := rfl
  have hhalf := h.device.half
  generalize hr : (⟨s.load.nextRow, hlt⟩ : RowNo) = r at *
  generalize s.setRow r (decayedRow (s.row r) d) = u at *
  unfold loadRow
  dsimp only
  rw [hload]
  split
  · next hnone =>
    rw [hnone] at hhalf
    have hodd : s.load.nextRow % 2 ≠ 1 := fun e => Bool.noConfusion (hhalf.mpr e)
    refine good_setLoad hu (by dsimp only; omega) ?_
    dsimp only
    simp only [Option.isSome_some, true_iff]
    omega
  · next c₀ hsome =>
    rw [hsome] at hhalf
    have hodd : s.load.nextRow % 2 = 1 := hhalf.mp rfl
    have hdecided (l : Load) (rows : l.nextRow ≤ 206) (half : l.first.isSome = true ↔ l.nextRow % 2 = 1) (k : ItemNo) (c : CopyRead) :
        Good (decide2 k c₀ c (u.setLoad l)) := good_decide2 (good_setLoad hu rows half) hd k c₀ c
    refine hdecided _ ?_ ?_ _ _
    · dsimp only; omega
    · dsimp only
      simp only [Option.isSome_none, Bool.false_eq_true, false_iff]
      omega

/-! ### The move to RUNNING (R149) -/

theorem good_movedToRunning {s t : State} (h : Good s) (hd : s.device = .starting) (hheld : s.held = false) (hm : MovedToRunning s t) :
    Good t := by
  obtain ⟨v, l, p, q, e, hframe⟩ := hm.frame
  obtain ⟨o, hod, hoe, hoq, hq, he⟩ := hm.taken
  have hr := h.device.rests hd
  have hrun : t.device = .running := by rw [hframe]
  have hnot : t.device ≠ .starting := fun hs => by cases hs.symm.trans hrun
  have hzone (i : SlotNo) (z : Zone) (hz : t.zone i = some z) : s.zone i = some z := (hm.kept.zone_kept (i := i) hz).1
  have hslots : ∀ i, SlotOk (t.zone i) (t.dwell i) := fun i => by
    have hdwell : t.dwell i = none := by rw [hframe]; exact hr.dwells i
    rw [hdwell]
    refine ⟨fun z hz => ⟨h.zones i z (hzone i z hz), timerOk_none ?_⟩, fun _ => rfl⟩
    rcases hr.notRunning i z (hzone i z hz) with e | e <;> rw [e] <;> exact nofun
  have hboth := zonesOk_and_dwellsOk_iff.mpr hslots
  have hrests : StoreRests (s.setDevice .running) :=
    ⟨h.store.once, h.store.program, h.store.waits, h.store.retry, fun hs => DeviceState.noConfusion hs⟩
  obtain ⟨hcq, hce⟩ := takeHead_congr (s := s.setDevice .running) (t := o) hod hoe hoq
  have hqueue : SameQueue (takeHead (s.setDevice .running)) t := ⟨hq.trans hcq, he.trans hce⟩
  obtain ⟨x, y, htake⟩ := takeHead_frame (s.setDevice .running)
  refine ⟨?_, hboth.1, hboth.2, hm.tableOk, fun n => ?_, (linesOk_running hrun).mpr hm.line,
    hrests.takeHead.congr ?_ hqueue ?_, h.wear.congr ?_, ?_, fun k => (h.sync k).congr ?_ ?_, ?_⟩
  · rw [hframe]; exact h.ranges
  · have hn := h.axes n
    have hoff := hn.starting hd
    have htr := hn.tracker
    have hsure : (s.tracker n).sure = false := by
      rw [← Bool.not_eq_true]
      intro hs
      cases hoff.1.symm.trans (htr.sure.mp hs)
    have hlive : (s.tracker n).live = none := by
      rw [← Option.not_isSome_iff_eq_none]
      intro hs
      cases hoff.1.symm.trans (htr.live.mp hs)
    have htimer : (s.tracker n).timer = none := by
      rw [← Option.not_isSome_iff_eq_none]
      intro hs
      cases hoff.1.symm.trans (htr.timer.mp hs).1
    have hposition : (s.tracker n).position = none := by
      rw [← Option.not_isSome_iff_eq_none]
      intro hs
      have := htr.position.mp hs
      rw [hoff.1] at this
      simp at this
    have hcause : (s.tracker n).cause = none := htr.cause_none (by rw [hoff.1]; decide)
    have hconfig : t.axisConfig n = s.axisConfig n := by rw [hframe]; rfl
    have hpending : t.pendingConditions n = [] := by rw [hframe]; exact hr.conditions n
    have hpass : t.pendingPass n = none := by rw [hframe]; exact hr.passes n
    have havail : t.available[n] = s.available[n] := by rw [hframe]
    have htsure : (t.tracker n).sure = (s.tracker n).sure := by
      rw [hm.tracker]
      split <;> rfl
    refine ⟨?_, ?_, by rw [hpass]; exact nofun, by rw [hpending]; exact nofun, by rw [hpending]; exact .nil, fun hs => absurd hs hnot⟩
    · rw [hconfig, hm.tracker]
      split
      · exact trackerOk_left (by simp) hsure hlive htimer (by simp [hposition]) (fun hp => by
          rw [show ({ s.tracker n with state := TrackerState.acquiring } : Tracker).position = none from hposition] at hp
          cases hp) (by simp [hcause]) (by simp)
      · exact htr
    · rw [hpending, htsure, havail, hoff.2]
      exact hsure
  · rw [hrun, htake]; rfl
  · rw [hframe, htake]; rfl
  · rw [hframe]; exact ⟨rfl, rfl, rfl, rfl⟩
  · have hsweep : t.sweep = s.sweep := by rw [hframe]
    have harray : t.array = s.array := by rw [hframe]
    exact ⟨by rw [hsweep, harray]; exact h.sweep.running, by rw [hsweep, harray]; exact h.sweep.asked,
      by rw [hsweep, harray]; exact h.sweep.next, by rw [hsweep]; exact h.sweep.count, fun hs => absurd hs hnot⟩
  · rw [hm.ports k]
    exact .of_slot rfl rfl
  · rw [noMark_congr hqueue, noMark_takeHead]
    exact noMark_congr ⟨rfl, rfl⟩ k
  · have hh : t.held = s.held := by rw [hframe]; rfl
    refine ⟨fun hs => ?_, fun hs => absurd hs hnot, by rw [hframe]; exact h.device.rows, by rw [hframe]; exact h.device.half⟩
    rw [hh, hheld] at hs
    cases hs

theorem good_moveToRunning {s t : State} (h : Good s) (ht : exec .moveToRunning s = .next t) : Good t := by
  have ht' : execMoveToRunning s = .next t := ht
  unfold execMoveToRunning at ht'
  split at ht'
  · next hc =>
    have hm := movedToRunning (h.table.empty hc.1)
    generalize moveToRunning s = u at ht' hm
    cases ht'
    exact good_movedToRunning h hc.1 hc.2.1 hm
  · cases ht'
    exact h

end Sys2Proof.Machine
end

section
/-! Every step keeps all that a run keeps (chapters 1 to 10): one case per row of the table. -/

namespace Sys2Proof.Machine

theorem good_grant {s t : State} {p : Port} (h : Good s) (c : TableCommand) (ht : exec (grantOf p c) s = .next t) : Good t := by
  rw [exec_grantOf] at ht
  cases ht
  exact good_tableGrant h p c

/-- Every command and event keeps all that a run keeps. -/
theorem good_exec {c : Instr} {s t : State} (h : Good s) (ht : exec c s = .next t) : Good t := by
  cases c with
  | fullReset cause tear => exact good_fullReset h ht
  | holdEnd => exact good_holdEnd h ht
  | loadRowRead d => exact good_loadRowRead h ht
  | moveToRunning => exact good_moveToRunning h ht
  | refusedFormat p bytes => exact good_refusedFormat h ht
  | unknownCommand p code tag payload => exact good_unknownCommand h ht
  | nop p tag => exact good_nop h ht
  | fetch p tag m => exact good_fetch h ht
  | portReset p tag duringGrant => exact good_portReset h ht
  | restart p tag tear => exact good_restart h ht
  | tableCommandAccept p command tag payload => exact good_tableCommandAccept h ht
  | create p => exact good_grant (p := p) h .create ht
  | amend p => exact good_grant (p := p) h .amend ht
  | retire p => exact good_grant (p := p) h .retire ht
  | arm p => exact good_grant (p := p) h .arm ht
  | disarm p => exact good_grant (p := p) h .disarm ht
  | clear p => exact good_grant (p := p) h .clear ht
  | transfer p => exact good_grant (p := p) h .transfer ht
  | releaseAll p => exact good_grant (p := p) h .releaseAll ht
  | reclaim p => exact good_grant (p := p) h .reclaim ht
  | readZone p => exact good_grant (p := p) h .readZone ht
  | find p => exact good_grant (p := p) h .find ht
  | list p => exact good_grant (p := p) h .list ht
  | setAxis p => exact good_grant (p := p) h .setAxis ht
  | setLines p => exact good_grant (p := p) h .setLines ht
  | setPorts p => exact good_grant (p := p) h .setPorts ht
  | freeze p => exact good_grant (p := p) h .freeze ht
  | readConfig p => exact good_grant (p := p) h .readConfig ht
  | takeChanges p tag payload => exact good_takeChanges h ht
  | readFaults p tag payload => exact good_readFaults h ht
  | axisStatus p tag payload => exact good_axisStatus h ht
  | lineStatus p tag payload => exact good_lineStatus h ht
  | deviceStatus p tag payload => exact good_deviceStatus h ht
  | sweepStart p tag payload => exact good_sweepStart h ht
  | sweepStop p tag payload => exact good_sweepStop h ht
  | sweepStatus p tag payload => exact good_sweepStatus h ht
  | sync p tag payload => exact good_sync h ht
  | resync p tag payload m => exact good_resync h ht
  | sampleFrame n bits word straddles m => exact (tracked_sampleFrame h ht).1
  | stalenessExpiry n m => exact (tracked_stalenessExpiry h ht).1
  | pass n => exact good_pass h ht
  | dwellTimerExpiry i m => exact good_dwellTimerExpiry h ht
  | dwellExpiry i => exact good_dwellExpiry h ht
  | axisUnsure n => exact good_axisUnsure h ht
  | axisSure n => exact good_axisSure h ht
  | storeGrant => exact good_storeGrant h ht
  | programVerify r => exact good_programVerify h ht
  | sweepRead d => exact good_sweepRead h ht

/-- A step idles, or carries out the command at the front of the queue. -/
theorem step_cases {s t : State} (ht : step s = .next t) :
    t = s ∨ ∃ c rest, s.pending = c :: rest ∧ exec c (s.setPending rest) = .next t := by
  unfold step at ht
  split at ht
  · cases ht
    exact .inl rfl
  · next c rest hp => exact .inr ⟨c, rest, hp, ht⟩

/-- Every step keeps all that a run keeps. -/
theorem good_step {s t : State} (h : Good s) (ht : step s = .next t) : Good t := by
  rcases step_cases ht with rfl | ⟨c, rest, _, hc⟩
  · exact h
  · exact good_exec (good_setPending h rest) hc

/-- Settles O53: the zones and the dwell timers are parts of what every step keeps. -/
theorem stepsKeepTheZones : Obligations.StepsKeepTheZones := fun _ _ h ht =>
  ⟨(good_step h ht).zones, (good_step h ht).dwells⟩

/-- Settles O54: so are the lists, the exclusivity and the lines. -/
theorem stepsKeepTheTableAndTheLines : Obligations.StepsKeepTheTableAndTheLines := fun _ _ h ht =>
  ⟨(good_step h ht).table, (good_step h ht).lines⟩

/-- Settles O55: so are the axes, their records and the device state. -/
theorem stepsKeepTheAxesAndTheDevice : Obligations.StepsKeepTheAxesAndTheDevice := fun _ _ h ht =>
  ⟨(good_step h ht).axes, (good_step h ht).ranges, (good_step h ht).device⟩

/-- Settles O56: so is the record store. -/
theorem stepsKeepTheStore : Obligations.StepsKeepTheStore := fun _ _ h ht =>
  ⟨(good_step h ht).store, (good_step h ht).wear, (good_step h ht).sweep, (good_step h ht).sync⟩

end Sys2Proof.Machine
end

section
/-! What a step of a RUNNING part can do to the zones and to the records that the freeze levels protect (R6, R97, R165 to R167):
nothing, what the evaluator makes of its zones, or what one table command makes of its slots. -/

namespace Sys2Proof.Machine

/-! ### Rows that leave the slots and the records alone -/

/-- The slots, the AXIS and LINES records and the freeze level are as they were. -/
structure Untouched (s t : State) : Prop where
  slots : t.slots = s.slots
  axes : t.axes = s.axes
  lines : t.lineConfig = s.lineConfig
  freeze : t.freezeLevel = s.freezeLevel

theorem Untouched.refl (s : State) : Untouched s s := ⟨rfl, rfl, rfl, rfl⟩

theorem Untouched.trans {s t u : State} (h : Untouched s t) (k : Untouched t u) : Untouched s u :=
  ⟨k.slots.trans h.slots, k.axes.trans h.axes, k.lines.trans h.lines, k.freeze.trans h.freeze⟩

theorem untouched_setPort (s : State) (p : Port) (q : PortState) : Untouched s (s.setPort p q) :=
  ⟨by simp, by simp, by simp, by simp⟩

theorem untouched_tick (s : State) (m : Moment) : Untouched s (s.tick m) := by
  cases m <;> exact ⟨rfl, rfl, rfl, rfl⟩

theorem BesideStore.untouched {s t : State} (h : BesideStore s t) : Untouched s t :=
  ⟨h.table.slots, h.config.axes, h.config.lines, h.config.freeze⟩

theorem OnlyTracking.untouched {s t : State} (h : OnlyTracking s t) : Untouched s t :=
  ⟨h.table.slots, h.config.axes, h.config.lines, h.config.freeze⟩

theorem untouched_occupy {p : Port} {payload : List Byte} {serve : State → State} (h : ∀ u, Untouched u (serve u)) (s : State) :
    Untouched s (occupy p payload serve s) := by
  have hout : Untouched s (shiftOut p (frameLength payload) s) := untouched_setPort ..
  unfold occupy
  split
  · exact .refl s
  · dsimp only
    generalize shiftOut p (frameLength payload) s = u at hout
    split
    · exact (hout.trans (untouched_setPort ..)).trans (h _)
    · exact (hout.trans (untouched_setPort ..)).trans (untouched_setPort ..)

theorem untouched_withoutArguments {p : Port} {c : LocalCommand} {tag : Byte} {payload : List Byte} {serve : State → State}
    (h : ∀ u, Untouched u (serve u)) (s : State) : Untouched s (withoutArguments p c tag payload serve s) := by
  unfold withoutArguments
  split
  · exact h s
  · exact untouched_setPort ..

theorem untouched_whenRunning {p : Port} {c : LocalCommand} {tag : Byte} {serve : State → State}
    (h : ∀ u, Untouched u (serve u)) (s : State) : Untouched s (whenRunning p c tag serve s) := by
  unfold whenRunning
  split
  · exact untouched_setPort ..
  · exact h s

theorem untouched_resynchronise (n : Axis) (state : TrackerState) (turn : Option Turn) (forget : Bool) (s : State) :
    Untouched s (resynchronise n state turn forget s) := by
  unfold resynchronise depart
  dsimp only
  split
  · rw [post_eq]
    exact ⟨rfl, rfl, rfl, rfl⟩
  · exact ⟨rfl, rfl, rfl, rfl⟩

/-- The rows that are no grant of the table to a port or to the evaluator, and no full reset. -/
def LeavesTheTable : Instr → Prop
  | .refusedFormat _ _ | .unknownCommand _ _ _ _ | .nop _ _ | .fetch _ _ _ | .portReset _ _ _ | .tableCommandAccept _ _ _ _
  | .takeChanges _ _ _ | .readFaults _ _ _ | .axisStatus _ _ _ | .lineStatus _ _ _ | .deviceStatus _ _ _ | .sweepStart _ _ _
  | .sweepStop _ _ _ | .sweepStatus _ _ _ | .sync _ _ _ | .resync _ _ _ _ | .sampleFrame _ _ _ _ _ | .stalenessExpiry _ _
  | .dwellTimerExpiry _ _ | .storeGrant | .programVerify _ | .sweepRead _ | .holdEnd | .loadRowRead _ | .moveToRunning => True
  | _ => False

theorem untouched_refusedFormat {s t : State} {p : Port} {bytes : List Byte} (ht : exec (.refusedFormat p bytes) s = .next t) :
    Untouched s t := by
  have ht' : execRefusedFormat p bytes s = .next t := ht
  unfold execRefusedFormat at ht'
  split at ht' <;> cases ht'
  · exact (((untouched_setPort ..).trans (untouched_setPort ..)).trans (untouched_setPort ..)).trans (untouched_setPort ..)
  · exact ⟨rfl, rfl, rfl, rfl⟩

theorem untouched_unknownCommand {s t : State} {p : Port} {code tag : Byte} {payload : List Byte}
    (ht : exec (.unknownCommand p code tag payload) s = .next t) : Untouched s t := by
  have ht' : execUnknownCommand p code tag payload s = .next t := ht
  unfold execUnknownCommand at ht'
  split at ht' <;> cases ht'
  · exact ⟨rfl, rfl, rfl, rfl⟩
  · exact untouched_occupy (fun _ => untouched_setPort ..) s

theorem untouched_nop {s t : State} {p : Port} {tag : Byte} (ht : exec (.nop p tag) s = .next t) : Untouched s t := by
  have ht' : execNop p tag s = .next t := ht
  unfold execNop at ht'
  split at ht' <;> cases ht'
  · exact (untouched_setPort ..).trans (untouched_setPort ..)
  · exact ⟨rfl, rfl, rfl, rfl⟩

theorem untouched_fetch {s t : State} {p : Port} {tag : Byte} {m : FetchMoment} (ht : exec (.fetch p tag m) s = .next t) :
    Untouched s t := by
  have ht' : execFetch p tag m s = .next t := ht
  unfold execFetch at ht'
  split at ht'
  · cases ht'
    exact ⟨rfl, rfl, rfl, rfl⟩
  · cases m <;> cases ht'
    · unfold openTransaction
      split
      · exact ⟨rfl, rfl, rfl, rfl⟩
      · exact untouched_setPort ..
    · unfold recogniseFetch
      dsimp only
      split
      · exact untouched_setPort ..
      · exact ⟨rfl, rfl, rfl, rfl⟩
    · unfold endFetch
      dsimp only
      split
      · exact untouched_setPort ..
      · exact ⟨rfl, rfl, rfl, rfl⟩

theorem untouched_portReset {s t : State} {p : Port} {tag : Byte} {duringGrant : Bool}
    (ht : exec (.portReset p tag duringGrant) s = .next t) : Untouched s t := by
  by_cases hjudges : judgesFrames s p = true
  · rw [exec_portReset tag duringGrant hjudges] at ht
    cases ht
    have hu : Untouched s (if duringGrant then orphanGrant p s else s) := by
      obtain ⟨g, x, h, _⟩ := orphanGrant_frame p s
      split
      · rw [h]; exact ⟨rfl, rfl, rfl, rfl⟩
      · exact ⟨rfl, rfl, rfl, rfl⟩
    exact (hu.trans (besideStore_markAll p false _).untouched).trans (untouched_setPort ..)
  · have ht' : execPortReset p tag duringGrant s = .next t := ht
    unfold execPortReset at ht'
    rw [if_neg hjudges] at ht'
    cases ht'
    exact ⟨rfl, rfl, rfl, rfl⟩

theorem untouched_serveSweepStart (p : Port) (tag : Byte) (payload : List Byte) (u : State) :
    Untouched u (serveSweepStart p tag payload u) := by
  unfold serveSweepStart
  split
  · exact untouched_setPort ..
  · next r loop stop _ =>
    split
    · exact untouched_setPort ..
    · exact (Untouched.trans (s := u) (t := u.setSweep (startedSweep r loop stop)) ⟨rfl, rfl, rfl, rfl⟩
        (besideStore_serveArray _).untouched).trans (untouched_setPort ..)

theorem untouched_serveSweepStop (p : Port) (tag : Byte) (u : State) : Untouched u (serveSweepStop p tag u) := by
  unfold serveSweepStop
  split
  · exact Untouched.trans (t := (u.setSweep { u.sweep with state := .stopped, asked := false }).setArray (orphanRead u.array))
      ⟨rfl, rfl, rfl, rfl⟩ (untouched_setPort ..)
  · exact untouched_setPort ..

theorem untouched_serveSync (p : Port) (tag : Byte) (u : State) : Untouched u (serveSync p tag u) := by
  unfold serveSync
  split
  · exact untouched_setPort ..
  · exact (besideStore_markAll p true u).untouched.trans (untouched_setPort ..)

theorem untouched_serveResync (p : Port) (tag : Byte) (payload : List Byte) (m : Moment) (u : State) :
    Untouched u (serveResync p tag payload m u) := by
  unfold serveResync
  split
  · exact untouched_setPort ..
  · split
    · exact untouched_setPort ..
    · exact ((untouched_tick u m).trans (untouched_resynchronise ..)).trans (untouched_setPort ..)

theorem untouched_dwellTimerExpiry {s t : State} {i : SlotNo} {m : Moment} (ht : exec (.dwellTimerExpiry i m) s = .next t) :
    Untouched s t := by
  have ht' : execDwellTimerExpiry i m s = .next t := ht
  unfold execDwellTimerExpiry at ht'
  split at ht'
  · split at ht' <;> cases ht'
    · exact (untouched_tick s m).trans ⟨rfl, rfl, rfl, rfl⟩
    · exact ⟨rfl, rfl, rfl, rfl⟩
  · cases ht'
    exact ⟨rfl, rfl, rfl, rfl⟩

theorem untouched_afterCommit (s : State) : Untouched s (afterCommit s) := by
  obtain ⟨v, q, e, h⟩ := afterCommit_frame s
  rw [h]
  exact ⟨rfl, rfl, rfl, rfl⟩

theorem untouched_releaseArray (s : State) : Untouched s (releaseArray s) := by
  unfold releaseArray
  exact Untouched.trans (t := s.setArray .free) ⟨rfl, rfl, rfl, rfl⟩ (besideStore_serveArray _).untouched

theorem untouched_storeWork (k : ItemNo) (m : Marks) (b : State) : Untouched b (storeWork k m b) := by
  unfold storeWork
  split
  · exact Untouched.trans (s := b) (t := b.setEngine .idle) ⟨rfl, rfl, rfl, rfl⟩ (untouched_afterCommit _)
  · split
    · obtain ⟨v, q, e, h⟩ := afterDrop_frame m b
      rw [h]
      exact ⟨rfl, rfl, rfl, rfl⟩
    · next content _ _ target _ =>
      obtain ⟨a, r, h⟩ := startProgram_frame ⟨k, m, encodeImage k (nextGeneration (b.item k).generation) content, target,
        nextGeneration (b.item k).generation⟩ b
      dsimp only
      rw [h]
      exact ⟨rfl, rfl, rfl, rfl⟩

theorem untouched_storeGrant {s t : State} (ht : exec .storeGrant s = .next t) : Untouched s t := by
  have ht' : execStoreGrant s = .next t := ht
  unfold execStoreGrant at ht'
  split at ht'
  · split at ht'
    · next k m _ =>
      cases ht'
      exact Untouched.trans (t := beginStore s) ⟨rfl, rfl, rfl, rfl⟩ (untouched_storeWork k m _)
    · cases ht'
      exact ⟨rfl, rfl, rfl, rfl⟩
  · cases ht'
    exact ⟨rfl, rfl, rfl, rfl⟩

theorem untouched_programVerify {s t : State} {r : VerifyRead} (ht : exec (.programVerify r) s = .next t) : Untouched s t := by
  have hsucceeds (x : Program) : Untouched s (commitSucceeds x s) := by
    obtain ⟨f, hf⟩ := succeeded_frame x s
    rw [commitSucceeds_eq]
    have hs : Untouched s (succeeded x s) := by rw [hf]; exact ⟨rfl, rfl, rfl, rfl⟩
    exact (hs.trans (untouched_releaseArray _)).trans (untouched_afterCommit _)
  have hretries (x : Program) : Untouched s (retryProgram x s) := by
    obtain ⟨v, hv⟩ := raiseBoth_frame .storeWriteFault (s.setItem x.item ((s.item x.item).failed x.target .bad))
    unfold retryProgram
    dsimp only
    rw [hv]
    exact ⟨rfl, rfl, rfl, rfl⟩
  have hfails (x : Program) : Untouched s (commitFails x s) := by
    obtain ⟨p, q, hf⟩ := failedTwice_frame x s
    obtain ⟨r, w, c, v, hw⟩ := wornOut_frame x s
    rw [commitFails_eq]
    have hs : Untouched s (failedTwice x s) := by rw [hf, hw]; exact ⟨rfl, rfl, rfl, rfl⟩
    exact (hs.trans (untouched_releaseArray _)).trans (untouched_afterCommit _)
  have ht' : execProgramVerify r s = .next t := ht
  unfold execProgramVerify at ht'
  split at ht'
  · split at ht'
    · cases ht'
      split
      · exact hsucceeds _
      · exact hretries _
    · cases ht'
      split
      · exact hsucceeds _
      · exact hfails _
    · cases ht'
      exact ⟨rfl, rfl, rfl, rfl⟩
  · cases ht'
    exact ⟨rfl, rfl, rfl, rfl⟩

theorem untouched_sweepRead {s t : State} {d : Decay} (ht : exec (.sweepRead d) s = .next t) : Untouched s t := by
  cases ha : s.array with
  | free | program =>
    have ht' : execSweepRead d s = .next t := ht
    unfold execSweepRead at ht'
    rw [ha] at ht'
    cases ht'
    exact ⟨rfl, rfl, rfl, rfl⟩
  | sweepRead r judged =>
    rw [exec_sweepRead d ha] at ht
    cases ht
    have hv : Untouched s (if judged then judgeRead r (readDone r d s) else readDone r d s) := by
      split
      · obtain ⟨p, c, q, hframe⟩ := (judgeRead_found r (readDone r d s)).frame
        rw [hframe]
        exact ⟨rfl, rfl, rfl, rfl⟩
      · exact ⟨rfl, rfl, rfl, rfl⟩
    exact (hv.trans (besideStore_serveArray _).untouched).trans (besideStore_takeHead _).untouched

/-- The rows that are no grant and no full reset leave the slots and the records of a RUNNING part alone. -/
theorem untouched_exec {c : Instr} {s t : State} (h : Good s) (hd : s.device = .running) (hc : LeavesTheTable c)
    (ht : exec c s = .next t) : Untouched s t := by
  have hnot : s.device ≠ .starting := fun e => by cases e.symm.trans hd
  cases c with
  | refusedFormat p bytes => exact untouched_refusedFormat ht
  | unknownCommand p code tag payload => exact untouched_unknownCommand ht
  | nop p tag => exact untouched_nop ht
  | fetch p tag m => exact untouched_fetch ht
  | portReset p tag duringGrant => exact untouched_portReset ht
  | tableCommandAccept p command tag payload =>
    cases ht
    refine untouched_occupy (fun u => ?_) s
    unfold acceptTable
    split <;> exact untouched_setPort ..
  | takeChanges p tag payload =>
    cases ht
    exact untouched_occupy (untouched_withoutArguments fun u => (untouched_setPort ..).trans (untouched_setPort ..)) s
  | readFaults p tag payload =>
    cases ht
    exact untouched_occupy (untouched_withoutArguments fun u => (untouched_setPort ..).trans (untouched_setPort ..)) s
  | axisStatus p tag payload =>
    cases ht
    refine untouched_occupy (fun u => ?_) s
    unfold serveAxisStatus
    split <;> exact untouched_setPort ..
  | lineStatus p tag payload =>
    cases ht
    exact untouched_occupy (untouched_withoutArguments fun u => untouched_setPort ..) s
  | deviceStatus p tag payload =>
    cases ht
    exact untouched_occupy (untouched_withoutArguments fun u => untouched_setPort ..) s
  | sweepStatus p tag payload =>
    cases ht
    exact untouched_occupy (untouched_withoutArguments fun u => untouched_setPort ..) s
  | sweepStart p tag payload =>
    cases ht
    exact untouched_occupy (untouched_whenRunning (untouched_serveSweepStart p tag payload)) s
  | sweepStop p tag payload =>
    cases ht
    exact untouched_occupy (untouched_withoutArguments (untouched_serveSweepStop p tag)) s
  | sync p tag payload =>
    cases ht
    exact untouched_occupy (untouched_whenRunning (untouched_withoutArguments (untouched_serveSync p tag))) s
  | resync p tag payload m =>
    cases ht
    exact untouched_occupy (untouched_whenRunning (untouched_serveResync p tag payload m)) s
  | sampleFrame n bits word straddles m => exact (tracked_sampleFrame h ht).2.untouched
  | stalenessExpiry n m => exact (tracked_stalenessExpiry h ht).2.untouched
  | dwellTimerExpiry i m => exact untouched_dwellTimerExpiry ht
  | storeGrant => exact untouched_storeGrant ht
  | programVerify r => exact untouched_programVerify ht
  | sweepRead d => exact untouched_sweepRead ht
  | holdEnd =>
    have ht' : execHoldEnd s = .next t := ht
    unfold execHoldEnd at ht'
    split at ht'
    · next hheld => exact absurd (h.device.hold hheld) hnot
    · cases ht'
      exact ⟨rfl, rfl, rfl, rfl⟩
  | loadRowRead d =>
    have ht' : execLoadRowRead d s = .next t := ht
    unfold execLoadRowRead at ht'
    rw [if_neg fun e => hnot e.1] at ht'
    cases ht'
    exact ⟨rfl, rfl, rfl, rfl⟩
  | moveToRunning =>
    have ht' : execMoveToRunning s = .next t := ht
    unfold execMoveToRunning at ht'
    rw [if_neg fun e => hnot e.1] at ht'
    cases ht'
    exact ⟨rfl, rfl, rfl, rfl⟩
  | _ => exact hc.elim

end Sys2Proof.Machine
end

section
/-! What one grant of the table can do to the zones and to the records that the freeze levels protect (R6, R97, R165 to R167): the
work of each table command, and of each work item of the evaluator. -/

namespace Sys2Proof.Machine

/-! ### What a grant may make of a slot -/

theorem SameDefinition.refl (z : Zone) : SameDefinition z z :=
  ⟨rfl, rfl, rfl, rfl, rfl, rfl, rfl, rfl, rfl, rfl, rfl, rfl, rfl⟩

/-- What a freeze level and a trip leave of a slot that held `v` and holds `w`: a trip ends where a CLEAR of the incarnation is
granted, and nowhere else. -/
structure Guarded (level : FreezeLevel) (clears : Byte → Prop) (v w : Slot) : Prop where
  empty : level ≠ .opened → (∀ z, v ≠ .live z) → w = v
  zone : level ≠ .opened → ∀ z, v = .live z → ∃ y, w = .live y ∧ SameDefinition z y ∧ (level = .fixed → y.armed = z.armed)
  trip : ∀ z, v = .live z → z.occupancy = .tripped →
    (∃ y, w = .live y ∧ y.incarnation = z.incarnation ∧ y.occupancy = .tripped) ∨ clears z.incarnation

section
variable {level : FreezeLevel} {clears : Byte → Prop}

theorem Guarded.kept (v : Slot) : Guarded level clears v v :=
  ⟨fun _ _ => rfl, fun _ z hz => ⟨z, hz, .refl z, fun _ => rfl⟩, fun z hz ht => .inl ⟨z, hz, rfl, ht⟩⟩

/-- At OPEN a slot that holds no zone may become anything. -/
theorem Guarded.made {v w : Slot} (h : level = .opened) (hv : ∀ z, v ≠ .live z) : Guarded level clears v w :=
  ⟨fun hl => absurd h hl, fun hl => absurd h hl, fun z hz => absurd hz (hv z)⟩

/-- At OPEN a zone that is not TRIPPED may be ended. -/
theorem Guarded.ended {z : Zone} {w : Slot} (h : level = .opened) (hz : z.occupancy ≠ .tripped) :
    Guarded level clears (.live z) w :=
  ⟨fun hl => absurd h hl, fun hl => absurd h hl, fun _ e ht => by cases e; exact absurd ht hz⟩

/-- At OPEN a zone may be redefined, if it keeps its incarnation and its trip. -/
theorem Guarded.redefined {z y : Zone} (h : level = .opened) (hi : y.incarnation = z.incarnation)
    (ht : z.occupancy = .tripped → y.occupancy = .tripped) : Guarded level clears (.live z) (.live y) :=
  ⟨fun hl => absurd h hl, fun hl => absurd h hl, fun _ e htz => by cases e; exact .inl ⟨y, rfl, hi, ht htz⟩⟩

/-- A zone that is not TRIPPED may be judged anew, and armed or disarmed below FIXED. -/
theorem Guarded.judged {z y : Zone} (hd : SameDefinition z y) (ha : level = .fixed → y.armed = z.armed)
    (hz : z.occupancy ≠ .tripped) : Guarded level clears (.live z) (.live y) :=
  ⟨fun _ hv => absurd rfl (hv z), fun _ _ e => by cases e; exact ⟨y, rfl, hd, ha⟩, fun _ e ht => by cases e; exact absurd ht hz⟩

/-- A zone that a CLEAR names may be judged anew. -/
theorem Guarded.cleared {z y : Zone} (hd : SameDefinition z y) (ha : y.armed = z.armed) (hc : clears z.incarnation) :
    Guarded level clears (.live z) (.live y) :=
  ⟨fun _ hv => absurd rfl (hv z), fun _ _ e => by cases e; exact ⟨y, rfl, hd, fun _ => ha⟩, fun _ e _ => by cases e; exact .inr hc⟩

theorem Guarded.imp {clears' : Byte → Prop} {v w : Slot} (h : Guarded level clears v w) (hc : ∀ n, clears n → clears' n) :
    Guarded level clears' v w :=
  ⟨h.empty, h.zone, fun z hz ht => (h.trip z hz ht).imp_right (hc _)⟩
end

/-- What the freeze levels and the trips leave of a part: each slot guarded, the AXIS and LINES records kept but at OPEN, and the
level not lowered. -/
structure Protects (clears : Handle → Prop) (s t : State) : Prop where
  slots : ∀ i, Guarded s.freezeLevel (fun n => clears ⟨i, n⟩) (s.slot i) (t.slot i)
  axes : s.freezeLevel ≠ .opened → t.axes = s.axes
  lines : s.freezeLevel ≠ .opened → t.lineConfig = s.lineConfig
  freeze : s.freezeLevel.rank ≤ t.freezeLevel.rank

theorem Untouched.slot {s t : State} (h : Untouched s t) (i : SlotNo) : t.slot i = s.slot i := by simp only [State.slot, h.slots]

theorem Untouched.protects {clears : Handle → Prop} {s t : State} (h : Untouched s t) : Protects clears s t where
  slots i := by rw [h.slot]; exact .kept _
  axes _ := h.axes
  lines _ := h.lines
  freeze := by rw [h.freeze]

theorem Protects.between {clears : Handle → Prop} {s u v t : State} (h : Protects clears u v) (hs : Untouched s u)
    (ht : Untouched v t) : Protects clears s t where
  slots i := by
    rw [ht.slot, ← hs.slot i, ← hs.freeze]
    exact h.slots i
  axes hl := by rw [ht.axes, h.axes (by rwa [hs.freeze]), hs.axes]
  lines hl := by rw [ht.lines, h.lines (by rwa [hs.freeze]), hs.lines]
  freeze := by rw [ht.freeze, ← hs.freeze]; exact h.freeze

theorem Protects.imp {clears clears' : Handle → Prop} {s t : State} (h : Protects clears s t) (hc : ∀ x, clears x → clears' x) :
    Protects clears' s t :=
  ⟨fun i => (h.slots i).imp fun _ => hc _, h.axes, h.lines, h.freeze⟩

/-- The records that the freeze levels protect are the same. -/
structure SameRecords (s t : State) : Prop where
  axes : t.axes = s.axes
  lines : t.lineConfig = s.lineConfig
  freeze : t.freezeLevel = s.freezeLevel

theorem Protects.of_slots {clears : Handle → Prop} {s t : State} (hr : SameRecords s t)
    (h : ∀ i, Guarded s.freezeLevel (fun n => clears ⟨i, n⟩) (s.slot i) (t.slot i)) : Protects clears s t :=
  ⟨h, fun _ => hr.axes, fun _ => hr.lines, hr.freeze ▸ le_rfl⟩

/-! ### The work of a table command -/

/-- The work of a grant to port `p` leaves the zones of the other port alone (R6). -/
def LeavesOthers (p : Port) (s t : State) : Prop :=
  ∀ i z, s.zone i = some z → z.owner = ownerOf p.other → t.slot i = s.slot i

/-- What a table command's work, from part `s`, keeps. -/
structure WorkKeeps (p : Port) (clears : Handle → Prop) (s t : State) : Prop where
  others : LeavesOthers p s t
  protects : Protects clears s t

section
variable {p : Port} {clears : Handle → Prop} {s t : State}

theorem WorkKeeps.of_untouched (h : Untouched s t) : WorkKeeps p clears s t :=
  ⟨fun i _ _ _ => h.slot i, h.protects⟩

/-- A command that works on one slot, of a zone that is not the other port's. -/
theorem WorkKeeps.of_slot {i : SlotNo} {w : Slot} (hslots : t.slots = s.slots.set i w) (hr : SameRecords s t)
    (ho : ∀ z, s.slot i = .live z → z.owner ≠ ownerOf p.other)
    (hg : Guarded s.freezeLevel (fun n => clears ⟨i, n⟩) (s.slot i) w) : WorkKeeps p clears s t := by
  have hb : SlotBecomes s t i w := .of_slots hslots
  refine ⟨fun j z hz howner => ?_, .of_slots hr fun j => ?_⟩
  · rw [hb j, if_neg]
    rintro rfl
    exact ho z (zone_eq_some_iff.mp hz) howner
  · rw [hb j]
    split
    · next hj => subst hj; exact hg
    · exact .kept _

/-- A command on the zone that its handle names. -/
theorem WorkKeeps.of_zone {frozen : Bool} {h : Handle} {z : Zone} {w : Slot} (hz : ZonePasses p frozen h s z)
    (hslots : t.slots = s.slots.set h.slot w) (hr : SameRecords s t)
    (hg : Guarded s.freezeLevel (fun n => clears ⟨h.slot, n⟩) (.live z) w) : WorkKeeps p clears s t := by
  have hslot := zone_eq_some_iff.mp hz.zone
  refine .of_slot hslots hr (fun y hy => ?_) (by rw [hslot]; exact hg)
  cases hslot.symm.trans hy
  exact hz.owner

theorem changedZone_slots (i : SlotNo) (z y : Zone) (entered : Bool) (s : State) :
    (changedZone i z y entered s).work.state.slots = s.slots.set i (.live y) ∧
      SameRecords s (changedZone i z y entered s).work.state := by
  obtain ⟨v, hv, _⟩ := restartPass_frame y (cancelDwell i (s.setSlot i (.live y)))
  unfold changedZone
  rw [hv]
  exact ⟨rfl, rfl, rfl, rfl⟩

theorem amendTaken_slots (i : SlotNo) (z y : Zone) (s : State) :
    (amendTaken i z y s).work.state.slots = s.slots.set i (.live (amendedZone s.available[y.axis] z y)) ∧
      SameRecords s (amendTaken i z y s).work.state := by
  unfold amendTaken
  dsimp only
  obtain ⟨a, b, hmoved⟩ := moveInLists_frame i z (amendedZone s.available[y.axis] z y)
    (s.setSlot i (.live (amendedZone s.available[y.axis] z y)))
  rw [hmoved]
  split
  · generalize amendedZone s.available[y.axis] z y = x
    generalize hc : cancelDwell i _ = c
    obtain ⟨v, hv, _⟩ := restartPass_frame x c
    rw [hv, ← hc]
    exact ⟨rfl, rfl, rfl, rfl⟩
  · exact ⟨rfl, rfl, rfl, rfl⟩

/-- A judgement restarted, and a zone armed or disarmed, keeps the definition. -/
theorem sameDefinition_zoneAt (z : Zone) (o : Occupancy) (armed : Bool) : SameDefinition z (zoneAt { z with armed := armed } o) :=
  ⟨rfl, rfl, rfl, rfl, rfl, rfl, rfl, rfl, rfl, rfl, rfl, rfl, rfl⟩

theorem workKeeps_createTaken {payload : List Byte} {x : CreateArgs} {i : SlotNo} {r : Byte} (hx : CreatePasses payload s x i r) :
    WorkKeeps p clears s (createTaken p x i r s).work.state := by
  have hempty (z : Zone) : s.slot i ≠ .live z := by rw [hx.vacant]; exact nofun
  unfold createTaken
  generalize x.zone p (nextIncarnation r) = y
  dsimp only
  obtain ⟨a, b, h⟩ : ∃ a b, enterList i y (s.setSlot i (.live y)) = { s.setSlot i (.live y) with absolute := a, periodic := b } := by
    unfold enterList
    cases y.bounds.kind <;> exact ⟨_, _, rfl⟩
  rw [h]
  exact .of_slot (i := i) rfl ⟨rfl, rfl, rfl⟩ (fun z hz => absurd hz (hempty z)) (.made hx.opened hempty)

/-- An AMEND keeps the incarnation, and the trip of a TRIPPED zone, whose geometry and action it may not name (R28). -/
theorem workKeeps_amendTaken {payload : List Byte} {x : AmendArgs} {z y : Zone} (hok : ZoneOk z)
    (hx : AmendPasses p payload s x z y) : WorkKeeps p clears s (amendTaken x.handle.slot z y s).work.state := by
  obtain ⟨hslots, hr⟩ := amendTaken_slots x.handle.slot z y s
  have ha := x.apply_amended hx.apply
  refine .of_zone hx.passes hslots hr (.redefined (frozenAtLayout_eq_false.mp hx.passes.frozen) ?_ fun ht => ?_)
  · rw [amendedZone_eq hok ha]
    exact ha.incarnation
  · have hkept : restartsJudgement z y = false := (x.apply_tripped hx.apply (hx.allowed ht)).2
    rw [amendedZone_eq hok ha]
    simp [zoneAt, amendedOccupancy, hkept, ht]

theorem workKeeps_retireTaken {h : Handle} {z : Zone} (hz : ZonePasses p (frozenAtLayout s) h s z) (ht : z.occupancy ≠ .tripped) :
    WorkKeeps p clears s (retireTaken p h z s).work.state := by
  unfold retireTaken
  obtain ⟨a, b, hl⟩ := leaveList_frame h.slot z (s.setSlot h.slot (.vacant z.incarnation))
  rw [hl]
  exact .of_zone hz rfl ⟨rfl, rfl, rfl⟩ (.ended (frozenAtLayout_eq_false.mp hz.frozen) ht)

theorem workKeeps_arm {h : Handle} {z : Zone} (hok : ZoneOk z) (hz : ZonePasses p (frozenAtFixed s) h s z) (ha : z.armed = false)
    (available entered : Bool) :
    WorkKeeps p clears s (changedZone h.slot z (restarted available { z with armed := true }) entered s).work.state := by
  obtain ⟨hslots, hr⟩ := changedZone_slots h.slot z (restarted available { z with armed := true }) entered s
  refine .of_zone hz hslots hr (.judged ?_ (fun hl => absurd hl (frozenAtFixed_eq_false.mp hz.frozen)) ?_)
  · rw [restarted_eq]
    exact sameDefinition_zoneAt z _ true
  · rw [hok.disarmed ha]
    decide

theorem workKeeps_disarm {h : Handle} {z : Zone} (hz : ZonePasses p (frozenAtFixed s) h s z) (ht : z.occupancy ≠ .tripped) :
    WorkKeeps p clears s (changedZone h.slot z ({ z with armed := false }.withOccupancy .unknown) false s).work.state := by
  obtain ⟨hslots, hr⟩ := changedZone_slots h.slot z ({ z with armed := false }.withOccupancy .unknown) false s
  exact .of_zone hz hslots hr
    (.judged (sameDefinition_zoneAt z .unknown false) (fun hl => absurd hl (frozenAtFixed_eq_false.mp hz.frozen)) ht)

theorem workKeeps_clear {h : Handle} {z : Zone} (hz : ZonePasses p false h s z) (hc : clears h) (available entered : Bool) :
    WorkKeeps p clears s (changedZone h.slot z (restarted available z) entered s).work.state := by
  obtain ⟨hslots, hr⟩ := changedZone_slots h.slot z (restarted available z) entered s
  refine .of_zone hz hslots hr ?_
  rw [restarted_eq]
  exact .cleared (sameDefinition_zoneAt z _ z.armed) rfl (by rw [hz.incarnation]; exact hc)

theorem workKeeps_releasedAll (hl : s.freezeLevel = .opened) : WorkKeeps p clears s (releasedAll p s).1.state := by
  have h := released_releasedAll p s
  obtain ⟨v, hv⟩ := h.frame
  have hr : SameRecords s (releasedAll p s).1.state := by rw [hv]; exact ⟨rfl, rfl, rfl⟩
  have howner : ownerOf p.other ≠ ownerOf p := by cases p <;> decide
  have hkept (i : SlotNo) (hi : ∀ z, s.zone i = some z → z.owner ≠ ownerOf p) : (releasedAll p s).1.state.slot i = s.slot i := by
    refine h.kept i fun _ => ?_
    unfold ownedBy
    cases hz : s.zone i with
    | none => rfl
    | some z => exact decide_eq_false (hi z hz)
  refine ⟨fun i z hz ho => hkept i fun y hy => ?_, .of_slots hr fun i => ?_⟩
  · cases hz.symm.trans hy
    rw [ho]
    exact howner
  · by_cases hi : ∃ z, s.zone i = some z ∧ z.owner = ownerOf p
    · obtain ⟨z, hz, ho⟩ := hi
      rw [h.done i (List.mem_finRange i) z hz ho, zone_eq_some_iff.mp hz]
      exact .redefined hl rfl id
    · rw [hkept i fun z hz ho => hi ⟨z, hz, ho⟩]
      exact .kept _

/-- A command that writes a record at OPEN, or raises the level, leaves the slots alone. -/
theorem WorkKeeps.of_config (hslots : t.slots = s.slots) (hl : s.freezeLevel = .opened) (hf : t.freezeLevel = s.freezeLevel) :
    WorkKeeps p clears s t := by
  have hslot (i : SlotNo) : t.slot i = s.slot i := by simp only [State.slot, hslots]
  exact ⟨fun i _ _ _ => hslot i, fun i => by rw [hslot]; exact .kept _, fun h => absurd hl h, fun h => absurd hl h, hf ▸ le_rfl⟩

/-- The tracker and its conditions are all that the effect of a SET_AXIS changes. -/
theorem untouched_axisEffect (n : Axis) (c d : AxisConfig) (u : State) : Untouched u (axisEffect n c d u) := by
  unfold axisEffect
  split
  · exact untouched_resynchronise ..
  · exact ⟨rfl, rfl, rfl, rfl⟩

/-- The work of every table command leaves the other port's zones alone, and keeps what the freeze levels and the trips protect,
where a trip ends only by a CLEAR of its zone. -/
theorem workKeeps_actOf (hok : ZonesOk s) (c : TableCommand) (p : Port) (payload : List Byte) :
    WorkKeeps p (fun h => c = .clear ∧ parseHandle payload = some h) s (actOf c p payload s).work.state := by
  have hnothing {clears : Handle → Prop} {e : Ending} (he : ChangesNothing s e) : WorkKeeps p clears s e.work.state := by
    rw [show e.work = { state := s } from he]
    exact .of_untouched (.refl s)
  cases c <;> simp only [actOf]
  case create =>
    rcases actCreate_cases p payload s with he | ⟨x, i, r, hx, he⟩
    · exact hnothing he
    · rw [he]; exact workKeeps_createTaken hx
  case amend =>
    rcases actAmend_cases p payload s with he | ⟨x, z, y, hx, he⟩
    · exact hnothing he
    · rw [he]; exact workKeeps_amendTaken (hok _ z hx.passes.zone) hx
  case retire =>
    rcases actRetire_cases p payload s with he | ⟨x, z, _, hz, ht, he⟩
    · exact hnothing he
    · rw [he]; exact workKeeps_retireTaken hz ht
  case arm =>
    rcases actArm_cases p payload s with he | ⟨x, z, _, hz, ha, he⟩
    · exact hnothing he
    · rw [he]; exact workKeeps_arm (hok _ z hz.zone) hz ha _ _
  case disarm =>
    rcases actDisarm_cases p payload s with he | ⟨x, z, _, hz, ht, _, he⟩
    · exact hnothing he
    · rw [he]; exact workKeeps_disarm hz ht
  case clear =>
    rcases actClear_cases p payload s with he | ⟨x, z, hparse, hz, _, he⟩
    · exact hnothing he
    · rw [he]; exact workKeeps_clear hz ⟨trivial, hparse⟩ _ _
  case transfer =>
    rcases actTransfer_cases p payload s with he | ⟨x, choice, z, _, hz, _, he⟩
    · exact hnothing he
    · rw [he]; exact .of_zone hz rfl ⟨rfl, rfl, rfl⟩ (.redefined (frozenAtLayout_eq_false.mp hz.frozen) rfl id)
  case releaseAll =>
    rcases actReleaseAll_cases p payload s with he | ⟨hl, he⟩
    · exact hnothing he
    · simp only [he]; exact workKeeps_releasedAll hl
  case reclaim =>
    rcases actReclaim_cases p payload s with he | ⟨i, _, hl, hq, he⟩
    · exact hnothing he
    · rw [he]
      have hempty (z : Zone) : s.slot i ≠ .live z := by rw [hq]; exact nofun
      exact .of_slot (i := i) rfl ⟨rfl, rfl, rfl⟩ (fun z hz => absurd hz (hempty z)) (.made hl hempty)
  case readZone => exact hnothing (actReadZone_changesNothing ..)
  case find => exact hnothing (actFind_changesNothing ..)
  case list => exact hnothing (actList_changesNothing ..)
  case setAxis =>
    rcases actSetAxis_cases p payload s with he | ⟨n, x, _, hl, he⟩
    · exact hnothing he
    · have hu := untouched_axisEffect n (s.axisConfig n) (x.apply (s.axisConfig n)) (s.setAxisConfig n (x.apply (s.axisConfig n)))
      rw [he]
      exact .of_config (by exact hu.slots) hl (by exact hu.freeze)
  case setLines =>
    rcases actSetLines_cases p payload s with he | ⟨x, _, hl, he⟩
    · exact hnothing he
    · rw [he]; exact .of_config rfl hl rfl
  case setPorts =>
    rcases actSetPorts_cases p payload s with he | ⟨x, _, he⟩
    · exact hnothing he
    · rw [he]; exact .of_untouched ⟨rfl, rfl, rfl, rfl⟩
  case freeze =>
    rcases actFreeze_cases p payload s with he | ⟨l, _, hrank, he⟩
    · exact hnothing he
    · rw [he]
      exact ⟨fun _ _ _ _ => rfl, fun _ => .kept _, fun _ => rfl, fun _ => rfl, hrank⟩
  case readConfig => exact hnothing (actReadConfig_changesNothing ..)
end

/-! ### The work of the evaluator -/

section
variable {clears : Handle → Prop} {s : State}

/-- A judgement of zones that are armed and not TRIPPED keeps what the freeze levels and the trips protect. -/
theorem Judgement.Visited.protects {g : Judgement} {l : List SlotNo} {w : Work} (h : g.Visited s l w)
    (hacts : ∀ z, g.acts z = true → z.occupancy ≠ .tripped)
    (hzone : ∀ z, SameDefinition z (g.zone z) ∧ (g.zone z).armed = z.armed) : Protects clears s w.state := by
  obtain ⟨a, b, hframe⟩ := h.frame
  refine .of_slots (by rw [hframe]; exact ⟨rfl, rfl, rfl⟩) fun i => ?_
  by_cases ha : i ∈ l ∧ ∃ z, g.actsAt s i z
  · obtain ⟨hi, z, hz⟩ := ha
    rw [(h.acted i hi z hz).1, zone_eq_some_iff.mp hz.1]
    exact .judged (hzone z).1 (fun _ => (hzone z).2) (hacts z hz.2)
  · rw [(h.kept i fun hi z hz => ha ⟨hi, z, hz⟩).1]
    exact .kept _

theorem protects_passWork (n : Axis) (hnodup : (s.zoneList n .absolute ++ s.zoneList n .periodic).Nodup) :
    Protects clears s (passWork n s).state := by
  have hbegun : Untouched s (s.setPass n none) := ⟨rfl, rfl, rfl, rfl⟩
  unfold passWork
  dsimp only
  split
  · split
    · next x _ =>
      rw [visit_eq]
      have hv := Judgement.visited_foldl (passJudgement x)
        ((s.setPass n none).setTracker n (afterPassSpan ((s.setPass n none).tracker n))) hnodup
      exact (hv.protects (fun z ha => ((evaluated_iff z).mp ha).2)
        fun z => ⟨⟨rfl, rfl, rfl, rfl, rfl, rfl, rfl, rfl, rfl, rfl, rfl, rfl, rfl⟩, rfl⟩).between ⟨rfl, rfl, rfl, rfl⟩ (.refl _)
    · exact hbegun.protects
  · exact hbegun.protects

theorem protects_expiryWork (i : SlotNo) : Protects clears s (expiryWork i s).state := by
  have hcancelled : Untouched s (cancelDwell i s) := ⟨rfl, rfl, rfl, rfl⟩
  unfold expiryWork
  dsimp only
  split
  · next z d hz _ =>
    split
    · next hq =>
      rw [changeZone_eq]
      refine .of_slots ⟨rfl, rfl, rfl⟩ fun j => ?_
      dsimp only
      rw [State.setSlot_at]
      split
      · next hj =>
        subst hj
        rw [zone_eq_some_iff.mp hz]
        exact .judged (sameDefinition_zoneAt z _ z.armed) (fun _ => rfl) (by rw [hq.2]; decide)
      · exact .kept _
    · exact hcancelled.protects
  · exact hcancelled.protects

theorem protects_settleAxis (n : Axis) (f : Zone → Occupancy) : Protects clears s (settleAxis n f s).state :=
  (visited_settleAxis n f s).protects
    (fun z ha => by
      simp only [settleJudgement, Bool.and_eq_true] at ha
      exact ((evaluated_iff z).mp ha.1).2)
    fun z => ⟨sameDefinition_zoneAt z _ z.armed, rfl⟩

theorem untouched_takeCondition (n : Axis) : Untouched s (takeCondition n s) := ⟨rfl, rfl, rfl, rfl⟩
end

end Sys2Proof.Machine
end

section
/-! What a step of a RUNNING part protects (R6, R97, R165 to R167): one case per row that takes the table, and the resets. -/

namespace Sys2Proof.Machine

theorem HandedOver.untouched {w : Work} {t : State} (h : HandedOver w t) : Untouched w.state t :=
  ⟨h.table.slots, h.config.axes, h.config.lines, h.config.freeze⟩

theorem untouched_beginGrant (p : Port) (s : State) : Untouched s (beginGrant p s) := ⟨rfl, rfl, rfl, rfl⟩

theorem untouched_beginEvaluation (s : State) : Untouched s (beginEvaluation s) := ⟨rfl, rfl, rfl, rfl⟩

theorem WorkKeeps.between {p : Port} {clears : Handle → Prop} {s u v t : State} (h : WorkKeeps p clears u v) (hs : Untouched s u)
    (ht : Untouched v t) : WorkKeeps p clears s t := by
  refine ⟨fun i z hz ho => ?_, h.protects.between hs ht⟩
  rw [ht.slot, h.others i z (by rw [zone_congr (hs.slot i), hz]) ho, hs.slot]

/-- A grant to a port does what the work of its command does, and names its zone's CLEAR where it is one. -/
theorem workKeeps_tableGrant {s : State} (h : Good s) (p : Port) (c : TableCommand) :
    WorkKeeps p (fun x => c = .clear ∧ ClearGranted s p x) s (tableGrant p c (actOf c) s) := by
  unfold tableGrant
  cases hg : granted s p with
  | none => exact .of_untouched (.refl s)
  | some g =>
    dsimp only
    split
    · next hc =>
      have hd := h.running_of_granted hg
      have hnamed (x : Handle) (hx : c = .clear ∧ parseHandle g.payload = some x) : c = .clear ∧ ClearGranted s p x := by
        obtain ⟨rfl, hparse⟩ := hx
        refine ⟨rfl, g.payload, hparse, ?_⟩
        rw [← hc]
        rcases granted_eq_some hg with ⟨_, hrunning⟩ | ⟨tag, _, hdue⟩
        · exact .inr hrunning
        · exact .inl ⟨tag, hdue⟩
      have hwork := workKeeps_actOf (good_beginGrant h hd p).zones c p g.payload
      have hwork : WorkKeeps p (fun x => c = .clear ∧ ClearGranted s p x) (beginGrant p s)
          (actOf c p g.payload (beginGrant p s)).work.state := ⟨hwork.others, hwork.protects.imp hnamed⟩
      have hdone := hwork.between (untouched_beginGrant p s) (handedOver _).untouched
      split
      · exact hdone.between (.refl s) (untouched_setPort ..)
      · exact hdone
    · exact .of_untouched (.refl s)

theorem protects_evaluatorGrant {clears : Handle → Prop} {s : State} {w : WorkItem} {act : State → Work}
    (h : EvaluatorDue s w → Protects clears (beginEvaluation s) (act (beginEvaluation s)).state) :
    Protects clears s (evaluatorGrant w act s) := by
  by_cases hdue : EvaluatorDue s w
  · rw [evaluatorGrant_due act hdue]
    exact (h hdue).between (untouched_beginEvaluation s) (handedOver _).untouched
  · rw [evaluatorGrant_not_due act fun e => hdue ⟨e.1, e.2⟩]
    exact (Untouched.refl s).protects

theorem protects_unsureWork {clears : Handle → Prop} (n : Axis) (s : State) : Protects clears s (unsureWork n s).state := by
  unfold unsureWork
  dsimp only
  generalize hu : State.setTracker _ n _ = u
  refine (protects_settleAxis (s := u) n policyOccupancy).between ?_ (.refl _)
  rw [← hu]
  exact ⟨rfl, rfl, rfl, rfl⟩

theorem protects_sureWork {clears : Handle → Prop} (n : Axis) (s : State) : Protects clears s (sureWork n s).state := by
  unfold sureWork
  have hu : Untouched s ((takeCondition n s).setAvailable n true) := ⟨rfl, rfl, rfl, rfl⟩
  generalize (takeCondition n s).setAvailable n true = u at hu
  have hasked : Untouched u (setPassPending n u) := by
    rw [setPassPending_eq]
    exact ⟨rfl, rfl, rfl, rfl⟩
  exact (protects_settleAxis n _).between (hu.trans hasked) (.refl _)

/-- A full reset leaves the part STARTING (R139). -/
theorem starting_of_fullReset {s t : State} {cause : ResetCause} {tear : Tear} (ht : exec (.fullReset cause tear) s = .next t) :
    t.device = .starting := by
  cases cause <;> cases ht <;> rfl

/-- What every command and event that leaves the part RUNNING protects of a RUNNING part. -/
theorem protects_exec {c : Instr} {s t : State} (h : Good s) (hd : s.device = .running) (ht : exec c s = .next t)
    (hrun : t.device = .running) : Protects (fun x => ∃ p, c = .clear p ∧ ClearGranted s p x) s t := by
  have hgrant {p : Port} {k : TableCommand} (hc : c = grantOf p k) :
      Protects (fun x => ∃ p, c = .clear p ∧ ClearGranted s p x) s t := by
    rw [hc, exec_grantOf] at ht
    cases ht
    refine (workKeeps_tableGrant h p k).protects.imp fun x hx => ⟨p, ?_, hx.2⟩
    rw [hc, hx.1]
    rfl
  have hrest (hc : LeavesTheTable c) := (untouched_exec h hd hc ht).protects (clears := fun x => ∃ p, c = .clear p ∧ ClearGranted s p x)
  cases c with
  | fullReset cause tear => cases (starting_of_fullReset ht).symm.trans hrun
  | restart p tag tear =>
    have ht' : execRestart p tag tear s = .next t := ht
    unfold execRestart at ht'
    split at ht'
    · cases ht'
      cases hrun
    · cases ht'
      exact (Untouched.refl s).protects
  | create p => exact hgrant (p := p) (k := .create) rfl
  | amend p => exact hgrant (p := p) (k := .amend) rfl
  | retire p => exact hgrant (p := p) (k := .retire) rfl
  | arm p => exact hgrant (p := p) (k := .arm) rfl
  | disarm p => exact hgrant (p := p) (k := .disarm) rfl
  | clear p => exact hgrant (p := p) (k := .clear) rfl
  | transfer p => exact hgrant (p := p) (k := .transfer) rfl
  | releaseAll p => exact hgrant (p := p) (k := .releaseAll) rfl
  | reclaim p => exact hgrant (p := p) (k := .reclaim) rfl
  | readZone p => exact hgrant (p := p) (k := .readZone) rfl
  | find p => exact hgrant (p := p) (k := .find) rfl
  | list p => exact hgrant (p := p) (k := .list) rfl
  | setAxis p => exact hgrant (p := p) (k := .setAxis) rfl
  | setLines p => exact hgrant (p := p) (k := .setLines) rfl
  | setPorts p => exact hgrant (p := p) (k := .setPorts) rfl
  | freeze p => exact hgrant (p := p) (k := .freeze) rfl
  | readConfig p => exact hgrant (p := p) (k := .readConfig) rfl
  | pass n =>
    cases ht
    exact protects_evaluatorGrant fun _ => protects_passWork n (bothLists_nodup (good_beginEvaluation h hd).table hd n)
  | dwellExpiry i =>
    cases ht
    exact protects_evaluatorGrant fun _ => protects_expiryWork i
  | axisUnsure n =>
    cases ht
    exact protects_evaluatorGrant fun _ => protects_unsureWork n _
  | axisSure n =>
    cases ht
    exact protects_evaluatorGrant fun _ => protects_sureWork n _
  | _ => exact hrest trivial

/-- What every step that leaves the part RUNNING protects of a RUNNING part. -/
theorem protects_step {s t : State} (h : Good s) (hd : s.device = .running) (ht : step s = .next t) (hrun : t.device = .running) :
    Protects (fun x => ∃ p, s.pending.head? = some (.clear p) ∧ ClearGranted s p x) s t := by
  rcases step_cases ht with rfl | ⟨c, rest, hp, hc⟩
  · exact (Untouched.refl t).protects
  · refine ((protects_exec (good_setPending h rest) hd hc hrun).imp fun x hx => ?_).between (u := s.setPending rest)
      ⟨rfl, rfl, rfl, rfl⟩ (.refl t)
    obtain ⟨p, rfl, payload, hparse, hx⟩ := hx
    refine ⟨p, by rw [hp]; rfl, payload, hparse, hx.imp_left ?_⟩
    rintro ⟨tag, hfree, hnext, hslot⟩
    exact ⟨tag, hfree, hnext, hslot⟩

/-- Settles O57: a trip is one of the things that a step protects, unless it resets the part or grants a CLEAR of the zone. -/
theorem tripsStayUntilCleared : Obligations.TripsStayUntilCleared := by
  intro s t i z h hd ht hz htrip
  cases hrun : t.device with
  | starting => exact .inr (.inl rfl)
  | running =>
    rcases ((protects_step h hd ht hrun).slots i).trip z (zone_eq_some_iff.mp hz) htrip with ⟨y, hy, hkept⟩ | hclear
    · exact .inl ⟨y, zone_of_slot hy, hkept⟩
    · exact .inr (.inr hclear)

/-- Settles O58: the work of a command passes the owner's check, and a step protects what the freeze level covers. -/
theorem ownersAndFreezeLevelsProtect : Obligations.OwnersAndFreezeLevelsProtect := by
  refine ⟨fun s t p c tag payload i z h _ ht hz ho => ?_, fun s t h hd ht hrun => ?_⟩
  · rw [exec_grantOf] at ht
    cases ht
    exact (workKeeps_tableGrant h p c).others i z hz ho
  · have hp := protects_step h hd ht hrun
    refine ⟨hp.freeze, fun hl => ⟨hp.axes hl, hp.lines hl, fun i => ⟨fun hz => ?_, fun z hz => ?_⟩⟩⟩
    · exact (hp.slots i).empty hl (zone_eq_none_iff.mp hz)
    · obtain ⟨y, hy, hkept⟩ := (hp.slots i).zone hl z (zone_eq_some_iff.mp hz)
      exact ⟨y, zone_of_slot hy, hkept⟩

end Sys2Proof.Machine
end

section
/-! Host frames (R168, R170, R171, R175, R186): the frame that encodes a command is judged well formed, and its code names the
command. -/

namespace Sys2Proof.Machine

theorem commandOfCode_code (c : Command) : commandOfCode c.code = some c := by
  cases c with
  | control c => cases c <;> rfl
  | table c => cases c <;> rfl
  | portLocal c => cases c <;> rfl

/-- The control codes are known (11.3), so an unknown code is none of them. -/
theorem not_isControlCode_of_unknown {code : Byte} (h : commandOfCode code = none) : isControlCode code = false := by
  rw [← Bool.not_eq_true, isControlCode_iff]
  intro hmem
  simp only [List.mem_cons, List.not_mem_nil, or_false] at hmem
  rcases hmem with rfl | rfl | rfl | rfl <;> cases h

theorem isControlCode_table (c : TableCommand) : isControlCode c.code = false := by cases c <;> rfl

theorem isControlCode_local (c : LocalCommand) : isControlCode c.code = false := by cases c <;> rfl

/-- A request frame is judged as its code, tag and payload, where the payload fits and a control command carries none (R170). -/
theorem judgeFrame_requestFrame {code : Byte} (tag : Byte) {payload : List Byte} (hfits : payload.length ≤ 32)
    (hcontrol : isControlCode code = true → payload = []) :
    judgeFrame (requestFrame code tag payload) = .wellFormed code tag payload := by
  by_cases hfetch : startsWithFetch (requestFrame code tag payload)
  · obtain ⟨tag', hjudged, htag⟩ := judgeFrame_of_startsWithFetch hfetch
    obtain ⟨_, _, hbytes⟩ := hfetch
    have hcode : code = 0x01 := (List.cons.inj hbytes).1
    cases htag
    rw [hjudged, hcode, hcontrol (by rw [hcode]; rfl)]
  · have hlen : (BitVec.ofNat 8 payload.length).toNat = payload.length := by
      rw [BitVec.toNat_ofNat]
      omega
    have hgood : ¬PartsMalformed code tag (BitVec.ofNat 8 payload.length) payload
        (frameCheck (code :: tag :: BitVec.ofNat 8 payload.length :: payload)) := by
      rintro (h | h | h | ⟨hc, h⟩)
      · omega
      · omega
      · exact h rfl
      · rw [hcontrol hc] at h
        exact h rfl
    rcases judgeFrame_parts_cases hfetch with ⟨hbad, _⟩ | ⟨_, hjudged⟩
    · exact absurd hbad hgood
    · exact hjudged

/-- The row that a frame of a command's own code is. -/
theorem hostCommandOf_requestFrame {c : Command} {tag : Byte} {payload : List Byte} (p : Port) (x : Circumstance)
    (hfits : payload.length ≤ 32) (hcontrol : isControlCode c.code = true → payload = []) :
    hostCommandOf p (requestFrame c.code tag payload) x = match c with
      | .control .nop => some (.nop p tag)
      | .control .fetch => some (.fetch p tag (.ends (8 * ((requestFrame c.code tag payload).length - 4))))
      | .control .portReset => some (.portReset p tag x.duringGrant)
      | .control .restart => some (.restart p tag x.tear)
      | .table c => some (.tableCommandAccept p c tag payload)
      | .portLocal c => some (localInstr p tag payload x.moment c) := by
  unfold hostCommandOf
  rw [judgeFrame_requestFrame tag hfits hcontrol]
  dsimp only
  rw [commandOfCode_code]
  cases c with
  | control c => cases c <;> rfl
  | table c => rfl
  | portLocal c => rfl

theorem hostCommandOf_local {tag : Byte} {payload : List Byte} (p : Port) (x : Circumstance) (c : LocalCommand)
    (hfits : payloadFits payload = true) :
    hostCommandOf p (requestFrame c.code tag payload) x = some (localInstr p tag payload x.moment c) :=
  hostCommandOf_requestFrame (c := .portLocal c) p x (of_decide_eq_true hfits)
    fun h => absurd h (by rw [show isControlCode (Command.portLocal c).code = _ from isControlCode_local c]; decide)

/-- A FETCH is told by its first four bytes, and by the whole bytes clocked after them (R175). -/
theorem hostCommandOf_fetch (p : Port) (tag : Byte) {clocked : Nat} (h : clocked % 8 = 0) (x : Circumstance) :
    hostCommandOf p (requestFrame 0x01 tag [] ++ List.replicate (clocked / 8) 0) x = some (.fetch p tag (.ends clocked)) := by
  have hlength : 8 * ((requestFrame 0x01 tag [] ++ List.replicate (clocked / 8) 0).length - 4) = clocked := by
    simp [requestFrame]
    omega
  obtain ⟨tag', hjudged, htag⟩ := judgeFrame_of_startsWithFetch (bytes := requestFrame 0x01 tag [] ++ List.replicate (clocked / 8) 0)
    ⟨tag, _, rfl⟩
  cases htag
  unfold hostCommandOf
  rw [hjudged, hlength]
  rfl

/-- Settles O59: by the row that the bytes are the transaction of. -/
theorem hostFramesDecodeAsEncoded : Obligations.HostFramesDecodeAsEncoded := by
  intro c p bytes x hwf ht hbits
  cases c <;> simp only [transactionOf, Option.some.injEq, Prod.mk.injEq, reduceCtorEq] at ht
  case refusedFormat q frame =>
    obtain ⟨rfl, rfl, rfl⟩ := ht
    have hjudged : judgeFrame frame = .malformed := of_decide_eq_true hwf
    unfold hostCommandOf
    rw [hjudged]
  case unknownCommand q code tag payload =>
    obtain ⟨rfl, rfl, rfl⟩ := ht
    simp only [Instr.wf, Bool.and_eq_true, Option.isNone_iff_eq_none] at hwf
    obtain ⟨hunknown, hfits⟩ := hwf
    unfold hostCommandOf
    rw [judgeFrame_requestFrame tag (of_decide_eq_true hfits)
      fun h => by rw [not_isControlCode_of_unknown hunknown] at h; cases h]
    dsimp only
    rw [hunknown]
  case fetch q tag m =>
    cases m <;> simp only [Option.some.injEq, Prod.mk.injEq, reduceCtorEq] at ht
    obtain ⟨rfl, rfl, rfl⟩ := ht
    exact hostCommandOf_fetch q tag (hbits q tag _ rfl) _
  case tableCommandAccept q k tag payload =>
    obtain ⟨rfl, rfl, rfl⟩ := ht
    exact hostCommandOf_requestFrame (c := .table k) q _ (of_decide_eq_true hwf)
      fun h => absurd h (by rw [show isControlCode (Command.table k).code = _ from isControlCode_table k]; decide)
  case nop q tag =>
    obtain ⟨rfl, rfl, rfl⟩ := ht
    exact hostCommandOf_requestFrame (c := .control .nop) q _ (by decide) fun _ => rfl
  case portReset q tag duringGrant =>
    obtain ⟨rfl, rfl, rfl⟩ := ht
    exact hostCommandOf_requestFrame (c := .control .portReset) q _ (by decide) fun _ => rfl
  case restart q tag tear =>
    obtain ⟨rfl, rfl, rfl⟩ := ht
    exact hostCommandOf_requestFrame (c := .control .restart) q _ (by decide) fun _ => rfl
  all_goals
    obtain ⟨rfl, rfl, rfl⟩ := ht
    exact hostCommandOf_local _ _ _ hwf

end Sys2Proof.Machine
end

section
/-! The fields of the records (11.2, R185, R187): each is read back as it was written. -/

namespace Sys2Proof.Machine

/-! ### Single fields -/

theorem half_extract (w : Half) : half (w.extractLsb' 8 8) (w.extractLsb' 0 8) = w := by
  unfold half
  rw [BitVec.extractLsb'_append_extractLsb'_eq_extractLsb' (by rfl)]
  simp

theorem turnOf_turnBits (t : Turn) : turnOf (turnBits t) = some t := by
  have h : (t.signExtend 16).setWidth 12 = t := by
    ext i hi
    simp [show i < 16 by omega, BitVec.getElem_signExtend, hi]
  unfold turnOf turnBits
  rw [h]
  exact if_pos rfl

theorem posOf_fields (p : ExtPos) : posOf (turnBits p.turn) p.angle = some p := by
  unfold posOf
  rw [turnOf_turnBits]
  rfl

theorem lineOf_lineCode (l : Option LineNo) : lineOf (lineCode l) = some l := by
  cases l with
  | none => rfl
  | some l => revert l; decide

theorem setWidth_setWidth_of_le {m n : Nat} (h : m ≤ n) (x : BitVec m) : (x.setWidth n).setWidth m = x := by
  rw [BitVec.setWidth_setWidth_of_le x h, BitVec.setWidth_eq]

theorem hysteresisOf_setWidth (x : BitVec 12) : hysteresisOf (x.setWidth 16) = some x := by
  have hlt : (x.setWidth 16).toNat < 4096 := by
    rw [BitVec.toNat_setWidth]
    omega
  unfold hysteresisOf
  rw [if_pos hlt, setWidth_setWidth_of_le (by decide)]

theorem maxStepOf_setWidth {x : BitVec 15} (h : x ≠ 0) : maxStepOf (x.setWidth 16) = some x := by
  have hne : x.toNat ≠ 0 := fun e => h (BitVec.eq_of_toNat_eq e)
  have hrange : 1 ≤ (x.setWidth 16).toNat ∧ (x.setWidth 16).toNat ≤ 32767 := by
    rw [BitVec.toNat_setWidth]
    omega
  unfold maxStepOf
  rw [if_pos hrange, setWidth_setWidth_of_le (by decide)]

theorem jumpLimitOf_setWidth {x : BitVec 4} (h : x ≠ 0) : jumpLimitOf (x.setWidth 8) = some x := by
  have hne : x.toNat ≠ 0 := fun e => h (BitVec.eq_of_toNat_eq e)
  have hrange : 1 ≤ (x.setWidth 8).toNat ∧ (x.setWidth 8).toNat ≤ 15 := by
    rw [BitVec.toNat_setWidth]
    omega
  unfold jumpLimitOf
  rw [if_pos hrange, setWidth_setWidth_of_le (by decide)]

theorem freezeOf_freezeCode (l : FreezeLevel) : freezeOf (freezeCode l) = some l := by cases l <;> rfl

/-! ### The definition block (11.2) -/

/-- Byte 0 of a definition block from its fields. -/
def packed0 (kind : Kind) (persistent : Bool) (axis : Axis) (action : Action) (armed exclusive tripMark : Bool) : Byte :=
  (if kind = .periodic then 0x80 else 0) ||| (if persistent then 0 else 0x40) ||| (BitVec.ofNat 8 axis.val <<< 4) |||
  (if action = .latch then 0x08 else 0) ||| (if armed then 0x04 else 0) ||| (if exclusive then 0x02 else 0) |||
  (if tripMark then 0x01 else 0)

theorem blockByte0_eq (z : Zone) :
    blockByte0 z = packed0 z.bounds.kind z.persistent z.axis z.action z.armed z.exclusive z.tripMark := rfl

/-- The bits of byte 0 are its fields (11.2). -/
structure Fields0 (b : Byte) (kind : Kind) (persistent : Bool) (axis : Axis) (action : Action) (armed exclusive tripMark : Bool) :
    Prop where
  kind : b.getLsbD 7 = decide (kind = .periodic)
  persistent : b.getLsbD 6 = !persistent
  axis : (b.extractLsb' 4 2).toFin = axis
  action : b.getLsbD 3 = decide (action = .latch)
  armed : b.getLsbD 2 = armed
  exclusive : b.getLsbD 1 = exclusive
  tripMark : b.getLsbD 0 = tripMark

theorem fields0_packed0 (kind : Kind) (persistent : Bool) (axis : Axis) (action : Action) (armed exclusive tripMark : Bool) :
    Fields0 (packed0 kind persistent axis action armed exclusive tripMark) kind persistent axis action armed exclusive tripMark := by
  have h : ∀ kind ∈ [Kind.absolute, .periodic], ∀ action ∈ [Action.follow, .latch], ∀ persistent armed exclusive tripMark : Bool,
      ∀ axis : Axis,
      let b := packed0 kind persistent axis action armed exclusive tripMark
      b.getLsbD 7 = decide (kind = .periodic) ∧ b.getLsbD 6 = !persistent ∧ (b.extractLsb' 4 2).toFin = axis ∧
        b.getLsbD 3 = decide (action = .latch) ∧ b.getLsbD 2 = armed ∧ b.getLsbD 1 = exclusive ∧ b.getLsbD 0 = tripMark := by
    decide
  obtain ⟨h7, h6, h4, h3, h2, h1, h0⟩ := h kind (by cases kind <;> decide) action (by cases action <;> decide) persistent armed
    exclusive tripMark axis
  exact ⟨h7, h6, h4, h3, h2, h1, h0⟩

/-- The bits of byte 1 are its fields (11.2). -/
theorem fields1_blockByte1 (z : Zone) :
    ownerOfCode ((blockByte1 z).extractLsb' 6 2) = some z.owner ∧ policyOf ((blockByte1 z).extractLsb' 4 2) = some z.policy ∧
      (blockByte1 z).extractLsb' 0 4 = z.priority := by
  have h : ∀ priority : BitVec 4, ∀ owner ∈ [Owner.a, .b, .shared], ∀ policy ∈ [StalePolicy.hold, .asserts, .release],
      ownerOfCode ((ownerCode owner ++ policyCode policy ++ priority).extractLsb' 6 2) = some owner ∧
        policyOf ((ownerCode owner ++ policyCode policy ++ priority).extractLsb' 4 2) = some policy ∧
          (ownerCode owner ++ policyCode policy ++ priority).extractLsb' 0 4 = priority := by
    decide
  exact h z.priority z.owner (by cases z.owner <;> decide) z.policy (by cases z.policy <;> decide)

/-- A block holds the fields of a zone. -/
structure BlockOf (z : Zone) (b : Block) : Prop where
  first : Fields0 b.b0 z.bounds.kind z.persistent z.axis z.action z.armed z.exclusive z.tripMark
  owner : b.owner = some z.owner
  policy : b.policy = some z.policy
  priority : b.priority = z.priority
  line : lineOf b.line = some z.line
  dwell : b.dwell = z.dwell
  hysteresis : hysteresisOf b.hysteresis = some z.hysteresis
  bounds : b.bounds = some z.bounds
  labelLength : b.labelLength = countByte z.label.length

theorem Fields0.block {b : Block} {kind : Kind} {persistent : Bool} {axis : Axis} {action : Action} {armed exclusive tripMark : Bool}
    (h : Fields0 b.b0 kind persistent axis action armed exclusive tripMark) :
    b.kind = kind ∧ b.persistent = persistent ∧ b.axis = axis ∧ b.action = action ∧ b.armed = armed ∧ b.exclusive = exclusive ∧
      b.tripMark = tripMark := by
  refine ⟨?_, ?_, h.axis, ?_, h.armed, h.exclusive, h.tripMark⟩
  · unfold Block.kind
    rw [h.kind]
    cases kind <;> rfl
  · unfold Block.persistent
    rw [h.persistent, Bool.not_not]
  · unfold Block.action
    rw [h.action]
    cases action <;> rfl

/-- The block of a zone is read back, and leaves the bytes that follow it. -/
theorem readBlock_writeBlock (z : Zone) (rest : List Byte) : ∃ b, readBlock (writeBlock z ++ rest) = some (b, rest) ∧ BlockOf z b := by
  have hfirst := fields0_packed0 z.bounds.kind z.persistent z.axis z.action z.armed z.exclusive z.tripMark
  rw [← blockByte0_eq] at hfirst
  obtain ⟨howner, hpolicy, hpriority⟩ := fields1_blockByte1 z
  have hhyst := hysteresisOf_setWidth z.hysteresis
  have hline := lineOf_lineCode z.line
  cases hb : z.bounds with
  | absolute lower upper =>
    refine ⟨⟨blockByte0 z, blockByte1 z, lineCode z.line, z.dwell, z.hysteresis.setWidth 16, turnBits lower.turn, lower.angle,
      turnBits upper.turn, upper.angle, countByte z.label.length⟩, ?_, ?_⟩
    · simp only [writeBlock, hb, boundsBytes, posBytes, halfBytes, List.cons_append, List.nil_append, readBlock, half_extract]
    · refine ⟨hfirst, howner, hpolicy, hpriority, hline, rfl, hhyst, ?_, rfl⟩
      unfold Block.bounds
      rw [hfirst.block.1, hb]
      simp [Bounds.kind, posOf_fields]
  | periodic start stop =>
    refine ⟨⟨blockByte0 z, blockByte1 z, lineCode z.line, z.dwell, z.hysteresis.setWidth 16, start, stop, 0, 0,
      countByte z.label.length⟩, ?_, ?_⟩
    · simp only [writeBlock, hb, boundsBytes, halfBytes, List.cons_append, List.nil_append, readBlock, half_extract]
      rfl
    · refine ⟨hfirst, howner, hpolicy, hpriority, hline, rfl, hhyst, ?_, rfl⟩
      unfold Block.bounds
      rw [hfirst.block.1, hb]
      rfl

theorem writeBlock_length (z : Zone) : (writeBlock z).length = 15 := by
  unfold writeBlock
  cases z.bounds <;> rfl

/-! ### The configuration records (11.2) -/

theorem decodeAxis_axisBytes {c : AxisConfig} (hstep : c.maxStep ≠ 0) (hjump : c.jumpLimit ≠ 0) (rest : List Byte) :
    decodeAxis (axisBytes c ++ rest) = some c := by
  have hflags : ∀ enabled reverse preset : Bool,
      let b : Byte := (if enabled then 0x80 else 0) ||| (if reverse then 0x40 else 0) ||| (if preset then 0x20 else 0)
      b.getLsbD 7 = enabled ∧ b.getLsbD 6 = reverse ∧ b.getLsbD 5 = preset := by decide
  obtain ⟨h7, h6, h5⟩ := hflags c.enabled c.reverse (decide (c.initMode = .preset))
  have hmode : initModeOf (decide (c.initMode = .preset)) = c.initMode := by cases c.initMode <;> rfl
  simp only [decide_eq_true_eq] at h7 h6 h5
  simp only [axisBytes, halfBytes, List.cons_append, List.nil_append, decodeAxis, half_extract, maxStepOf_setWidth hstep,
    jumpLimitOf_setWidth hjump, turnOf_turnBits, h7, h6, h5, hmode]

theorem getLsbD_lineBits (f : LineNo → Bool) (l : LineNo) : (lineBits f).getLsbD l.val = f l := by
  have hfold (ls : List LineNo) (acc : Byte) :
      (ls.foldl (fun acc l => acc ||| (if f l then (1 : Byte) <<< l.val else 0)) acc).getLsbD l.val =
        (acc.getLsbD l.val || (decide (l ∈ ls) && f l)) := by
    induction ls generalizing acc with
    | nil => simp
    | cons m ls ih =>
      have hbit : (if f m then (1 : Byte) <<< m.val else 0).getLsbD l.val = (decide (l = m) && f l) := by
        by_cases hlm : l = m
        · subst hlm
          cases f l with
          | false => simp
          | true => simp [l.isLt]
        · have hne : l.val ≠ m.val := fun e => hlm (Fin.ext e)
          cases f m with
          | false => simp [hlm]
          | true => simp [hlm]; omega
      rw [List.foldl_cons, ih, BitVec.getLsbD_or, hbit]
      by_cases hlm : l = m
      · subst hlm
        cases f l <;> simp
      · simp [hlm]
  unfold lineBits
  rw [hfold]
  simp [allLines]

theorem decodeLines_linesBytes (v : Vector LineConfig 8) (rest : List Byte) : decodeLines (linesBytes v ++ rest) = some v := by
  have hpolarity (x : Polarity) : polarityOf (decide (x = .activeLow)) = x := by cases x <;> rfl
  simp only [linesBytes, List.cons_append, List.nil_append, decodeLines, Option.some.injEq]
  refine Vector.ext fun i hi => ?_
  have hv := getLsbD_lineBits (fun l => v[l].enabled) ⟨i, hi⟩
  have hp := getLsbD_lineBits (fun l => decide (v[l].polarity = .activeLow)) ⟨i, hi⟩
  dsimp only at hv hp
  simp only [Vector.getElem_ofFn, hv, hp, hpolarity]
  rfl

theorem decodePort_portBytes (c : PortConfig) (rest : List Byte) : ∃ flags : Byte,
    portBytes c ++ rest = (c.mask.setWidth 16).extractLsb' 8 8 :: (c.mask.setWidth 16).extractLsb' 0 8 :: flags :: rest ∧
      decodePort (c.mask.setWidth 16) flags = some c := by
  refine ⟨(subscriptionCode c.subscription).setWidth 8 ||| (if c.attentionOnDone then 4 else 0), rfl, ?_⟩
  have h : ∀ x ∈ [Subscription.none, .own, .all], ∀ b : Bool,
      let flags : Byte := (subscriptionCode x).setWidth 8 ||| (if b then 4 else 0)
      subscriptionOf (flags.extractLsb' 0 2) = some x ∧ flags.getLsbD 2 = b := by decide
  obtain ⟨hs, hb⟩ := h c.subscription (by cases c.subscription <;> decide) c.attentionOnDone
  unfold decodePort
  rw [hs, hb, maskOf, setWidth_setWidth_of_le (by decide)]
  rfl

theorem decodePorts_bytes (c : PerPort PortConfig) (rest : List Byte) :
    decodePorts (portBytes c.a ++ portBytes c.b ++ rest) = some c := by
  obtain ⟨fa, ha, hda⟩ := decodePort_portBytes c.a (portBytes c.b ++ rest)
  obtain ⟨fb, hb, hdb⟩ := decodePort_portBytes c.b rest
  rw [List.append_assoc, ha, hb]
  simp only [decodePorts, half_extract, hda, hdb]

end Sys2Proof.Machine
end

section
/-! Stored images (R187): an image is its item number, its generation, its content and 00h to 32 bytes; the content is read back
whatever follows it. -/

namespace Sys2Proof.Machine

theorem paddedLabel_length (label : List Byte) : (paddedLabel label).length = 8 := by
  simp [paddedLabel]

theorem axisBytes_length (c : AxisConfig) : (axisBytes c).length = 9 := rfl

theorem portBytes_length (c : PortConfig) : (portBytes c).length = 3 := rfl

/-- Every content leaves room in its image (R187). -/
theorem contentBytes_length_le (c : Content) : (contentBytes c).length ≤ 25 := by
  cases c <;> simp [contentBytes, writeBlock_length, paddedLabel_length, axisBytes_length, linesBytes, portBytes_length]

/-- An image in its parts. -/
theorem encodeImage_eq (k : ItemNo) (g : Byte) (c : Content) : encodeImage k g c =
    countByte k.val :: g :: (contentBytes c ++ List.replicate (30 - (contentBytes c).length) 0) := by
  have h := contentBytes_length_le c
  unfold encodeImage
  rw [show Config.imageBytes = 30 + 1 + 1 from rfl]
  simp only [List.cons_append, List.take_succ_cons, List.take_append, List.take_replicate]
  rw [List.take_of_length_le (by omega), Nat.min_eq_left (by omega)]

theorem encodeImage_length (k : ItemNo) (g : Byte) (c : Content) : (encodeImage k g c).length = 32 := by
  have h := contentBytes_length_le c
  rw [encodeImage_eq]
  simp
  omega

theorem imageGeneration_encodeImage (k : ItemNo) (g : Byte) (c : Content) : imageGeneration (encodeImage k g c) = g := by
  rw [encodeImage_eq]
  rfl

/-- The label stands at the front of its padded form. -/
theorem take_paddedLabel {label : List Byte} (h : label.length ≤ 8) (rest : List Byte) :
    (paddedLabel label ++ rest).take (countByte label.length).toNat = label := by
  have hcount : (countByte label.length).toNat = label.length := by
    rw [countByte, BitVec.toNat_ofNat]
    omega
  rw [hcount, paddedLabel_eq h, List.append_assoc, List.take_left]

/-- A PERSISTENT zone is read back as the load restores it (R19, R141). -/
theorem decodeLive_writeBlock {z : Zone} (h : ZoneOk z) (hp : z.persistent = true) (rest : List Byte) :
    decodeLive (z.incarnation :: (writeBlock z ++ (paddedLabel z.label ++ rest))) = some (restored z) := by
  obtain ⟨b, hread, hb⟩ := readBlock_writeBlock z (paddedLabel z.label ++ rest)
  obtain ⟨_, hpersistent, haxis, haction, harmed, hexclusive, htrip⟩ := hb.first.block
  have hlabel : b.labelLength.toNat ≤ 8 := by
    have := h.label
    rw [hb.labelLength, countByte, BitVec.toNat_ofNat]
    omega
  have htripped (ht : z.tripMark = true) : z.action = .latch ∧ z.armed = true := by
    have ho := h.tripMark.mp ht
    refine ⟨h.tripped ho, ?_⟩
    rw [← Bool.not_eq_false]
    exact fun ha => by cases ho.symm.trans (h.disarmed ha)
  have hproper : z.incarnation ≠ 0 ∧ b.persistent = true ∧ b.labelLength.toNat ≤ 8 ∧ boundsOk z.bounds z.hysteresis = true ∧
      (b.tripMark = true → b.action = .latch ∧ b.armed = true) := by
    rw [hpersistent, htrip, haction, harmed]
    exact ⟨h.incarnation, hp, hlabel, h.bounds, htripped⟩
  unfold decodeLive
  simp only [hread, hb.bounds, hb.hysteresis, hb.line, hb.policy, hb.owner]
  rw [if_pos hproper, hb.labelLength, take_paddedLabel h.label, haxis, haction, harmed, hexclusive, htrip, hb.dwell, hb.priority]
  simp [restored, hp]

/-! ### The kinds of items -/

theorem itemKind_of_slot {k : ItemNo} (h : k.val < 96) : itemKind k = .slot ⟨k.val, h⟩ := dif_pos h

theorem itemKind_of_axis {k : ItemNo} (h : 96 ≤ k.val) (hlt : k.val < 100) : itemKind k = .axis ⟨k.val - 96, by omega⟩ := by
  unfold itemKind
  rw [dif_neg (by omega), dif_pos (by omega)]

theorem itemKind_of_record {k : ItemNo} (h : 100 ≤ k.val) :
    itemKind k = if k.val = 100 then .lines else if k.val = 101 then .ports else .freeze := by
  unfold itemKind
  rw [dif_neg (by omega), dif_neg (by omega)]

/-- What the load makes of a content: a zone restored, and a record as it is. -/
def loadedContent : Content → Content
  | .live z => .live (restored z)
  | .vacant r => .vacant r
  | .axis c => .axis c
  | .lines v => .lines v
  | .ports c => .ports c
  | .freeze l => .freeze l

/-- The image of a proper content is read back, whatever fills it up. -/
theorem decodeImage_contentBytes {k : ItemNo} {c : Content} (h : ProperContent k c) (g : Byte) (rest : List Byte) :
    decodeImage k (countByte k.val :: g :: (contentBytes c ++ rest)) = some (loadedContent c) := by
  cases c with
  | vacant r => simp [contentBytes, decodeImage, itemKind_of_slot h, loadedContent]
  | live z =>
    obtain ⟨hk, hz, hp⟩ := h
    have hlive := decodeLive_writeBlock hz hp rest
    simp [contentBytes, decodeImage, itemKind_of_slot hk, hlive, loadedContent]
  | axis x =>
    obtain ⟨hk, hlt, hstep, hjump⟩ := h
    simp [contentBytes, decodeImage, itemKind_of_axis hk hlt, decodeAxis_axisBytes hstep hjump, loadedContent]
  | lines v =>
    have hk : k.val = 100 := h
    simp [contentBytes, decodeImage, itemKind_of_record hk.ge, hk, decodeLines_linesBytes, loadedContent]
  | ports x =>
    have hk : k.val = 101 := h
    have hports := decodePorts_bytes x rest
    rw [List.append_assoc] at hports
    simp [contentBytes, decodeImage, itemKind_of_record (k := k) (by omega), hk, hports, loadedContent]
  | freeze l =>
    have hk : k.val = 102 := h
    simp [contentBytes, decodeImage, itemKind_of_record (k := k) (by omega), hk, freezeOf_freezeCode, loadedContent]

theorem decodeImage_encodeImage {k : ItemNo} {c : Content} (h : ProperContent k c) (g : Byte) :
    decodeImage k (encodeImage k g c) = some (loadedContent c) := by
  rw [encodeImage_eq]
  exact decodeImage_contentBytes h g _

/-- Settles O60: by the parts of an image and the fields of its content. -/
theorem imagesDecodeAsEncoded : Obligations.ImagesDecodeAsEncoded := by
  intro k g c h
  have hdecoded := decodeImage_encodeImage h g
  refine ⟨encodeImage_length k g c, imageGeneration_encodeImage k g c, ?_, ?_⟩
  · unfold imageWf
    rw [hdecoded]
    rfl
  · rw [hdecoded]
    cases c <;> rfl

end Sys2Proof.Machine
end
